-- ==== Sys2Proof/Word.lean ====
section
/-! DEFINITION. Word.lean: the word types of the H192's registers and byte streams. -/

namespace Sys2Proof

/-- A 32-bit register word: BAR0 accepts naturally aligned accesses of 32 bits (R529). -/
abbrev Word := BitVec 32

/-- A byte of a frame, a buffer or device memory. -/
abbrev Byte := BitVec 8

end Sys2Proof
end

