-- ==== Sys2Proof/Syntax.lean ====
section
/-! DEFINITION. Syntax.lean: the commands and events of the block, one constructor per row of spec/opcode_table.json,
and the types of their operands. Every command carries `t`, the time of its arrival in units of 1/1,944 ns (a tick is
12,500 units, a core cycle 1,215): log entry 1. -/

namespace Sys2Proof

/-- PON channel (R23). -/
abbrev Chan := Fin 192
/-- Slice. -/
abbrev SliceIx := Fin 8
/-- Uplink logical port (R24). -/
abbrev PortIx := Fin 64
/-- Host ring. -/
abbrev RingIx := Fin 1024
/-- Cipher cluster. -/
abbrev ClusterIx := Fin 32
/-- Terminal context of a channel. -/
abbrev TermIx := Fin 256
/-- Virtual function; 0 stands for none. -/
abbrev VfIx := Fin 64

/-- The two access paths of the registers (R531, R532). -/
inductive Path where
  | host | mgmt
  deriving DecidableEq, Repr

/-- The BARs that hold registers (R527). -/
inductive Bar where
  | pf0 | pf4
  | vf0 (v : VfIx)
  | vf4 (v : VfIx)
  deriving DecidableEq, Repr

/-- One command of a ring as its row runs it: the fields of its descriptor (16 Table 2), what its buffer reads as
(none: the read fails), and whether its result and its completion can be written. -/
structure Cmd where
  ring : RingIx
  flags : Nat
  spec : Nat
  len : Nat
  addr : Nat
  cookie : Nat
  aux : Nat
  buf : Option (List Byte)
  resOk : Bool
  cmplOk : Bool
  deriving DecidableEq, Repr

/-- The fields of a descriptor (16 Table 2). -/
structure Desc where
  opcode : Nat
  flags : Nat
  spec : Nat
  len : Nat
  addr : Nat
  cookie : Nat
  aux : Nat
  deriving DecidableEq, Repr

/-- What the received bytes hold at one offset of an allocation payload, read as an XGEM header (R59): how many bit
errors its HEC corrects (3: more than 2), its fields, its payload, and whether the frame overlaps an uncorrectable
codeword (R58). -/
structure XgemRx where
  off : Nat
  hecErrs : Nat
  pli : Nat
  keyIdx : Nat
  portId : Nat
  opts : Nat
  last : Bool
  payload : List Byte
  bad : Bool
  deriving DecidableEq, Repr

/-- One allocation of a burst as received: its DBRu (value and whether its CRC-8 checks), the length of its payload and
the headers in it. -/
structure AllocRx where
  dbru : Option (Nat × Bool)
  len : Nat
  heads : List XgemRx
  deriving DecidableEq, Repr

/-- The header of a burst as received: the delimiter (offset in UI and bit errors; none: not found), the HEC errors of
the FS burst header (3: more than 2), its ONU-ID and Ind bits, and the four levels measured on the LTF (R90). -/
structure BurstHead where
  delim : Option (Int × Nat)
  hecErrs : Nat
  onuId : Nat
  ind : Nat
  levels : List Int
  deriving DecidableEq, Repr

/-- A ranging response as received (R90, R116): its burst header, and its arrival. -/
structure RangeResp where
  head : BurstHead
  arrival : Nat
  deriving DecidableEq, Repr

/-- What a lane's receiver has counted in a row: sync headers or alignment markers, good or bad (R363, R364). -/
structure LaneRun where
  lane : Fin 8
  n : Nat
  deriving DecidableEq, Repr

/-- The amplitude on a lane in mV (R370). -/
structure LaneLevel where
  lane : Fin 8
  mv : Nat
  deriving DecidableEq, Repr

/-- The skew between a port's lanes in ps (R364). -/
structure PortSkew where
  port : PortIx
  skew : Nat
  deriving DecidableEq, Repr

/-- A burst as received (R57 to R66): header, phase error in drift units, allocations, BIP-32 mismatches, and codewords
with uncorrectable errors. -/
structure BurstRx where
  head : BurstHead
  phase : Int
  allocs : List AllocRx
  bipErrs : Nat
  badCodewords : Nat
  deriving DecidableEq, Repr

/-- A Serial_Number_ONU response (R106): its burst header, serial number, PLOAM message and arrival. -/
structure SnResp where
  head : BurstHead
  sn : Nat
  msg : List Byte
  arrival : Nat
  collided : Bool
  deriving DecidableEq, Repr

/-- What a compare sweep finds wrong with a forwarding line: it differs from its shadow, it is uncorrectable, or its
shadow is (R256, R257). -/
inductive FwdFault where
  | differs (loc : Nat)
  | uncorrectable (loc : Nat)
  | shadowLost (loc : Nat)
  deriving DecidableEq, Repr

/-- The shadowed tables of 19 Table 2. -/
inductive CtxTable where
  | rules | mapUp | xgem | sla | meters | services | matches_ | shapers | endpoints | groups | members | megs | meps
  | allow | ruleSets | indir | gcls | msecTx | msecRx
  deriving DecidableEq, Repr

/-- What a compare sweep finds wrong with a context or rule line (R494). -/
inductive CtxFault where
  | differs (table : CtxTable) (line : Nat)
  | uncorrectable (table : CtxTable) (line : Nat)
  | shadowLost (table : CtxTable) (line : Nat)
  deriving DecidableEq, Repr

/-- How a Pannier read ends (R380). -/
inductive CellRead where
  | good | corrected | uncorrectable
  deriving DecidableEq, Repr

/-- A site of a report (19 Table 4): unit kind and instance. -/
structure Site where
  kind : Fin 12
  inst : Nat
  deriving DecidableEq, Repr

/-- The state machines with a progress watchdog (R498). -/
inductive WdUnit where
  | commandEngine
  | tableUpdate
  | activation (c : Chan) (i : TermIx)
  | balancer (c : Chan) (i : TermIx)
  | counterReader
  deriving DecidableEq, Repr

/-- The fast-clock units that a fast PLL can stop (R27, 19 Table 1). -/
inductive PllUnit where
  | slice (sl : SliceIx)
  | channel (c : Chan)
  | cluster (n : ClusterIx)
  | pannier
  | uplink (p : PortIx)
  deriving DecidableEq, Repr

/-- Errors of the host link that replay does not mask: reported through AER; or a write to a ring's memory that does not
arrive (R431). -/
inductive LinkErr where
  | aer
  | ringWrite (r : RingIx)
  deriving DecidableEq, Repr

/-- The commands and events: one constructor per row of the table. -/
inductive Instr where
  /-- REGISTER_WRITE: R7, R8, R529 to R534, R538, R539: a write of `size` bytes at an offset of a BAR, arriving on a path. -/
  | registerWrite (t : Nat) (path : Path) (bar : Bar) (off size value : Nat)
  /-- GNT_STAT_READ: R531: a read of `GNT_STAT` through the path's own channel window. -/
  | gntStatRead (t : Nat) (path : Path)
  /-- SETUP_LOCK: R537: 1 is written to `GLB_CTRL.SETUP_LOCK`. -/
  | setupLock (t : Nat) (path : Path)
  /-- SETUP_LIVE: R540: step 7 of the cold start completes. -/
  | setupLive (t : Nat)
  /-- COLD_RESET: R510, R552: PORn falls. -/
  | coldReset (t : Nat)
  /-- COLD_START: R402, R512: PORn rises. -/
  | coldStart (t : Nat)
  /-- BOOT_READY: R456: the firmware of a slot is up, of these versions; after a cold reset it has read these board delays (none: their
  CRC fails, or the reset was warm). -/
  | bootReady (t : Nat) (slot : Fin 2) (fwVer secVer : Nat) (delays : Option (List Byte))
  /-- WARM_RESET_START: R517: WRSTn is sampled low (true), or the mailbox's 1 ms is over (false). -/
  | warmResetStart (t : Nat) (wrst : Bool)
  /-- WARM_RESET_RELEASE: 20 Table 4 step 5. -/
  | warmResetRelease (t : Nat)
  /-- HOST_RESET: R21, R453: hot reset, link down or PF function-level reset. -/
  | hostReset (t : Nat)
  /-- HOST_LINK_TRAINED: R426, R427: training ends; `cxl` says that the host accepts CXL, `width` and `rate` are their codes. -/
  | hostLinkTrained (t : Nat) (cxl : Bool) (width rate : Nat)
  /-- VF_FLR: R452: function-level reset of a VF. -/
  | vfFlr (t : Nat) (v : VfIx)
  /-- STANDBY_ENTRY: R522: 1 is written to `GLB_PWR.STANDBY`. -/
  | standbyEntry (t : Nat)
  /-- STANDBY_EXIT: R524: 0 is written to `GLB_PWR.STANDBY`. -/
  | standbyExit (t : Nat)
  /-- SENSOR_SAMPLE: R465, R466, R525: 32 readings in 1/4 °C and 24 in mV. -/
  | sensorSample (t : Nat) (temps : List Int) (volts : List Nat)
  /-- SLICE_STOP: R27: the slice's stop condition is evaluated. -/
  | sliceStop (t : Nat) (sl : SliceIx)
  /-- SLICE_WAKE_DONE: R27, R30: a waking slice accepts work. -/
  | sliceWakeDone (t : Nat) (sl : SliceIx)
  /-- CHANNEL_UNIT_STOP: R27, R29: the channel unit's stop condition is evaluated. -/
  | channelUnitStop (t : Nat) (c : Chan)
  /-- CHANNEL_UNIT_WAKE_DONE: R27, R32: a waking channel unit accepts work. -/
  | channelUnitWakeDone (t : Nat) (c : Chan)
  /-- BURST_RECEIVER_WAKE: R56, R67: 512 ns before burst j of map k. -/
  | burstReceiverWake (t : Nat) (c : Chan) (k j : Nat)
  /-- CLUSTER_GATE: R306: the gating condition is evaluated. -/
  | clusterGate (t : Nat) (n : ClusterIx)
  /-- CLUSTER_WAKE_DONE: R27: a woken cluster accepts work. -/
  | clusterWakeDone (t : Nat) (n : ClusterIx)
  /-- PANNIER_SELF_REFRESH: R391: the self-refresh condition is evaluated. -/
  | pannierSelfRefresh (t : Nat)
  /-- PANNIER_WAKE_DONE: R34: the stacks have left self-refresh. -/
  | pannierWakeDone (t : Nat)
  /-- PANNIER_START_DONE: R392, R393: the start is complete; `bankFail` says that a bank failed the check. -/
  | pannierStartDone (t : Nat) (bankFail : Option (Fin 4))
  /-- PHY_FRAME_START: R45: the tick counter reaches a multiple of 19,440. -/
  | phyFrameStart (t : Nat)
  /-- UPSTREAM_FRAME_END: R139: upstream frame k of a channel has ended. -/
  | upstreamFrameEnd (t : Nat) (c : Chan) (k : Nat)
  /-- BURST_RECEIVED: R57: burst j of map k as it arrives. -/
  | burstReceived (t : Nat) (c : Chan) (k j : Nat) (burst : BurstRx)
  /-- DELIMITER_WINDOW_CLOSE: R56: the window of burst j of map k closes without a delimiter. -/
  | delimiterWindowClose (t : Nat) (c : Chan) (k j : Nat)
  /-- UPSTREAM_OMCI_FRAME: R135, R444: a packet on the OMCC port of terminal i. -/
  | upstreamOmciFrame (t : Nat) (c : Chan) (i : TermIx) (packet : List Byte)
  /-- SERIAL_NUMBER_ONU: R106, R110: a response in a discovery window. -/
  | serialNumberOnu (t : Nat) (c : Chan) (resp : SnResp)
  /-- RANGING_RESPONSE: R116: a response in a ranging window or directed slot. -/
  | rangingResponse (t : Nat) (c : Chan) (i : TermIx) (sn : Nat) (r : RangeResp)
  /-- RANGING_WINDOW_CLOSE: R119: the window of terminal i closes without a valid response. -/
  | rangingWindowClose (t : Nat) (c : Chan) (i : TermIx)
  /-- ACKNOWLEDGEMENT: R118, R122: an Acknowledgement message. -/
  | acknowledgement (t : Nat) (c : Chan) (i : TermIx) (msg : List Byte)
  /-- REGISTRATION: R134, 04 Table 12: a Registration message. -/
  | registration (t : Nat) (c : Chan) (i : TermIx) (msg : List Byte)
  /-- PLOAM_RX: R134: any other upstream PLOAM message. -/
  | ploamRx (t : Nat) (c : Chan) (i : TermIx) (msg : List Byte)
  /-- LOST_TIME_EXPIRY: R126: LOSi has stood for `ACT_LOST.TIME`. -/
  | lostTimeExpiry (t : Nat) (c : Chan) (i : TermIx)
  /-- QUARANTINE_EXPIRY: R114: an ONU-ID's quarantine ends. -/
  | quarantineExpiry (t : Nat) (c : Chan) (onuId : Nat)
  /-- REMEMBERED_ROUND_START: R129: a round is due. -/
  | rememberedRoundStart (t : Nat) (c : Chan)
  /-- SNAPSHOT: R140, R141: the snapshot tick; `compute` is how many ticks the map takes. -/
  | snapshot (t : Nat) (c : Chan) (compute : Nat)
  /-- MAP_DEADLINE: R176: the deadline tick of a late map. -/
  | mapDeadline (t : Nat) (c : Chan)
  /-- TUNE_ACK: R185: an upstream tuning message of type 2. -/
  | tuneAck (t : Nat) (c : Chan) (i : TermIx) (msg : List Byte)
  /-- TUNE_ACK_TIMEOUT: R186: ACK_TMO is over. -/
  | tuneAckTimeout (t : Nat) (c : Chan) (i : TermIx)
  /-- TUNE_ARRIVE: R192: an upstream tuning message of type 4 on the target. -/
  | tuneArrive (t : Nat) (c : Chan) (i : TermIx) (msg : List Byte) (phase : Int)
  /-- ARRIVE_TIMEOUT: R198: ARRIVE_TMO is over. -/
  | arriveTimeout (t : Nat) (c : Chan) (i : TermIx)
  /-- MOVE_SUGGEST: R201: a measurement window ends. -/
  | moveSuggest (t : Nat) (tree : Fin 48)
  /-- UPLINK_FRAME_RX: R357, R365: a frame without its FCS; whether its FCS holds; for each lane that its codewords used: lane, corrected symbols, uncorrectable codewords. -/
  | uplinkFrameRx (t : Nat) (p : PortIx) (frame : List Byte) (fcsOk : Bool) (fec : List (Nat × Nat × Nat))
  /-- INGRESS_LOOKUP: R204: the slice's next lookup slot. -/
  | ingressLookup (t : Nat) (sl : SliceIx)
  /-- CHAINRING_PASS: R221: the Chainring's head takes a lookup slot. -/
  | chainringPass (t : Nat) (sl : SliceIx)
  /-- LEARN_REQUEST: R245: the table update unit takes the next learn request. -/
  | learnRequest (t : Nat)
  /-- AGE_SWEEP: R250: the age sweep is due. -/
  | ageSweep (t : Nat)
  /-- COMPARE_SWEEP: R256: a compare sweep of the forwarding table, with the lines in which it finds a fault. -/
  | compareSweep (t : Nat) (found : List FwdFault)
  /-- CONTEXT_COMPARE_SWEEP: R494: a compare sweep of contexts and rules, with the lines in which it finds a fault. -/
  | contextCompareSweep (t : Nat) (found : List CtxFault)
  /-- HUB_SLOT: R263: one crossbar slot of a plane; `mismatch`: the Hub's copies disagree. -/
  | hubSlot (t : Nat) (plane : Fin 4) (mismatch : Bool)
  /-- EGRESS_CELL: R260: a cell in flight reaches its egress slice. -/
  | egressCell (t : Nat) (stream seq : Nat) (crcOk : Bool)
  /-- CELL_LOST: R260: the next SEQ of a stream is still absent. -/
  | cellLost (t : Nat) (stream : Nat)
  /-- VOQ_AGE: R262: the age of a VOQ's head is checked. -/
  | voqAge (t : Nat) (stream : Nat)
  /-- RESIDUE_ENQUEUE: R268: a queue with residue copies is ready. -/
  | residueEnqueue (t : Nat) (sl : SliceIx) (queue : Nat)
  /-- MC_RESIDUE: R268: RESIDUE_TIME is checked. -/
  | mcResidue (t : Nat) (sl : SliceIx)
  /-- FLUSH_END: R270: the flush of a switch port completes. -/
  | flushEnd (t : Nat) (port : Fin 272)
  /-- HOLD_EXPIRY: R272: a lost terminal's hold ends. -/
  | holdExpiry (t : Nat) (c : Chan) (i : TermIx)
  /-- PANNIER_READ_COMPLETE: R380: the next spilled cell of an egress queue is on die. -/
  | pannierReadComplete (t : Nat) (queue : Nat) (pc : Fin 128) (bank row : Nat) (result : CellRead)
  /-- SCHEDULER_PICK: R285: the channel framer picks. -/
  | schedulerPick (t : Nat) (c : Chan)
  /-- UPLINK_PICK: R291: the port picks. -/
  | uplinkPick (t : Nat) (p : PortIx)
  /-- GATE_CHANGE: R294: the entry of a gate list is over. -/
  | gateChange (t : Nat) (target : Nat)
  /-- GCL_CHANGE_POINT: R296: the change point of a pending gate list. -/
  | gclChangePoint (t : Nat) (target : Nat)
  /-- CIPHER_DISPATCH: R303: the dispatcher's next core cycle. -/
  | cipherDispatch (t : Nat)
  /-- CIPHER_REQUEST_DONE: R301: the lane of a request ends; `fault`: the lane's check found an error. -/
  | cipherRequestDone (t : Nat) (id : Nat) (fault : Bool)
  /-- CPH_LATE: R304: 100 µs have passed since a request was queued. -/
  | cphLate (t : Nat) (id : Nat)
  /-- RETIRED_GENERATION_ZEROISE: R311: the last request of a retired generation has ended. -/
  | retiredGenerationZeroise (t : Nat) (slot : Nat)
  /-- OVERLAP_EXPIRY: R326: OVERLAP ms after a switch. -/
  | overlapExpiry (t : Nat) (ep : Nat)
  /-- KEY_STORE_CHECK: R497: the slot check, with the slots it finds corrupt. -/
  | keyStoreCheck (t : Nat) (bad : List Nat)
  /-- CCM_TRANSMIT: R339: a CCM is due. -/
  | ccmTransmit (t : Nat) (mep : Fin 16384)
  /-- RECEIVE_TIMER_CHECK: R346: a check of the receive timers is due. -/
  | receiveTimerCheck (t : Nat) (mep : Fin 16384)
  /-- AIS_TRANSMIT: R350: an AIS is due. -/
  | aisTransmit (t : Nat) (mep : Fin 16384)
  /-- PORT_ENABLE: R355, R359: 1 is written to `UPL_CTRL.EN`. -/
  | portEnable (t : Nat) (path : Path) (p : PortIx)
  /-- PORT_DISABLE: R361: 0 is written to `UPL_CTRL.EN`. -/
  | portDisable (t : Nat) (path : Path) (p : PortIx)
  /-- ADAPTATION_DONE: 13 Table 3 step 4. -/
  | adaptationDone (t : Nat) (p : PortIx) (j : Fin 8)
  /-- LANE_LOCK: R363, R364: a lane has `n` consecutive valid headers, or markers at their spacing. -/
  | laneLock (t : Nat) (p : PortIx) (r : LaneRun)
  /-- LOCK_LOSS: R363, R364: `n` of 64 consecutive headers are invalid, or `n` consecutive markers are missing. -/
  | lockLoss (t : Nat) (p : PortIx) (r : LaneRun)
  /-- DESKEW_FAIL: R364: the skew between the lanes, in ps. -/
  | deskewFail (t : Nat) (k : PortSkew)
  /-- LOCAL_FAULT: 13 Table 4: four Local Fault sequences. -/
  | localFault (t : Nat) (p : PortIx)
  /-- REMOTE_FAULT: 13 Table 4: four Remote Fault sequences. -/
  | remoteFault (t : Nat) (p : PortIx)
  /-- UP_HOLD_EXPIRY: R360: UP_HOLD is over. -/
  | upHoldExpiry (t : Nat) (p : PortIx)
  /-- RECOVERY_CYCLE: R362: RECOV × 10 ms are over. -/
  | recoveryCycle (t : Nat) (p : PortIx)
  /-- LOS_DETECT: R370: the amplitude's highest value over 100 ns, in mV; `afterLpi`: the signal went after LPI (R368). -/
  | losDetect (t : Nat) (p : PortIx) (l : LaneLevel) (afterLpi : Bool)
  /-- LOS_CLEAR: R370: the amplitude's lowest value over 10 µs, in mV. -/
  | losClear (t : Nat) (p : PortIx) (l : LaneLevel)
  /-- LOL_DETECT: R370: the CDR loses phase lock. -/
  | lolDetect (t : Nat) (p : PortIx) (j : Fin 8)
  /-- LOL_CLEAR: R370: the CDR has had lock for 10 µs. -/
  | lolClear (t : Nat) (p : PortIx) (j : Fin 8)
  /-- EYE_SWEEP: R370: a sweep ends with an opening. -/
  | eyeSweep (t : Nat) (p : PortIx) (j : Fin 8) (h v : Fin 64)
  /-- TRANSMIT_FREEWHEEL_ENTRY: R366: FW_IDLE is over. -/
  | transmitFreewheelEntry (t : Nat) (p : PortIx)
  /-- TRANSMIT_FREEWHEEL_EXIT: R367: a frame is eligible. -/
  | transmitFreewheelExit (t : Nat) (p : PortIx)
  /-- FW_MAX_EXPIRY: R368: the partner's quiet has lasted FW_MAX. -/
  | fwMaxExpiry (t : Nat) (p : PortIx) (j : Fin 8)
  /-- MOD_ACCESS_DONE: R377: the module's answer, or none within 2 ms. -/
  | modAccessDone (t : Nat) (c : Chan) (answer : Option (List Byte))
  /-- RSSI_TRIGGER: R69: the point of an armed measurement. -/
  | rssiTrigger (t : Nat) (c : Chan)
  /-- RSSI_TIMEOUT: R69: 10 ms without a suitable burst or window. -/
  | rssiTimeout (t : Nat) (c : Chan)
  /-- REFRESH_DUE: R382: a tREFI of a pseudo-channel is over. -/
  | refreshDue (t : Nat) (pc : Fin 128)
  /-- HBM_TEMPERATURE_READ: R384: the 32 µs reading. -/
  | hbmTemperatureRead (t : Nat) (stack : Fin 4) (celsius : Int)
  /-- THROTTLE_RELEASE: R388: 64 tREFI without a further RFM. -/
  | throttleRelease (t : Nat) (pc : Fin 128)
  /-- HBM_DLY_WRITE: R394: a write to `HBM_DLYn`. -/
  | hbmDlyWrite (t : Nat) (path : Path) (n : Fin 64) (value : Nat)
  /-- CXM_LINK_UP: R397, R400: the port trains; what enumeration finds and whether the directory is valid. -/
  | cxmLinkUp (t : Nat) (type3 decoder : Bool) (gib : Nat) (directory : Bool)
  /-- CXM_DOWN: R398: device memory is lost. -/
  | cxmDown (t : Nat)
  /-- BAR2_WRITE: R401: a host write through BAR2. -/
  | bar2Write (t : Nat) (off : Nat) (data : List Byte)
  /-- TIME_SET_TAKE_EFFECT: R406: a pending TIME_SET reaches T_E. -/
  | timeSetTakeEffect (t : Nat)
  /-- TIME_LATCH: R410: a write to `TIM_LATCH`. -/
  | timeLatch (t : Nat) (path : Path) (value : Nat)
  /-- TIM_REF_LOST: R403: no REFCLK_PON edge for 1 µs. -/
  | timRefLost (t : Nat)
  /-- PPS_OUT: R416: the presented time reaches a whole second. -/
  | ppsOut (t : Nat)
  /-- PPS_IN: R417: an edge of PPS_IN. -/
  | ppsIn (t : Nat) (rising : Bool)
  /-- RCLK_RESUME: R421: HOLD clean time is over. -/
  | rclkResume (t : Nat) (n : Fin 2)
  /-- FREQUENCY_GATE: R423: a 1 s gate ends with a measured offset. -/
  | frequencyGate (t : Nat) (n : Fin 2) (foff : Int)
  /-- DOORBELL: R430: an MMIO doorbell. -/
  | doorbell (t : Nat) (r : RingIx) (idx : Nat)
  /-- DOORBELL_LINE_SNOOP: R430: a doorbell line is read again. -/
  | doorbellLineSnoop (t : Nat) (line : Fin 128) (words : List Nat)
  /-- RING_ENABLE: R428: a write of ring configuration word 0 with EN 1. -/
  | ringEnable (t : Nat) (r : RingIx) (value : Nat)
  /-- RING_DISABLE: R432: 0 is written to a ring's EN. -/
  | ringDisable (t : Nat) (r : RingIx)
  /-- RING_DRAIN_DONE: R432: the drain is over. -/
  | ringDrainDone (t : Nat) (r : RingIx)
  /-- DESCRIPTOR_FETCH: R429, R433: one descriptor read, or its failure. -/
  | descriptorFetch (t : Nat) (r : RingIx) (read : Option (List Byte))
  /-- INTERRUPT_COALESCE_TIMER: R448: COAL_US is over. -/
  | interruptCoalesceTimer (t : Nat) (r : RingIx)
  /-- HIF_INT_WRITE: R449: a write to `HIF_INTg`. -/
  | hifIntWrite (t : Nat) (g : Fin 16) (value : Nat)
  /-- NOP: R435: the NOP command. -/
  | nop (t : Nat) (cmd : Cmd)
  /-- PKT_TX: R441: a frame from the host. -/
  | pktTx (t : Nat) (cmd : Cmd)
  /-- RX_BUF: R442: a receive buffer. -/
  | rxBuf (t : Nat) (cmd : Cmd)
  /-- CNT_PAGE: R447, R481: a counter page. -/
  | cntPage (t : Nat) (cmd : Cmd)
  /-- OMCI_TX: R444: an OMCI packet. -/
  | omciTx (t : Nat) (cmd : Cmd)
  /-- CHANNEL_MODE: R43. -/
  | channelMode (t : Nat) (cmd : Cmd)
  /-- RSSI_ARM: R69. -/
  | rssiArm (t : Nat) (cmd : Cmd)
  /-- MOD_ACCESS: R377. -/
  | modAccess (t : Nat) (cmd : Cmd)
  /-- ALLOW_WRITE: R108. -/
  | allowWrite (t : Nat) (cmd : Cmd)
  /-- ALLOW_ERASE: R108, R128. -/
  | allowErase (t : Nat) (cmd : Cmd)
  /-- RECORD_FORGET: R128. -/
  | recordForget (t : Nat) (cmd : Cmd)
  /-- TERM_DEACTIVATE: R127. -/
  | termDeactivate (t : Nat) (cmd : Cmd)
  /-- TERM_DISABLE: R127. -/
  | termDisable (t : Nat) (cmd : Cmd)
  /-- TERM_ENABLE_SN: R127. -/
  | termEnableSn (t : Nat) (cmd : Cmd)
  /-- TERM_RELEASE: R127. -/
  | termRelease (t : Nat) (cmd : Cmd)
  /-- PLOAM_SEND: R132, R134. -/
  | ploamSend (t : Nat) (cmd : Cmd)
  /-- XGEM_PORT_SET: R438. -/
  | xgemPortSet (t : Nat) (cmd : Cmd)
  /-- ALLOC_SET: R149, R150. -/
  | allocSet (t : Nat) (cmd : Cmd)
  /-- ALLOC_CLEAR: R149, R152. -/
  | allocClear (t : Nat) (cmd : Cmd)
  /-- TERM_PROFILE: R153. -/
  | termProfile (t : Nat) (cmd : Cmd)
  /-- COOP_ANNOUNCE: R169. -/
  | coopAnnounce (t : Nat) (cmd : Cmd)
  /-- TERM_MOVE: R202. -/
  | termMove (t : Nat) (cmd : Cmd)
  /-- TERM_MOVE_ABORT: R203. -/
  | termMoveAbort (t : Nat) (cmd : Cmd)
  /-- SVC_SET: R215, R229. -/
  | svcSet (t : Nat) (cmd : Cmd)
  /-- SVC_LEARN: R244, R439. -/
  | svcLearn (t : Nat) (cmd : Cmd)
  /-- SVC_MAP_UP: R212. -/
  | svcMapUp (t : Nat) (cmd : Cmd)
  /-- SVC_MATCH_ADD: R213. -/
  | svcMatchAdd (t : Nat) (cmd : Cmd)
  /-- SVC_MATCH_DEL: R213. -/
  | svcMatchDel (t : Nat) (cmd : Cmd)
  /-- RULE_WRITE: R228. -/
  | ruleWrite (t : Nat) (cmd : Cmd)
  /-- RSET_WRITE: R228. -/
  | rsetWrite (t : Nat) (cmd : Cmd)
  /-- INDIR_WRITE: R224. -/
  | indirWrite (t : Nat) (cmd : Cmd)
  /-- FWD_INSERT: R251. -/
  | fwdInsert (t : Nat) (cmd : Cmd)
  /-- FWD_DELETE: R251. -/
  | fwdDelete (t : Nat) (cmd : Cmd)
  /-- FWD_SEARCH: R251. -/
  | fwdSearch (t : Nat) (cmd : Cmd)
  /-- FWD_MOVE: R240, R251. -/
  | fwdMove (t : Nat) (cmd : Cmd)
  /-- FWD_NEXT: R254. -/
  | fwdNext (t : Nat) (cmd : Cmd)
  /-- FWD_FLUSH: R253. -/
  | fwdFlush (t : Nat) (cmd : Cmd)
  /-- FLUSH_WALK_DONE: R253: a walk ends; `slot` names its command. -/
  | flushWalkDone (t : Nat) (slot : Nat)
  /-- SW_QPROF: R276. -/
  | swQprof (t : Nat) (cmd : Cmd)
  /-- MC_GROUP_SET: R276. -/
  | mcGroupSet (t : Nat) (cmd : Cmd)
  /-- MC_MEMBER_WRITE: R276. -/
  | mcMemberWrite (t : Nat) (cmd : Cmd)
  /-- METER_SET: R298. -/
  | meterSet (t : Nat) (cmd : Cmd)
  /-- SHAPER_SET: R298. -/
  | shaperSet (t : Nat) (cmd : Cmd)
  /-- SCHED_SET: R298. -/
  | schedSet (t : Nat) (cmd : Cmd)
  /-- CBS_SET: R293. -/
  | cbsSet (t : Nat) (cmd : Cmd)
  /-- GCL_SET: R296. -/
  | gclSet (t : Nat) (cmd : Cmd)
  /-- KEK_SET: R310. -/
  | kekSet (t : Nat) (cmd : Cmd)
  /-- KEY_WRITE: R309, R311. -/
  | keyWrite (t : Nat) (cmd : Cmd)
  /-- KEY_ERASE: R312, R313. -/
  | keyErase (t : Nat) (cmd : Cmd)
  /-- KEY_QUERY: 11 Table 9. -/
  | keyQuery (t : Nat) (cmd : Cmd)
  /-- PON_KEY_SET: R315, R317. -/
  | ponKeySet (t : Nat) (cmd : Cmd)
  /-- SEAL_SET: R324, 11 Table 5. -/
  | sealSet (t : Nat) (cmd : Cmd)
  /-- SEAL_PHASE: R329. -/
  | sealPhase (t : Nat) (cmd : Cmd)
  /-- SEAL_EP_SET: 11 Table 6. -/
  | sealEpSet (t : Nat) (cmd : Cmd)
  /-- SEAL_EP_DEL: 11 Table 9. -/
  | sealEpDel (t : Nat) (cmd : Cmd)
  /-- MACSEC_TX_SET: 11 Table 9. -/
  | macsecTxSet (t : Nat) (cmd : Cmd)
  /-- MACSEC_RX_SET: 11 Table 9. -/
  | macsecRxSet (t : Nat) (cmd : Cmd)
  /-- MEG_SET: 12 Table 5. -/
  | megSet (t : Nat) (cmd : Cmd)
  /-- MEP_SET: R341, R342. -/
  | mepSet (t : Nat) (cmd : Cmd)
  /-- MEP_DEL: R342. -/
  | mepDel (t : Nat) (cmd : Cmd)
  /-- TIME_SET: R406. -/
  | timeSet (t : Nat) (cmd : Cmd)
  /-- TOD_QUERY: R418. -/
  | todQuery (t : Nat) (cmd : Cmd)
  /-- CHANNEL_ENABLE: R44: 1 is written to `PCH_CTRL.EN`. -/
  | channelEnable (t : Nat) (path : Path) (c : Chan)
  /-- CHANNEL_DISABLE: R99: 0 is written to `PCH_CTRL.EN` while it reads 1. -/
  | channelDisable (t : Nat) (path : Path) (c : Chan)
  /-- CHANNEL_RESET: R519: 0 is written to `PCH_CTRL.EN` while it reads 0. -/
  | channelReset (t : Nat) (path : Path) (c : Chan)
  /-- CHANNEL_RESET_DONE: R521: the reset completes. -/
  | channelResetDone (t : Nat) (c : Chan)
  /-- DISCOVERY_ENABLE: R103: 1 is written to `ACT_DISC.EN`. -/
  | discoveryEnable (t : Nat) (path : Path) (c : Chan)
  /-- MAILBOX_DOORBELL: R463: a write to `MGT_MBX_DB`. -/
  | mailboxDoorbell (t : Nat) (path : Path) (value : Nat)
  /-- GET_INFO: 17 Table 4: the Tandem serves GET_INFO. -/
  | getInfo (t : Nat)
  /-- GET_SENSORS: 17 Table 4. -/
  | getSensors (t : Nat)
  /-- LOG_READ: 17 Table 4. -/
  | logRead (t : Nat)
  /-- IMG_WRITE: R464. -/
  | imgWrite (t : Nat) (flashOk : Bool)
  /-- IMG_VERIFY: R455. -/
  | imgVerify (t : Nat)
  /-- IMG_ACTIVATE: R459. -/
  | imgActivate (t : Nat) (flashOk : Bool)
  /-- IMAGE_SWITCH_DONE: R459 step 3: the new firmware, or the restarted one, sets READY, with these versions. -/
  | imageSwitchDone (t : Nat) (fwVer secVer : Nat)
  /-- IMG_FALLBACK: R460: the previous slot is started again, whose firmware has these versions. -/
  | imgFallback (t : Nat) (fwVer secVer : Nat)
  /-- SECVER_COMMIT: R462. -/
  | secverCommit (t : Nat)
  /-- DLY_WRITE: 17 Table 4. -/
  | dlyWrite (t : Nat) (flashOk : Bool)
  /-- WARM_RESET: R464. -/
  | warmReset (t : Nat)
  /-- MGT_LOCKSTEP: R454: a lockstep mismatch, or an uncorrectable memory error. -/
  | mgtLockstep (t : Nat) (memory : Bool)
  /-- SMBUS_WRITE: R469: a write to the SMBus slave. -/
  | smbusWrite (t : Nat) (data : List Byte)
  /-- BYPASS: R472. -/
  | bypass (t : Nat)
  /-- IDCODE: R472. -/
  | idcode (t : Nat)
  /-- SAMPLE_PRELOAD: R472: what the balls carry, and what is shifted in. -/
  | samplePreload (t : Nat) (pins preload : List Bool)
  /-- EXTEST: R472. -/
  | extest (t : Nat)
  /-- EXTEST_PULSE: R472. -/
  | extestPulse (t : Nat)
  /-- EXTEST_TRAIN: R472. -/
  | extestTrain (t : Nat)
  /-- HIGHZ: R472. -/
  | highz (t : Nat)
  /-- CLAMP: R472. -/
  | clamp (t : Nat)
  /-- COUNTER_SWEEP: R474 to R478: the sweep is due. -/
  | counterSweep (t : Nat)
  /-- BANDWIDTH_WINDOW: R484: the window is due. -/
  | bandwidthWindow (t : Nat)
  /-- SAMPLE_RECORD_WRITE: R487: the next record of a slice's queue. -/
  | sampleRecordWrite (t : Nat) (sl : SliceIx)
  /-- CNT_SAMP_WRITE: R485: a write to `CNT_SAMP`. -/
  | cntSampWrite (t : Nat) (path : Path) (value : Nat)
  /-- WATCHDOG: R498: 1 ms without progress. -/
  | watchdog (t : Nat) (wunit : WdUnit)
  /-- SCRUB: R492, R501: the scrub reads a word with an error. -/
  | scrub (t : Nat) (site : Site) (uncorrectable : Bool)
  /-- PLL_LOCK_LOSS: 19 Table 3: a fast PLL loses lock. -/
  | pllLockLoss (t : Nat) (punit : PllUnit)
  /-- FAULT_INJECT: 19 Table 7: a write to `FLT_INJ`. -/
  | faultInject (t : Nat) (path : Path) (value : Nat)
  /-- REFCLK_PON_RETURN: R403: edges arrive again. -/
  | refclkPonReturn (t : Nat)
  /-- RECEIVE_FREEWHEEL_EXIT: R368: the signal returns. -/
  | receiveFreewheelExit (t : Nat) (p : PortIx) (j : Fin 8)
  /-- KICKSTAND_EXIT_DONE: 13 Table 3 step 1 ends. -/
  | kickstandExitDone (t : Nat) (p : PortIx)
  /-- FAULT_SEQUENCES_END: R360: Local Fault, Remote Fault sequences end. -/
  | faultSequencesEnd (t : Nat) (p : PortIx) (loc rem : Bool)
  /-- PORT_MINIMUM_DOWN_EXPIRY: R271: 20 µs after a down event. -/
  | portMinimumDownExpiry (t : Nat) (p : PortIx)
  /-- DISCOVERY_WINDOW_CLOSE: R106: a discovery window ends. -/
  | discoveryWindowClose (t : Nat) (c : Chan)
  /-- QUIET_WINDOW_START: R67: a quiet window opens. -/
  | quietWindowStart (t : Nat) (c : Chan)
  /-- PPS_OUT_PULSE_END: R416: WIDTH ms after the rise. -/
  | ppsOutPulseEnd (t : Nat)
  /-- INTERRUPT_GROUP_INTERVAL_END: R449: the 1 µs interval ends. -/
  | interruptGroupIntervalEnd (t : Nat) (g : Fin 16)
  /-- BOOT_RECOVERY: R458: neither slot is valid. -/
  | bootRecovery (t : Nat)
  /-- CXM_TRAINING_FAILED: R397: training fails. -/
  | cxmTrainingFailed (t : Nat)
  /-- HOST_LINK_ERROR: R431, R446, R492: an error that replay does not mask. -/
  | hostLinkError (t : Nat) (err : LinkErr)
  deriving DecidableEq, Repr

/-- The arrival time of a command. -/
def Instr.time : Instr → Nat
  | .registerWrite t _ _ _ _ _ => t
  | .gntStatRead t _ => t
  | .setupLock t _ => t
  | .setupLive t => t
  | .coldReset t => t
  | .coldStart t => t
  | .bootReady t _ _ _ _ => t
  | .warmResetStart t _ => t
  | .warmResetRelease t => t
  | .hostReset t => t
  | .hostLinkTrained t _ _ _ => t
  | .vfFlr t _ => t
  | .standbyEntry t => t
  | .standbyExit t => t
  | .sensorSample t _ _ => t
  | .sliceStop t _ => t
  | .sliceWakeDone t _ => t
  | .channelUnitStop t _ => t
  | .channelUnitWakeDone t _ => t
  | .burstReceiverWake t _ _ _ => t
  | .clusterGate t _ => t
  | .clusterWakeDone t _ => t
  | .pannierSelfRefresh t => t
  | .pannierWakeDone t => t
  | .pannierStartDone t _ => t
  | .phyFrameStart t => t
  | .upstreamFrameEnd t _ _ => t
  | .burstReceived t _ _ _ _ => t
  | .delimiterWindowClose t _ _ _ => t
  | .upstreamOmciFrame t _ _ _ => t
  | .serialNumberOnu t _ _ => t
  | .rangingResponse t _ _ _ _ => t
  | .rangingWindowClose t _ _ => t
  | .acknowledgement t _ _ _ => t
  | .registration t _ _ _ => t
  | .ploamRx t _ _ _ => t
  | .lostTimeExpiry t _ _ => t
  | .quarantineExpiry t _ _ => t
  | .rememberedRoundStart t _ => t
  | .snapshot t _ _ => t
  | .mapDeadline t _ => t
  | .tuneAck t _ _ _ => t
  | .tuneAckTimeout t _ _ => t
  | .tuneArrive t _ _ _ _ => t
  | .arriveTimeout t _ _ => t
  | .moveSuggest t _ => t
  | .uplinkFrameRx t _ _ _ _ => t
  | .ingressLookup t _ => t
  | .chainringPass t _ => t
  | .learnRequest t => t
  | .ageSweep t => t
  | .compareSweep t _ => t
  | .contextCompareSweep t _ => t
  | .hubSlot t _ _ => t
  | .egressCell t _ _ _ => t
  | .cellLost t _ => t
  | .voqAge t _ => t
  | .residueEnqueue t _ _ => t
  | .mcResidue t _ => t
  | .flushEnd t _ => t
  | .holdExpiry t _ _ => t
  | .pannierReadComplete t _ _ _ _ _ => t
  | .schedulerPick t _ => t
  | .uplinkPick t _ => t
  | .gateChange t _ => t
  | .gclChangePoint t _ => t
  | .cipherDispatch t => t
  | .cipherRequestDone t _ _ => t
  | .cphLate t _ => t
  | .retiredGenerationZeroise t _ => t
  | .overlapExpiry t _ => t
  | .keyStoreCheck t _ => t
  | .ccmTransmit t _ => t
  | .receiveTimerCheck t _ => t
  | .aisTransmit t _ => t
  | .portEnable t _ _ => t
  | .portDisable t _ _ => t
  | .adaptationDone t _ _ => t
  | .laneLock t _ _ => t
  | .lockLoss t _ _ => t
  | .deskewFail t _ => t
  | .localFault t _ => t
  | .remoteFault t _ => t
  | .upHoldExpiry t _ => t
  | .recoveryCycle t _ => t
  | .losDetect t _ _ _ => t
  | .losClear t _ _ => t
  | .lolDetect t _ _ => t
  | .lolClear t _ _ => t
  | .eyeSweep t _ _ _ _ => t
  | .transmitFreewheelEntry t _ => t
  | .transmitFreewheelExit t _ => t
  | .fwMaxExpiry t _ _ => t
  | .modAccessDone t _ _ => t
  | .rssiTrigger t _ => t
  | .rssiTimeout t _ => t
  | .refreshDue t _ => t
  | .hbmTemperatureRead t _ _ => t
  | .throttleRelease t _ => t
  | .hbmDlyWrite t _ _ _ => t
  | .cxmLinkUp t _ _ _ _ => t
  | .cxmDown t => t
  | .bar2Write t _ _ => t
  | .timeSetTakeEffect t => t
  | .timeLatch t _ _ => t
  | .timRefLost t => t
  | .ppsOut t => t
  | .ppsIn t _ => t
  | .rclkResume t _ => t
  | .frequencyGate t _ _ => t
  | .doorbell t _ _ => t
  | .doorbellLineSnoop t _ _ => t
  | .ringEnable t _ _ => t
  | .ringDisable t _ => t
  | .ringDrainDone t _ => t
  | .descriptorFetch t _ _ => t
  | .interruptCoalesceTimer t _ => t
  | .hifIntWrite t _ _ => t
  | .nop t _ => t
  | .pktTx t _ => t
  | .rxBuf t _ => t
  | .cntPage t _ => t
  | .omciTx t _ => t
  | .channelMode t _ => t
  | .rssiArm t _ => t
  | .modAccess t _ => t
  | .allowWrite t _ => t
  | .allowErase t _ => t
  | .recordForget t _ => t
  | .termDeactivate t _ => t
  | .termDisable t _ => t
  | .termEnableSn t _ => t
  | .termRelease t _ => t
  | .ploamSend t _ => t
  | .xgemPortSet t _ => t
  | .allocSet t _ => t
  | .allocClear t _ => t
  | .termProfile t _ => t
  | .coopAnnounce t _ => t
  | .termMove t _ => t
  | .termMoveAbort t _ => t
  | .svcSet t _ => t
  | .svcLearn t _ => t
  | .svcMapUp t _ => t
  | .svcMatchAdd t _ => t
  | .svcMatchDel t _ => t
  | .ruleWrite t _ => t
  | .rsetWrite t _ => t
  | .indirWrite t _ => t
  | .fwdInsert t _ => t
  | .fwdDelete t _ => t
  | .fwdSearch t _ => t
  | .fwdMove t _ => t
  | .fwdNext t _ => t
  | .fwdFlush t _ => t
  | .flushWalkDone t _ => t
  | .swQprof t _ => t
  | .mcGroupSet t _ => t
  | .mcMemberWrite t _ => t
  | .meterSet t _ => t
  | .shaperSet t _ => t
  | .schedSet t _ => t
  | .cbsSet t _ => t
  | .gclSet t _ => t
  | .kekSet t _ => t
  | .keyWrite t _ => t
  | .keyErase t _ => t
  | .keyQuery t _ => t
  | .ponKeySet t _ => t
  | .sealSet t _ => t
  | .sealPhase t _ => t
  | .sealEpSet t _ => t
  | .sealEpDel t _ => t
  | .macsecTxSet t _ => t
  | .macsecRxSet t _ => t
  | .megSet t _ => t
  | .mepSet t _ => t
  | .mepDel t _ => t
  | .timeSet t _ => t
  | .todQuery t _ => t
  | .channelEnable t _ _ => t
  | .channelDisable t _ _ => t
  | .channelReset t _ _ => t
  | .channelResetDone t _ => t
  | .discoveryEnable t _ _ => t
  | .mailboxDoorbell t _ _ => t
  | .getInfo t => t
  | .getSensors t => t
  | .logRead t => t
  | .imgWrite t _ => t
  | .imgVerify t => t
  | .imgActivate t _ => t
  | .imageSwitchDone t _ _ => t
  | .imgFallback t _ _ => t
  | .secverCommit t => t
  | .dlyWrite t _ => t
  | .warmReset t => t
  | .mgtLockstep t _ => t
  | .smbusWrite t _ => t
  | .bypass t => t
  | .idcode t => t
  | .samplePreload t _ _ => t
  | .extest t => t
  | .extestPulse t => t
  | .extestTrain t => t
  | .highz t => t
  | .clamp t => t
  | .counterSweep t => t
  | .bandwidthWindow t => t
  | .sampleRecordWrite t _ => t
  | .cntSampWrite t _ _ => t
  | .watchdog t _ => t
  | .scrub t _ _ => t
  | .pllLockLoss t _ => t
  | .faultInject t _ _ => t
  | .refclkPonReturn t => t
  | .receiveFreewheelExit t _ _ => t
  | .kickstandExitDone t _ => t
  | .faultSequencesEnd t _ _ _ => t
  | .portMinimumDownExpiry t _ => t
  | .discoveryWindowClose t _ => t
  | .quietWindowStart t _ => t
  | .ppsOutPulseEnd t => t
  | .interruptGroupIntervalEnd t _ => t
  | .bootRecovery t => t
  | .cxmTrainingFailed t => t
  | .hostLinkError t _ => t

end Sys2Proof
end

