-- ==== Sys2Proof/Machine/CoreState.lean ====
section
/-! DEFINITION. Machine/CoreState.lean: the parts of State that every subsystem uses: time (15), life cycle (20, 21),
rings and interrupts (16), the fault monitor (19), the counter reader (18), and what a command puts out. -/

namespace Sys2Proof.Machine


/-- A TIME_SET that awaits its take-effect tick T_E (R406, R407). -/
structure TimeSet where
  slot : Nat
  at_ : Nat
  op : Nat
  sec : Nat
  ns : Nat
  sub : Nat
  delta : Int
  adj : Int
  deriving DecidableEq, Repr

/-- The TIM_RD registers of one access path (R410, 15 Table 6). -/
structure TimeLatch where
  tick : Nat := 0
  sec : Nat := 0
  ns : Nat := 0
  sub : Nat := 0
  deriving DecidableEq, Repr

/-- One recovered-clock output (R420, R421, R423). `clean` is since when no squelch condition has stood. -/
structure Rclk where
  squelched : Bool := true
  clean : Option Nat := none
  foff : Int := 0
  deriving DecidableEq, Repr

/-- The time unit (15) and the model's clock. `now` counts units of 1/1944 ns, of which a tick is exactly 12,500 and a
core cycle exactly 1,215. -/
structure TimeSt where
  now : Nat := 0
  tick : Nat := 0
  tickFrac : Nat := 0
  refOk : Bool := true
  /-- OFF, in 2^-16 ns (R405). -/
  off : Int := 0
  /-- T_A, the anchor tick. -/
  tA : Nat := 0
  /-- ADJ, signed 40 bits. -/
  adj : Int := 0
  pending : List TimeSet := []
  hostLatch : TimeLatch := {}
  mgmtLatch : TimeLatch := {}
  ppsOut : Bool := false
  /-- When the running PPS_OUT pulse ends. -/
  ppsFall : Nat := 0
  /-- When the last accepted edge of PPS_IN came (R417). -/
  ppsIn : Option Nat := none
  rclk0 : Rclk := {}
  rclk1 : Rclk := {}
  deriving DecidableEq, Repr

/-- `GLB_PWR.STATE` (20 Table 8). -/
inductive PwrState where
  | running | entering | standby | leaving
  deriving DecidableEq, Repr

/-- Where a warm reset stands (20 Table 4): none, held at step 4 (WRSTn low, or the mailbox's own), released. -/
inductive WarmPhase where
  | none | held
  deriving DecidableEq, Repr

/-- The life cycle of the device: resets, the set-up lock, power states (20, 21) and the fuses (21 Table 10). -/
structure Life where
  /-- PORn is low: every output is inert (R510, R552). -/
  por : Bool := false
  locked : Bool := false
  live : Bool := false
  /-- GLB_STAT.OPEN: BAR0 is fully open (R511). -/
  opened : Bool := false
  pwr : PwrState := .running
  pwrRefuse : Nat := 0
  rstCount : Nat := 0
  rstCause : Nat := 0
  /-- THERMTRIPn is latched low (R525). -/
  tripped : Bool := false
  warm : WarmPhase := .none
  /-- The time at which a mailbox WARM_RESET starts its reset (R463). -/
  warmDue : Option Nat := none
  fuseSecv : Nat := 0
  fuseProgrammed : Nat := 0xF
  fuseRevoked : Nat := 0
  deriving DecidableEq, Repr

/-- `HIF_RINGn_STAT.STATE` (16 Table 14). -/
inductive RingState where
  | idle | running | halted | draining
  deriving DecidableEq, Repr

/-- One ring of the 1,024 (R428 to R432, R446, R448). -/
structure Ring where
  state : RingState := .idle
  cause : Nat := 0
  /-- IDX, as the H192 holds it (R430). -/
  idx : Nat := 0
  /-- The next IDX to fetch or write. -/
  head : Nat := 0
  /-- The oldest entry not yet completed (host rings). -/
  tail : Nat := 0
  /-- Events for this ring were discarded since the last one written (R446). -/
  lost : Bool := false
  /-- Entries written since the last message (R448). -/
  unsig : Nat := 0
  /-- Time of the first entry not yet signalled (R448). -/
  firstUnsig : Option Nat := none
  /-- The doorbell word of host memory as last read (R430). -/
  word : Nat := 0
  /-- Descriptors of the frame chain that is not complete yet (R441). -/
  chain : Nat := 0
  deriving DecidableEq, Repr

/-- Where a descriptor stands between its fetch and its completion (R433, 16 Table 6). -/
inductive SlotPhase where
  /-- Fetched and checked; its buffer is not read yet. -/
  | fetched
  /-- Buffer read; waits for its take-effect point. -/
  | ready
  /-- Its effect stands; the completion comes later. -/
  | effect
  /-- Complete: status and result. -/
  | done (status result : Nat)
  deriving DecidableEq, Repr

/-- An event that a command has caused and that waits for the command's completion (R437). -/
structure HeldEvent where
  code : Nat
  source : Nat
  tick : Nat
  body : List Byte
  deriving DecidableEq, Repr

/-- One fetched descriptor (16 Table 2). The device keeps them in the order of their fetch. -/
structure Slot where
  id : Nat
  ring : Nat
  /-- A host reset or the function's reset took the ring: the completion is discarded (R21, R452). -/
  orphan : Bool := false
  idx : Nat
  opcode : Nat
  flags : Nat
  spec : Nat
  len : Nat
  addr : Nat
  cookie : Nat
  aux : Nat
  buf : Option (List Byte) := none
  resOk : Bool := true
  cmplOk : Bool := true
  phase : SlotPhase := .fetched
  /-- The MORE bit of the completion (16 Table 3). -/
  more : Bool := false
  /-- Events that follow its completion (R437). -/
  events : List HeldEvent := []
  deriving DecidableEq, Repr

/-- The message rate of one interrupt group (R449): the last message, and whether one is owed at the interval's end. -/
structure IntGroup where
  last : Option Nat := none
  owed : Bool := false
  deriving DecidableEq, Repr

/-- The host interface (16) beside its registers. -/
structure HostSt where
  /-- The host interface is in reset: hot reset, link down or PF function-level reset (R21). -/
  inReset : Bool := true
  cxl : Bool := false
  width : Nat := 0
  rate : Nat := 0
  rings : Tab Ring := []
  slots : List Slot := []
  nextSlot : Nat := 0
  /-- The command whose effect is being applied. -/
  current : Option Nat := none
  /-- NumVFs of the SR-IOV capability: no row of the table writes it (R450). -/
  numVfs : Nat := 0
  groups : Tab IntGroup := []
  /-- MSI-X table words, keyed by function and offset (R527). -/
  msix : Tab Nat := []
  deriving DecidableEq, Repr

/-- The names of the causes that the rules give the reports of the fault monitor (19 Table 3). -/
inductive Cause where
  | memCorrected | majority | memUncorrectable | keySlotCorrupt
  | fwdRepair | fwdLostEntry | contextRepair | contextLoss
  | parity | cellLost | hubMismatch
  | watchdog
  | gntLate | mapCheck
  | losi | losiGasp | lofi | dowi | chLos | ltfFail
  | uplinkDown | uplinkUp | los | lol | eyeDegrade | eyeFail
  | oamDefect
  | timRefLost | pllLockLoss | rclkSquelch
  | pannierUncorrectable | pannierDisabled | throttle
  | cxmDown | shadowRebuilt | accRestart | cntSaturated | poison
  | laneCheck | clusterFenced
  | mgtLockstep | tandemMemory
  | selfCheck
  | aer
  deriving DecidableEq, Repr

/-- One report of the fault monitor (R499, 19 Table 4). -/
structure Report where
  cls : Nat
  cause : Cause
  site : Nat := 0
  obj : Nat := 0
  obj2 : Nat := 0
  exit_ : Bool := false
  recovered : Bool := false
  permanent : Bool := false
  detect : Nat := 0
  deriving DecidableEq, Repr

/-- The fault monitor (19). -/
structure FltSt where
  /-- Reports held for the host (standby, R523). -/
  queue : List Report := []
  /-- The next report written carries LOST (R500). -/
  lost : Bool := false
  /-- Times of the detections of classes 1, 3 and 12 at each site within the last second (R503). -/
  history : List (Nat × Nat) := []
  /-- Sites declared permanent. -/
  permanent : List Nat := []
  /-- Fenced cipher clusters (R503). -/
  fenced : List Nat := []
  /-- FLT_STAT.SELF (R502). -/
  self : Bool := false
  /-- Last corrected-error report of each site (R501). -/
  corrected : Tab (Option Nat) := []
  /-- An injection armed by FLT_INJ.GO (19 Table 7): MODE, KIND, INDEX. -/
  inject : Option (Bool × Nat × Nat) := none
  deriving DecidableEq, Repr

/-- One counter page laid out by a CNT_PAGE descriptor (R447, R478). -/
structure Page where
  slot : Nat
  ring : Nat
  idx : Nat
  cookie : Nat
  addr : Nat
  kind : Nat
  first : Nat
  objects : Nat
  /-- Records written to a SAMPLE page (R487). -/
  written : Nat := 0
  deriving DecidableEq, Repr

/-- The bandwidth window of one switch port and direction (R484). -/
structure BwDir where
  cur : Nat := 0
  last : Nat := 0
  min : Nat := 0
  max : Nat := 0
  windows : Nat := 0
  deriving DecidableEq, Repr

/-- The counter reader (18). -/
structure CntSt where
  /-- Local counters, 48 bits, keyed by counter and object. -/
  local_ : Tab Nat := []
  /-- Accumulators in device memory, 64 bits. -/
  acc : Tab Nat := []
  sweep : Nat := 0
  /-- CNT_STAT.SWEEP: the number of the last completed sweep. -/
  stat : Nat := 0
  pages : List Page := []
  /-- Per port and direction: key 2 port + (0 in, 1 out). -/
  bw : Tab BwDir := []
  /-- Per-slice tagging LFSR (R485). -/
  lfsr : Tab Nat := []
  /-- Per-slice queues of sample records (R487). -/
  samples : Tab (List (List Byte)) := []
  /-- Tagged frames whose record is not made yet. -/
  tagged : List Nat := []
  /-- When the last sweep, bandwidth window and sample record began, ended and was written. -/
  sweepAt : Nat := 0
  winAt : Nat := 0
  sampleAt : Nat := 0
  /-- Local counters whose saturation was reported since their last read (R476). -/
  sat : List Nat := []
  deriving DecidableEq, Repr

end Sys2Proof.Machine
end

