-- ==== Sys2Proof/Machine/OamState.lean ====
section
/-! DEFINITION. Machine/OamState.lean: the state of the service OAM engine (12). -/

namespace Sys2Proof.Machine

/-- A maintenance group (MEG_SET). -/
structure Meg where
  valid : Bool := false
  id : List Byte := []
  deriving DecidableEq, Repr

/-- What an endpoint holds of one remote MEP (R346). -/
structure Remote where
  mepid : Nat := 0
  /-- The last valid CCM. -/
  last : Nat := 0
  loc : Bool := false
  locAt : Nat := 0
  rdi : Bool := false
  deriving DecidableEq, Repr

/-- The causes of dLOF (12 Table 4). -/
inductive LofCause where
  | mmg | unl | unm | unp
  deriving DecidableEq, Repr

/-- The defects of 12 Table 4. -/
inductive OamDefect where
  | loc | lof | ais | rdi
  deriving DecidableEq, Repr

/-- Causes that an OAM_DEFECT event names (R342, 12 Table 4). -/
inductive OamCause where
  | none | mmg | unl | unm | unp | rewrite | deleted
  deriving DecidableEq, Repr

/-- A maintenance endpoint: its record (12 Table 1) and its state. -/
structure Mep where
  valid : Bool := false
  svc : Nat := 0
  face : Bool := false
  level : Nat := 0
  aisEn : Bool := false
  period : Nat := 0
  aisPer : Bool := false
  aisLevel : Nat := 0
  mepid : Nat := 0
  meg : Nat := 0
  binding : Nat := 0
  netPort : Nat := 0
  netEn : Bool := false
  termEn : Bool := false
  pcp : Nat := 0
  vid : Nat := 0
  dsPort : Nat := 0
  remotes : List Remote := []
  /-- dLOF: its cause while it stands, and the last CCM of the four kinds. -/
  lof : Option LofCause := none
  lofLast : Nat := 0
  /-- dAIS, the last AIS received and its period code. -/
  ais : Bool := false
  aisLast : Nat := 0
  aisRxPer : Bool := false
  /-- Sequence number of the next CCM, and when the last one was sent. -/
  seq : Nat := 0
  ccmAt : Option Nat := none
  checkAt : Nat := 0
  aisAt : Nat := 0
  /-- When the last AIS left toward each side (R350). -/
  aisTermLast : Option Nat := none
  aisNetLast : Option Nat := none
  deriving DecidableEq, Repr

end Sys2Proof.Machine
end

