-- ==== Sys2Proof/Machine/PonState.lean ====
section
/-! DEFINITION. Machine/PonState.lean: the state of the PON line, the activation units and the grant engines
(02, 03, 04, 05): channels, terminal and allocation contexts, the allow-list, terminal records, maps and reservations. -/

namespace Sys2Proof.Machine

/-- The run state of an on-demand fast-clock unit (R27, 01 Table 5). -/
inductive Unit_ where
  | stopped | waking | running
  deriving DecidableEq, Repr

/-- The states of a terminal context (R98, 04 Table 1). -/
inductive TermState where
  | free | assigned | ranging | operation | lost | disabled
  deriving DecidableEq, Repr

/-- Delineation state of a terminal context (R59). -/
inductive Delin where
  | hunt | presync | sync
  deriving DecidableEq, Repr

/-- Where an activation stands between the steps of 04 Table 6. -/
inductive ActStep where
  /-- No activation in progress. -/
  | none
  /-- Step 1 done; waits for its Assign_ONU-ID (steps 1 to 2). -/
  | admitted
  /-- Assign_ONU-ID was sent in the given frame; waits for a ranging grant (step 3). -/
  | assigned (frame : Nat)
  /-- A ranging window or directed slot is committed; the response is awaited (step 4). -/
  | window (opens closes grant : Nat)
  /-- Response measured; Ranging_Time waits to be sent (step 5). -/
  | measured
  /-- Ranging_Time was sent in the given frame; a PLOAMu grant is wanted (step 6). -/
  | told (frame : Nat)
  /-- A PLOAMu grant for the Acknowledgement lies in the given map (step 6 to 7). -/
  | ackDue (map : Nat)
  deriving DecidableEq, Repr

/-- Why a Ranging_Time message to a terminal in OPERATION was sent (R121, R123, R125). -/
inductive RtCause where
  | drift | dowi | recovery
  deriving DecidableEq, Repr

/-- A Ranging_Time message that awaits its Acknowledgement (R122). -/
structure PendingRt where
  eqd : Nat
  cause : RtCause
  deriving DecidableEq, Repr

/-- A terminal context (R98) with its activation, ranging, defect and delineation state. Delays are in drift units of
1/1,024 tick. -/
structure Term where
  state : TermState := .free
  sn : Nat := 0
  onuId : Nat := 0
  tag : Nat := 0
  /-- Allow-list entry under which it was admitted; none when admitted without an entry (R110). -/
  entry : Option Nat := none
  /-- The context was LOST before its admission (R116, R119). -/
  wasLost : Bool := false
  /-- Admitted by a remembered attempt (R129). -/
  remembered : Bool := false
  step : ActStep := .none
  /-- Start of the activation, t0 of R118. -/
  t0 : Nat := 0
  /-- Its place among the admissions of its channel (R132, R137). -/
  turn : Nat := 0
  /-- Lowest RTD that the serial-number response allows (R115), or the record's RTD for a remembered attempt. -/
  rtdBase : Int := 0
  retries : Nat := 0
  rtd : Nat := 0
  /-- The ONU-ID at its last ranging (04 Table 9). -/
  rangedAs : Nat := 0
  /-- The equalisation delay in force, as sent (R117). -/
  eqd : Nat := 0
  avg : Int := 0
  pending : Option PendingRt := none
  /-- From this map on only the new phase applies (R122). -/
  newFrom : Nat := 0
  /-- The EqD before the last acknowledged one. -/
  oldEqd : Nat := 0
  /-- The PLOAMu of R158 is wanted. -/
  wantPloamu : Bool := false
  plSeq : Nat := 0
  delin : Delin := .hunt
  conf : Nat := 0
  fails : Nat := 0
  /-- Candidate offset of PRESYNC in the current allocation; none once it lies in an earlier one (R60). -/
  cand : Option Nat := none
  /-- Consecutive granted windows without a valid burst (R62). -/
  losCnt : Nat := 0
  losi : Bool := false
  losiAt : Nat := 0
  /-- The entry to LOSi was not reported because CH_LOS stood (R64). -/
  losiHidden : Bool := false
  /-- The LOSi entry carries the cause DYING_GASP (R63). -/
  losiGasp : Bool := false
  lofBad : Nat := 0
  lofGood : Nat := 0
  lofi : Bool := false
  dowi : Bool := false
  dowGood : Nat := 0
  /-- Bursts in maps from this one on count towards the exit of DOWi. -/
  dowFrom : Option Nat := none
  /-- Dying-gasp bits of the last three valid bursts, newest first (R63). -/
  gasps : List Bool := []
  /-- Frame of the last recovery ranging slot (R125). -/
  recFrame : Option Nat := none
  /-- Chosen in-service profile (R153); none: GNT_CFG.DEF_PROFILE. -/
  profile : Option Nat := none
  /-- PLOAM integrity key slot (R134, R315). -/
  plKey : Option Nat := none
  /-- TX_INDEX of its PON_KEY_SET. -/
  txIndex : Nat := 0
  /-- Unicast data key slots by key index 1, 2 (R315). -/
  key1 : Option Nat := none
  key2 : Option Nat := none
  /-- The binding number of the terminal (R180). -/
  binding : Option Nat := none
  /-- A tree-balancing move has detached this context: it is left to its move (R199). -/
  detached : Bool := false
  /-- Queue hold of a lost terminal: until when (R272). -/
  holdUntil : Option Nat := none
  /-- Transaction number of its last tuning message (R184). -/
  txn : Nat := 0
  deriving DecidableEq, Repr

/-- The body of a downstream PLOAM message that the hardware or the host queues (R132, 04 Table 11). -/
inductive PloamBody where
  | deactivate
  | disableSn (bar : Bool)
  | rangingTime (eqd : Nat)
  | assignOnuId
  | burstProfile (n : Nat)
  | requestRegistration
  | host (bytes : List Byte)
  deriving DecidableEq, Repr

/-- The kind of a message, as its layout is looked up. -/
def PloamBody.kind : PloamBody → Nat
  | .deactivate => 0 | .disableSn _ => 1 | .rangingTime _ => 2 | .assignOnuId => 3 | .burstProfile _ => 4 | .requestRegistration => 5
  | .host _ => 6

/-- A field of a PLOAM message: a constant of its layout, its addressing, what R54, R117 and 04 Table 11 give its body, or bits of a
message of the host from a bit position on. -/
inductive PloamField where
  | const (v : Nat)
  | onuId | seq | serial | eqd | profile | control | preamble | delimiter | bar
  | host (at_ : Nat)
  deriving DecidableEq, Repr

/-- A PLOAMd message that waits for a frame. -/
structure PloamMsg where
  /-- Terminal context index; none: broadcast. -/
  ctx : Option Nat
  onuId : Nat
  sn : Nat
  body : PloamBody
  /-- Frames in which it is still to be sent (three for a Deactivate_ONU-ID of R126). -/
  copies : Nat := 1
  deriving DecidableEq, Repr

/-- An SDU, or what remains of one after its first fragments, that goes into the next PHY frame (R50, R53). `queue` names
the egress queue it came from; `len` is the length of the whole SDU. -/
structure FragRem where
  queue : Nat
  portId : Nat
  keyIdx : Nat
  rest : List Byte
  len : Nat
  /-- Its first fragment has been sent (R50, R51). -/
  cont : Bool := false
  deriving DecidableEq, Repr

/-- An XGEM frame whose position the framer has planned and whose keystream is requested (R53, R318): its request, the FS
payload bytes free before it, its payload, and whether it ends its SDU. -/
structure Planned where
  req : Nat
  room : Nat
  queue : Nat
  portId : Nat
  keyIdx : Nat
  piece : List Byte
  last : Bool
  len : Nat
  cont : Bool := false
  deriving DecidableEq, Repr

/-- A measurement armed by RSSI_ARM (R69). -/
structure RssiArmed where
  slot : Nat
  dark : Bool
  onuId : Nat
  at_ : Nat
  /-- The start of the quiet window that a dark measurement has met. -/
  window : Option Nat := none
  deriving DecidableEq, Repr

/-- A discovery window committed in the upstream timeline (R104); instants in the model's time. -/
structure DiscWin where
  opens : Nat
  closes : Nat
  grant : Nat
  admitted : Nat := 0
  /-- Arrival of the last accepted response. -/
  last : Option Nat := none
  deriving DecidableEq, Repr

/-- A token bucket: `num` counts units of the owner's own scale; `last` is when it was last refilled. -/
structure Bucket where
  num : Nat := 0
  last : Nat := 0
  deriving DecidableEq, Repr

/-- The rounds of remembered attempts of a channel (R129). -/
inductive Rounds where
  /-- No first PHY frame yet since enable or reset. -/
  | idle
  /-- Waits for SETTLE frames after the given first frame. -/
  | settling (first : Nat)
  /-- Round `n` runs; `cursor` is the next record to look at. -/
  | running (n cursor : Nat)
  /-- All rounds have ended. -/
  | ended
  deriving DecidableEq, Repr

/-- One PON channel: line, activation and framing state (02, 04). -/
structure PonCh where
  unit : Unit_ := .stopped
  /-- When the unit last stopped (R28). -/
  stoppedAt : Option Nat := none
  /-- Consecutive PHY frames without work (R27). -/
  idleFrames : Nat := 0
  /-- EN has been 1 since the last cold or warm reset or completed channel reset (R43). -/
  used : Bool := false
  refuse : Nat := 0
  /-- A channel reset is in progress: since when, and whether a queue had Pannier cells (R521). -/
  resetting : Option (Nat × Bool) := none
  /-- Framing runs: the unit has sent PHY frames since it last started (R32, R143). -/
  framing : Bool := false
  /-- Framing stops at the next PHY frame boundary (EN written 0). -/
  stopping : Bool := false
  /-- Some record was eligible at the channel's enable or reset (R29). -/
  eligible : Bool := false
  rounds : Rounds := .idle
  /-- The first round has ended (R131). -/
  firstDone : Bool := false
  /-- FS payload bytes still free in the PHY frame being assembled (R48, R50). -/
  space : Nat := 0
  /-- What the next PHY frame begins with, and what waits for keystream in this one. -/
  pend : List FragRem := []
  planned : List Planned := []
  /-- Frames that wait for room in the keystream queue, while other frames go first (R53, R303). -/
  deferred : List FragRem := []
  /-- Whole SDUs of terminals that a move has detached, or whose TUNE_DONE waits (R190, R192). -/
  parked : List FragRem := []
  receiver : Unit_ := .stopped
  chLos : Bool := false
  losFrames : Nat := 0
  /-- A valid burst was received in the current upstream frame (R62). -/
  frameValid : Bool := false
  /-- The upstream frame after the last one that has ended. -/
  upFrame : Nat := 0
  rssi : Option RssiArmed := none
  /-- When the access that the channel's module has went out (R377). -/
  modAt : Nat := 0
  disc : List DiscWin := []
  refTokens : Bucket := {}
  /-- Serial numbers referred, and until when they are not referred again (R112). -/
  referred : List (Nat × Nat) := []
  /-- Admissions so far (R132, R137). -/
  admitted : Nat := 0
  /-- Released ONU-IDs and the end of their quarantine (R114). -/
  quarantine : List (Nat × Nat) := []
  ploamHost : List PloamMsg := []
  ploamHw : List PloamMsg := []
  /-- Broadcast keys by key index 1, 2 (R315). -/
  bcast1 : Option Nat := none
  bcast2 : Option Nat := none
  bcastTx : Nat := 0
  /-- Optic sideband: transmit-disable asserted (R376). -/
  txDisable : Bool := true
  /-- Downstream and upstream bytes of the measurement window (R201). -/
  dsLoad : Nat := 0
  usLoad : Nat := 0
  deriving DecidableEq, Repr

/-- An allow-list entry (04 Table 4). -/
structure AllowEntry where
  sn : Nat := 0
  valid : Bool := false
  deny : Bool := false
  treeAny : Bool := false
  tree : Nat := 0
  pinCtx : Option Nat := none
  pinId : Option Nat := none
  tag : Nat := 0
  deriving DecidableEq, Repr

/-- A terminal record in device memory (04 Table 9). -/
structure TermRec where
  sn : Nat := 0
  valid : Bool := false
  tree : Nat := 0
  wl : Nat := 0
  onuId : Nat := 0
  ctx : Nat := 0
  mode : Nat := 0
  tag : Nat := 0
  rtd : Nat := 0
  seen : Nat := 0
  deriving DecidableEq, Repr

/-- The SLA record of an allocation context (05 Table 4). -/
structure Sla where
  valid : Bool := false
  allocId : Nat := 0
  term : Nat := 0
  dbru : Bool := false
  tm : Bool := false
  coop : Bool := false
  rf : Nat := 0
  poll : Nat := 0
  ra : Nat := 0
  acc : Nat := 0
  rna : Nat := 0
  weight : Nat := 0
  rm : Nat := 0
  coopMax : Nat := 0
  deriving DecidableEq, Repr

/-- The dynamic state of an allocation context (R151, R155, R156): credits, fixed debt, demand. -/
structure AllocDyn where
  ca : Int := 0
  cn : Int := 0
  debt : Nat := 0
  /-- The estimate of R155 and R156: the latest report, or the estimate from idle bytes, less what the maps built since grant. -/
  demand : Nat := 0
  /-- The last map that held a structure of the context, or the map before its writing (R157); none: never. -/
  lastMap : Option Nat := none
  deriving DecidableEq, Repr

/-- One allocation structure of a map with the bytes of each pass that it carries (R146, R159). -/
structure AStruct where
  /-- Allocation context; none: an implicit default allocation or a grant of the activation unit. -/
  ctx : Option Nat
  allocId : Nat
  dbru : Bool
  /-- Granted bytes by pass, before rounding. -/
  fixed : Nat := 0
  coop : Nat := 0
  assured : Nat := 0
  poll : Nat := 0
  nonAss : Nat := 0
  best : Nat := 0
  /-- It is the context's poll (R157). -/
  polled : Bool := false
  /-- GrantSize in grant units (R144). -/
  size : Nat := 0
  deriving DecidableEq, Repr

/-- What a burst of a map is for. -/
inductive BurstKind where
  | normal | serialNumber | ranging | directed | recovery | arrival
  deriving DecidableEq, Repr

/-- The upstream SDU that is being reassembled on an XGEM port (R49, R179): its bytes so far, or that the rest of it is
discarded. -/
structure Sdu where
  bytes : List Byte := []
  skip : Bool := false
  deriving DecidableEq, Repr

/-- A burst of a map: its interval and StartTime in time units from the start of its upstream frame. -/
structure GBurst where
  kind : BurstKind
  /-- Terminal context index; none for a serial-number grant. -/
  term : Option Nat
  first : Nat
  start : Nat
  stop : Nat
  profile : Nat
  ploamu : Bool
  structs : List AStruct
  /-- Received, missed or discarded. -/
  settled : Bool := false
  deriving DecidableEq, Repr

/-- A bandwidth map (R139). -/
structure GMap where
  k : Nat
  fallback : Bool := false
  bursts : List GBurst := []
  deriving DecidableEq, Repr

/-- A reserved interval of the upstream timeline, in absolute time units (frame number times units per frame plus offset)
(R167). -/
structure Reserve where
  kind : BurstKind
  term : Option Nat
  from_ : Nat
  to_ : Nat
  deriving DecidableEq, Repr

/-- A committed structure that goes into the map of the frame that holds its StartTime (R167, R168). -/
structure Commit where
  frame : Nat
  burst : GBurst
  /-- Of a ranging grant: its window and its own instant, on the tick timeline in units. -/
  opens : Nat := 0
  closes : Nat := 0
  grant : Nat := 0
  deriving DecidableEq, Repr

/-- An accepted cooperative entry (R169, 05 Table 8). -/
structure CoopEntry where
  ctx : Nat
  target : Bool
  carry : Bool
  pin : Bool
  bytes : Nat
  frame : Nat
  start : Nat
  tag : Nat
  deriving DecidableEq, Repr

/-- The grant engine of one channel (05). -/
structure GntCh where
  /-- The map number of the last snapshot instant that has passed (R140, R149); 0: none. -/
  snapped : Nat := 0
  /-- Commands that may still take effect at the snapshot instant being served (R149). -/
  room : Nat := 0
  /-- Maps built or sent whose upstream frames have not ended, oldest first. -/
  maps : List GMap := []
  /-- The map that the last snapshot built is not complete yet: its number (R141, R176). -/
  late : Option Nat := none
  reserves : List Reserve := []
  commits : List Commit := []
  coop : List CoopEntry := []
  /-- First terminal of the previous map's rotation order (R165). -/
  rot : Nat := 255
  last : Nat := 0
  peak : Nat := 0
  deriving DecidableEq, Repr

end Sys2Proof.Machine
end

