-- ==== Sys2Proof/Config.lean ====
section
/-! DEFINITION. Config.lean: what the spec leaves to the Recommendations, to standards it names, or to nobody: constants
and functions without a body, of which no proof can see a value (log entries 2 to 6). -/

namespace Sys2Proof

open Sys2Proof.Machine

/-- A value the spec leaves open, numbered by `State.free` (log entry 2). -/
opaque Config.freeValue : Nat → Nat

/-- The CAUSE number of a report's cause: the spec names causes and gives no numbers (19 Table 4; log entry 3). -/
opaque Config.causeCode : Cause → Nat

/-- SEV of a report by cause and by entry or exit (19 Table 4; log entry 3). -/
opaque Config.reportSev : Cause → Bool → Nat

/-- A byte of an AES-128-CTR keystream block (R52, R85): mode, key, upstream or not, superframe count, intra-frame count of
16-byte blocks, and the byte's place in its block. -/
opaque Config.lineByte : Nat → List Byte → Bool → Nat → Nat → Nat → Byte

/-- Byte i of the AES-256-GCM keystream (NIST SP 800-38D) of a key and an IV. -/
opaque Config.gcmByte : List Byte → List Byte → Nat → Byte

/-- The 128-bit AES-256-GCM tag of a key, an IV, AAD and ciphertext. -/
opaque Config.gcmTag : List Byte → List Byte → List Byte → List Byte → BitVec 128

/-- RFC 3394 unwrapping with the default initial value: KEK and blob; none where the integrity check fails (R309). -/
opaque Config.keyUnwrap : List Byte → List Byte → Option (List Byte)

/-- The default PLOAM integrity key of the mode's Recommendation (R134), by mode. -/
opaque Config.ploamDefaultKey : Nat → List Byte

/-- The fields of a downstream PLOAM message before its MIC, in the order and with the bits that the mode's Recommendation gives
them: mode, kind of message (`PloamBody.kind`). -/
opaque Config.ploamLayout : Nat → Nat → List (PloamField × Nat)

/-- The MIC of a downstream PLOAM message (R134): key, and the message before it. -/
opaque Config.ploamMic : List Byte → List Byte → BitVec 64

/-- Does the MIC of an upstream PLOAM message verify (R134)? -/
opaque Config.ploamMicOk : List Byte → List Byte → Bool

/-- The registration ID that a Registration message carries (04 Table 12). -/
opaque Config.registrationId : List Byte → List Byte

/-- The broadcast ONU-ID of the mode's Recommendation (R106), by mode. -/
opaque Config.broadcastOnuId : Nat → Nat

/-- The Alloc-ID of the serial-number grant (05), by mode. -/
opaque Config.serialAllocId : Nat → Nat

/-- Is an Alloc-ID in the range for unicast allocations of the mode's Recommendation (05 Table 4)? -/
opaque Config.unicastAlloc : Nat → Nat → Bool

/-- EqD rounded to the nearest unit of the mode's Recommendation (R117), in drift units: mode, upstream rate code, EqD. -/
opaque Config.roundEqd : Nat → Nat → Nat → Nat

/-- An EqD in the Ranging_Time unit of the mode's Recommendation, as a TUNE_GO carries it (06 Table 3). -/
opaque Config.eqdField : Nat → Nat → Nat → Nat

/-- FS frame bytes of an F50 PHY frame (G.9804.3). -/
opaque Config.f50FsBytes : Nat

/-- PSync of an F50 frame (G.9804.3). -/
opaque Config.f50PSync : Nat

/-- The port-ID of an idle XGEM frame (the mode's Recommendation), by mode. -/
opaque Config.idlePortId : Nat → Nat

/-- The unit of the buffer occupancy of a DBRu in bytes (the mode's Recommendation), by mode. -/
opaque Config.dbruUnit : Nat → Nat

/-- The set of a seal endpoint: a hash of (binding, service) that the spec does not give (11 Sealed services). -/
opaque Config.endpointSet : Nat → Nat → Nat

/-- SHA-384 (R455). -/
opaque Config.sha384 : List Byte → List Byte

/-- ECDSA P-384 verification (R455): public key, message hash, signature. -/
opaque Config.ecdsaVerify : List Byte → List Byte → List Byte → Bool

/-- CRC-32 of flash records (17 Table 2), of the variant the spec does not name. -/
opaque Config.flashCrc32 : List Byte → Nat

/-- The fused hashes of the public keys, entries 0 to 3 (R455). -/
opaque Config.fuseKey : Nat → List Byte

/-- The device serial number of the fuses (21 Table 10). -/
opaque Config.deviceSerial : Nat

/-- The reply body of GET_INFO: the order and widths of its items are not given (17 Table 4): slot, FW_VER and SEC_VER of
both slots, validity, stepping. -/
opaque Config.infoBody : List Nat → List Byte

/-- The reply body of IMG_VERIFY (17 Table 4): the encoding of the result is not given. -/
opaque Config.verifyBody : Bool → List Byte

/-- The CODE of a log entry that is no fault report (17 Table 5). -/
opaque Config.logCode : Nat → Nat

/-- SEV of a log entry that is no fault report, where no rule gives it (17 Table 5; log entry 3). -/
opaque Config.logSev : Nat → Nat

/-- DATA of a log entry that is no fault report, from its items (17 Table 5; log entry 3). -/
opaque Config.logItems : List Nat → List Byte

/-- The reply body of SECVER_COMMIT: the width of the new minimum is not given (17 Table 4). -/
opaque Config.minimumBody : Nat → List Byte

/-- The last three bytes of the start control block of a trace record (R471): the spec gives the first four. -/
opaque Config.traceFill : Nat → Byte

/-- Bytes of device memory whose layout the spec does not give (14 Table 4): the directory, the shadows of contexts and rules, the trace
region, the reserved rest of the counter region, and what lies beyond the device. -/
opaque Config.deviceByte : Nat → Byte

/-- What the flash holds before anything is written to it: the board's image slots and records (R455). -/
opaque Config.flashInit : Nat → Byte

/-- The 13-bit HEC of a field of a number of bits, as the Recommendation computes it (R47, R48, R146; log entry 5). -/
opaque Config.hec : Nat → Nat → Nat

/-- The operation-control structure of an F50 or D100 frame, from the PON-ID (G.9804.3; log entry 5). -/
opaque Config.opControl : Nat → Nat

/-- The 2,688 parity bits of the downstream LDPC code of G.9804.3, from 14,592 information bits (R81, R82; log entry 5). -/
opaque Config.ldpcParity : List Bool → BitVec 2688

/-- The 2,688 parity bits of the upstream LDPC code of G.9804.3, by rate code, from 14,592 information bits (R88; log entry 5). -/
opaque Config.upParity : Nat → List Bool → BitVec 2688

/-- Do the zero bits of a shortened codeword stand before its information bits, or after them (R82; log entry 5)? -/
opaque Config.zerosFirst : Bool

/-- Parity byte i of an RS codeword, from how many parity bytes it has and its data (02 Table 5, Table 7; log entry 5). -/
opaque Config.rsParity : Nat → List Byte → Nat → Byte

/-- Bit n of the downstream scrambler of the mode's Recommendation in the frame of a superframe counter (R83; log entry 5). -/
opaque Config.scrambleBit : Nat → Nat → Nat → Bool

/-- Bit n of the upstream scrambler of the mode's Recommendation, by mode and rate code (R88; log entry 5). -/
opaque Config.upScramble : Nat → Nat → Nat → Bool

/-- Byte i of the idle XGEM frames that fill a number of bytes (the mode's Recommendation): mode, number, i. -/
opaque Config.idleByte : Nat → Nat → Nat → Byte

/-- The numbers of OAM defects and causes in an OAM_DEFECT event: the spec names them and gives no numbers (R348). -/
opaque Config.defectCode : OamDefect → Nat
opaque Config.defectCause : OamCause → Nat

end Sys2Proof
end

