-- ==== Sys2Proof/Machine/Counters.lean ====
section
/-! DEFINITION. Machine/Counters.lean: the local counters, numbered as the catalogue numbers them (R483, 18 Table 3). What
the spec calls counted without naming a catalogue counter has a counter of kind 32 here (log entry 12). -/

namespace Sys2Proof.Machine

/-- A counter of the catalogue: counter set kind (18 Table 1) and index i (18 Table 3). -/
structure Ctr where
  kind : Nat
  idx : Nat
  deriving DecidableEq, Repr

/-- CHANNEL: DS frames. -/
def Ctr.chDsFrames : Ctr := ⟨0, 0⟩
/-- CHANNEL: DS bytes. -/
def Ctr.chDsBytes : Ctr := ⟨0, 1⟩
/-- CHANNEL: US frames. -/
def Ctr.chUsFrames : Ctr := ⟨0, 2⟩
/-- CHANNEL: US bytes. -/
def Ctr.chUsBytes : Ctr := ⟨0, 3⟩
/-- CHANNEL: valid bursts. -/
def Ctr.chValidBursts : Ctr := ⟨0, 4⟩
/-- CHANNEL: bursts without delimiter. -/
def Ctr.chBurstsWithoutDelimiter : Ctr := ⟨0, 5⟩
/-- CHANNEL: burst header HEC failures. -/
def Ctr.chBurstHeaderHecFailures : Ctr := ⟨0, 6⟩
/-- CHANNEL: ONU-ID mismatches. -/
def Ctr.chOnuIdMismatches : Ctr := ⟨0, 7⟩
/-- CHANNEL: LTF failures. -/
def Ctr.chLtfFailures : Ctr := ⟨0, 8⟩
/-- CHANNEL: DBRu CRC failures. -/
def Ctr.chDBRuCrcFailures : Ctr := ⟨0, 9⟩
/-- CHANNEL: uncorrectable codewords. -/
def Ctr.chUncorrectableCodewords : Ctr := ⟨0, 10⟩
/-- CHANNEL: delineation discards. -/
def Ctr.chDelineationDiscards : Ctr := ⟨0, 11⟩
/-- CHANNEL: XGEM header errors. -/
def Ctr.chXgemHeaderErrors : Ctr := ⟨0, 12⟩
/-- CHANNEL: unknown port-ID drops. -/
def Ctr.chUnknownPortIdDrops : Ctr := ⟨0, 13⟩
/-- CHANNEL: truncated SDU drops (R51). -/
def Ctr.chTruncatedSduDrops : Ctr := ⟨0, 14⟩
/-- CHANNEL: oversize SDU drops (R49). -/
def Ctr.chOversizeSduDrops : Ctr := ⟨0, 15⟩
/-- CHANNEL: cipher deferrals (R53). -/
def Ctr.chCipherDeferrals : Ctr := ⟨0, 16⟩
/-- CHANNEL: KS_LATE. -/
def Ctr.chKsLate : Ctr := ⟨0, 17⟩
/-- CHANNEL: discovery collisions. -/
def Ctr.chDiscoveryCollisions : Ctr := ⟨0, 18⟩
/-- CHANNEL: cap deferrals. -/
def Ctr.chCapDeferrals : Ctr := ⟨0, 19⟩
/-- CHANNEL: referral deferrals. -/
def Ctr.chReferralDeferrals : Ctr := ⟨0, 20⟩
/-- CHANNEL: ranging failures. -/
def Ctr.chRangingFailures : Ctr := ⟨0, 21⟩
/-- CHANNEL: fallback maps. -/
def Ctr.chFallbackMaps : Ctr := ⟨0, 22⟩
/-- CHANNEL: GrantSize clamps. -/
def Ctr.chGrantSizeClamps : Ctr := ⟨0, 23⟩
/-- CHANNEL: poll waits. -/
def Ctr.chPollWaits : Ctr := ⟨0, 24⟩
/-- CHANNEL: cooperative bytes trimmed. -/
def Ctr.chCooperativeBytesTrimmed : Ctr := ⟨0, 25⟩
/-- CHANNEL: cooperative entries rejected. -/
def Ctr.chCooperativeEntriesRejected : Ctr := ⟨0, 26⟩
/-- CHANNEL: assured cuts. -/
def Ctr.chAssuredCuts : Ctr := ⟨0, 27⟩
/-- CHANNEL: placement shortfalls. -/
def Ctr.chPlacementShortfalls : Ctr := ⟨0, 28⟩
/-- CHANNEL: OMCI ring drops. -/
def Ctr.chOmciRingDrops : Ctr := ⟨0, 29⟩
/-- CHANNEL: refused enables. -/
def Ctr.chRefusedEnables : Ctr := ⟨0, 30⟩
/-- CHANNEL: moves aborted. -/
def Ctr.chMovesAborted : Ctr := ⟨0, 31⟩
/-- TERMINAL: US frames. -/
def Ctr.termUsFrames : Ctr := ⟨1, 0⟩
/-- TERMINAL: US bytes. -/
def Ctr.termUsBytes : Ctr := ⟨1, 1⟩
/-- TERMINAL: DS frames. -/
def Ctr.termDsFrames : Ctr := ⟨1, 2⟩
/-- TERMINAL: DS bytes. -/
def Ctr.termDsBytes : Ctr := ⟨1, 3⟩
/-- TERMINAL: BIP-32 error bits. -/
def Ctr.termBip32ErrorBits : Ctr := ⟨1, 4⟩
/-- TERMINAL: LOSi entries. -/
def Ctr.termLOSiEntries : Ctr := ⟨1, 5⟩
/-- TERMINAL: LOFi entries. -/
def Ctr.termLOFiEntries : Ctr := ⟨1, 6⟩
/-- TERMINAL: DOWi entries. -/
def Ctr.termDOWiEntries : Ctr := ⟨1, 7⟩
/-- TERMINAL: Ranging_Time messages sent. -/
def Ctr.termRangingTimeMessagesSent : Ctr := ⟨1, 8⟩
/-- TERMINAL: dying gasps. -/
def Ctr.termDyingGasps : Ctr := ⟨1, 9⟩
/-- TERMINAL: PLOAM MIC failures. -/
def Ctr.termPloamMicFailures : Ctr := ⟨1, 10⟩
/-- TERMINAL: fixed bytes granted. -/
def Ctr.termFixedBytesGranted : Ctr := ⟨1, 11⟩
/-- TERMINAL: assured bytes granted. -/
def Ctr.termAssuredBytesGranted : Ctr := ⟨1, 12⟩
/-- TERMINAL: non-assured bytes granted. -/
def Ctr.termNonAssuredBytesGranted : Ctr := ⟨1, 13⟩
/-- TERMINAL: best-effort bytes granted. -/
def Ctr.termBestEffortBytesGranted : Ctr := ⟨1, 14⟩
/-- TERMINAL: delineation discards. -/
def Ctr.termDelineationDiscards : Ctr := ⟨1, 15⟩
/-- QUEUE_DS: Frames enqueued. -/
def Ctr.qdsFramesEnqueued : Ctr := ⟨2, 0⟩
/-- QUEUE_DS: bytes enqueued. -/
def Ctr.qdsBytesEnqueued : Ctr := ⟨2, 1⟩
/-- QUEUE_DS: frames sent. -/
def Ctr.qdsFramesSent : Ctr := ⟨2, 2⟩
/-- QUEUE_DS: bytes sent. -/
def Ctr.qdsBytesSent : Ctr := ⟨2, 3⟩
/-- QUEUE_DS: QLIMIT. -/
def Ctr.qdsQlimit : Ctr := ⟨2, 4⟩
/-- QUEUE_DS: YEL_DROP. -/
def Ctr.qdsYelDrop : Ctr := ⟨2, 5⟩
/-- QUEUE_DS: FLUSHING and PORT_DOWN. -/
def Ctr.qdsFlushingAndPortDown : Ctr := ⟨2, 6⟩
/-- QUEUE_DS: TERM_LOST. -/
def Ctr.qdsTermLost : Ctr := ⟨2, 7⟩
/-- QUEUE_UP: Frames enqueued. -/
def Ctr.qupFramesEnqueued : Ctr := ⟨4, 0⟩
/-- QUEUE_UP: bytes enqueued. -/
def Ctr.qupBytesEnqueued : Ctr := ⟨4, 1⟩
/-- QUEUE_UP: frames sent. -/
def Ctr.qupFramesSent : Ctr := ⟨4, 2⟩
/-- QUEUE_UP: bytes sent. -/
def Ctr.qupBytesSent : Ctr := ⟨4, 3⟩
/-- QUEUE_UP: QLIMIT. -/
def Ctr.qupQlimit : Ctr := ⟨4, 4⟩
/-- QUEUE_UP: YEL_DROP. -/
def Ctr.qupYelDrop : Ctr := ⟨4, 5⟩
/-- QUEUE_UP: FLUSHING and PORT_DOWN. -/
def Ctr.qupFlushingAndPortDown : Ctr := ⟨4, 6⟩
/-- QUEUE_UP: GATE_OVERSIZE. -/
def Ctr.qupGateOversize : Ctr := ⟨4, 7⟩
/-- UPLINK: RX frames. -/
def Ctr.uplRxFrames : Ctr := ⟨3, 0⟩
/-- UPLINK: RX bytes. -/
def Ctr.uplRxBytes : Ctr := ⟨3, 1⟩
/-- UPLINK: TX frames. -/
def Ctr.uplTxFrames : Ctr := ⟨3, 2⟩
/-- UPLINK: TX bytes. -/
def Ctr.uplTxBytes : Ctr := ⟨3, 3⟩
/-- UPLINK: FCS errors. -/
def Ctr.uplFcsErrors : Ctr := ⟨3, 4⟩
/-- UPLINK: runts. -/
def Ctr.uplRunts : Ctr := ⟨3, 5⟩
/-- UPLINK: oversize. -/
def Ctr.uplOversize : Ctr := ⟨3, 6⟩
/-- UPLINK: MAC Control drops. -/
def Ctr.uplMacControlDrops : Ctr := ⟨3, 7⟩
/-- UPLINK: lock losses. -/
def Ctr.uplLockLosses : Ctr := ⟨3, 8⟩
/-- UPLINK: down events. -/
def Ctr.uplDownEvents : Ctr := ⟨3, 9⟩
/-- UPLINK: LOS entries. -/
def Ctr.uplLosEntries : Ctr := ⟨3, 10⟩
/-- UPLINK: LOL entries. -/
def Ctr.uplLolEntries : Ctr := ⟨3, 11⟩
/-- UPLINK: EYE_DEGRADE entries. -/
def Ctr.uplEyeDegradeEntries : Ctr := ⟨3, 12⟩
/-- UPLINK: EYE_FAIL entries. -/
def Ctr.uplEyeFailEntries : Ctr := ⟨3, 13⟩
/-- UPLINK: MSEC_BAD. -/
def Ctr.uplMsecBad : Ctr := ⟨3, 14⟩
/-- UPLINK: MSEC_NO_SC. -/
def Ctr.uplMsecNoSc : Ctr := ⟨3, 15⟩
/-- UPLINK: replay drops. -/
def Ctr.uplReplayDrops : Ctr := ⟨3, 16⟩
/-- UPLINK: ICV_FAIL. -/
def Ctr.uplIcvFail : Ctr := ⟨3, 17⟩
/-- UPLINK: MSEC_UNPROT. -/
def Ctr.uplMsecUnprot : Ctr := ⟨3, 18⟩
/-- UPLINK: MSEC KEY_EMPTY. -/
def Ctr.uplMsecKeyEmpty : Ctr := ⟨3, 19⟩
/-- UPLINK: PORT_DOWN drops. -/
def Ctr.uplPortDownDrops : Ctr := ⟨3, 20⟩
/-- UPLINK: refused enables. -/
def Ctr.uplRefusedEnables : Ctr := ⟨3, 21⟩
/-- UPLINK: ONE_STEP_DEMOTED. -/
def Ctr.uplOneStepDemoted : Ctr := ⟨3, 22⟩
/-- UPLINK: corrected symbols lane, lane j. -/
def Ctr.uplCorrectedSymbolsLane (j : Nat) : Ctr := ⟨3, 24 + j⟩
/-- UPLINK: uncorrectable codewords lane, lane j. -/
def Ctr.uplUncorrectableCodewordsLane (j : Nat) : Ctr := ⟨3, 32 + j⟩
/-- SERVICE: Ingress frames. -/
def Ctr.svcIngressFrames : Ctr := ⟨5, 0⟩
/-- SERVICE: ingress bytes. -/
def Ctr.svcIngressBytes : Ctr := ⟨5, 1⟩
/-- SERVICE: egress frames. -/
def Ctr.svcEgressFrames : Ctr := ⟨5, 2⟩
/-- SERVICE: egress bytes. -/
def Ctr.svcEgressBytes : Ctr := ⟨5, 3⟩
/-- SERVICE: NO_DEST. -/
def Ctr.svcNoDest : Ctr := ⟨5, 4⟩
/-- SERVICE: flood copies. -/
def Ctr.svcFloodCopies : Ctr := ⟨5, 5⟩
/-- SERVICE: learn excess (R246). -/
def Ctr.svcLearnExcess : Ctr := ⟨5, 6⟩
/-- SERVICE: STATIC_CONFLICT. -/
def Ctr.svcStaticConflict : Ctr := ⟨5, 7⟩
/-- SLICE: Punt drops of class n. -/
def Ctr.slcPuntDrops (n : Nat) : Ctr := ⟨7, n⟩
/-- SLICE: parse-failure drops. -/
def Ctr.slcParseFailureDrops : Ctr := ⟨7, 7⟩
/-- SLICE: fragment drops. -/
def Ctr.slcFragmentDrops : Ctr := ⟨7, 8⟩
/-- SLICE: NO_DEST. -/
def Ctr.slcNoDest : Ctr := ⟨7, 9⟩
/-- SLICE: NO_MEMBER. -/
def Ctr.slcNoMember : Ctr := ⟨7, 10⟩
/-- SLICE: FWD_DROP. -/
def Ctr.slcFwdDrop : Ctr := ⟨7, 11⟩
/-- SLICE: SAME_SRC. -/
def Ctr.slcSameSrc : Ctr := ⟨7, 12⟩
/-- SLICE: NO_FLOOD. -/
def Ctr.slcNoFlood : Ctr := ⟨7, 13⟩
/-- SLICE: VOQ_FULL. -/
def Ctr.slcVoqFull : Ctr := ⟨7, 14⟩
/-- SLICE: VOQ_AGE. -/
def Ctr.slcVoqAge : Ctr := ⟨7, 15⟩
/-- SLICE: CELL_LOST. -/
def Ctr.slcCellLost : Ctr := ⟨7, 16⟩
/-- SLICE: Chainring drops. -/
def Ctr.slcChainringDrops : Ctr := ⟨7, 17⟩
/-- SLICE: MAX_PASS drops. -/
def Ctr.slcMaxPassDrops : Ctr := ⟨7, 18⟩
/-- SLICE: invalid destination port (R26). -/
def Ctr.slcInvalidDestinationPort : Ctr := ⟨7, 19⟩
/-- SLICE: learn queue full. -/
def Ctr.slcLearnQueueFull : Ctr := ⟨7, 20⟩
/-- SLICE: learn excess at update. -/
def Ctr.slcLearnExcessAtUpdate : Ctr := ⟨7, 21⟩
/-- SLICE: METER_SLICE. -/
def Ctr.slcMeterSlice : Ctr := ⟨7, 22⟩
/-- SLICE: METER_UNSET. -/
def Ctr.slcMeterUnset : Ctr := ⟨7, 23⟩
/-- SLICE: DEI not marked. -/
def Ctr.slcDeiNotMarked : Ctr := ⟨7, 24⟩
/-- SLICE: MC_RESIDUE. -/
def Ctr.slcMcResidue : Ctr := ⟨7, 25⟩
/-- SLICE: RESIDUE_FULL. -/
def Ctr.slcResidueFull : Ctr := ⟨7, 26⟩
/-- SLICE: MC_EMPTY. -/
def Ctr.slcMcEmpty : Ctr := ⟨7, 27⟩
/-- SLICE: PREFETCH_DRY. -/
def Ctr.slcPrefetchDry : Ctr := ⟨7, 28⟩
/-- SLICE: CPH_LATE. -/
def Ctr.slcCphLate : Ctr := ⟨7, 29⟩
/-- SLICE: PN_EXHAUSTED. -/
def Ctr.slcPnExhausted : Ctr := ⟨7, 30⟩
/-- SLICE: sample records lost. -/
def Ctr.slcSampleRecordsLost : Ctr := ⟨7, 31⟩
/-- SLICE: EDIT anomalies (R219). -/
def Ctr.slcEditAnomalies : Ctr := ⟨7, 32⟩
/-- SLICE: edits not applied (R335). -/
def Ctr.slcEditsNotApplied : Ctr := ⟨7, 33⟩
/-- SLICE: SEAL_NO_EP. -/
def Ctr.slcSealNoEp : Ctr := ⟨7, 34⟩
/-- METER: Green frames. -/
def Ctr.metGreenFrames : Ctr := ⟨8, 0⟩
/-- METER: green bytes. -/
def Ctr.metGreenBytes : Ctr := ⟨8, 1⟩
/-- METER: yellow frames. -/
def Ctr.metYellowFrames : Ctr := ⟨8, 2⟩
/-- METER: yellow bytes. -/
def Ctr.metYellowBytes : Ctr := ⟨8, 3⟩
/-- METER: red frames. -/
def Ctr.metRedFrames : Ctr := ⟨8, 4⟩
/-- METER: red bytes. -/
def Ctr.metRedBytes : Ctr := ⟨8, 5⟩
/-- METER: red forwarded as yellow. -/
def Ctr.metRedForwardedAsYellow : Ctr := ⟨8, 6⟩
/-- METER: frames naming the meter while its VALID is 0. -/
def Ctr.metFramesNamingTheMeterWhileItsValidIs0 : Ctr := ⟨8, 7⟩
/-- RULE: Frames. -/
def Ctr.ruleFrames : Ctr := ⟨9, 0⟩
/-- RULE: bytes. -/
def Ctr.ruleBytes : Ctr := ⟨9, 1⟩
/-- MEP: CCMs sent. -/
def Ctr.mepCCMsSent : Ctr := ⟨10, 0⟩
/-- MEP: valid CCMs received. -/
def Ctr.mepValidCCMsReceived : Ctr := ⟨10, 1⟩
/-- MEP: AIS sent. -/
def Ctr.mepAisSent : Ctr := ⟨10, 2⟩
/-- MEP: AIS received. -/
def Ctr.mepAisReceived : Ctr := ⟨10, 3⟩
/-- MEP: OAM_LOW. -/
def Ctr.mepOamLow : Ctr := ⟨10, 4⟩
/-- MEP: dLOC entries. -/
def Ctr.mepDLOCEntries : Ctr := ⟨10, 5⟩
/-- MEP: dLOF entries. -/
def Ctr.mepDLOFEntries : Ctr := ⟨10, 6⟩
/-- MEP: AIS not sent for a missing side. -/
def Ctr.mepAisNotSentForAMissingSide : Ctr := ⟨10, 7⟩
/-- DEVICE: Table moves. -/
def Ctr.devTableMoves : Ctr := ⟨11, 0⟩
/-- DEVICE: insertion failures. -/
def Ctr.devInsertionFailures : Ctr := ⟨11, 1⟩
/-- DEVICE: rehash requests suppressed. -/
def Ctr.devRehashRequestsSuppressed : Ctr := ⟨11, 2⟩
/-- DEVICE: notifications suppressed. -/
def Ctr.devNotificationsSuppressed : Ctr := ⟨11, 3⟩
/-- DEVICE: aged entries. -/
def Ctr.devAgedEntries : Ctr := ⟨11, 4⟩
/-- DEVICE: FWD_REPAIR. -/
def Ctr.devFwdRepair : Ctr := ⟨11, 5⟩
/-- DEVICE: REPAIR_USED. -/
def Ctr.devRepairUsed : Ctr := ⟨11, 6⟩
/-- DEVICE: FWD_LOST_ENTRY. -/
def Ctr.devFwdLostEntry : Ctr := ⟨11, 7⟩
/-- DEVICE: flush removals. -/
def Ctr.devFlushRemovals : Ctr := ⟨11, 8⟩
/-- DEVICE: Pannier corrected errors. -/
def Ctr.devPannierCorrectedErrors : Ctr := ⟨11, 9⟩
/-- DEVICE: Pannier uncorrectable errors. -/
def Ctr.devPannierUncorrectableErrors : Ctr := ⟨11, 10⟩
/-- DEVICE: throttles. -/
def Ctr.devThrottles : Ctr := ⟨11, 11⟩
/-- DEVICE: RFM commands. -/
def Ctr.devRfmCommands : Ctr := ⟨11, 12⟩
/-- DEVICE: forced refreshes. -/
def Ctr.devForcedRefreshes : Ctr := ⟨11, 13⟩
/-- DEVICE: catch-ups. -/
def Ctr.devCatchUps : Ctr := ⟨11, 14⟩
/-- DEVICE: device-memory writes dropped. -/
def Ctr.devDeviceMemoryWritesDropped : Ctr := ⟨11, 15⟩
/-- DEVICE: sweeps skipped. -/
def Ctr.devSweepsSkipped : Ctr := ⟨11, 16⟩
/-- DEVICE: saturated counters. -/
def Ctr.devSaturatedCounters : Ctr := ⟨11, 17⟩
/-- DEVICE: events discarded by route. -/
def Ctr.devEventsDiscardedByRoute : Ctr := ⟨11, 18⟩
/-- DEVICE: events discarded by full ring. -/
def Ctr.devEventsDiscardedByFullRing : Ctr := ⟨11, 19⟩
/-- DEVICE: out-of-range select drops. -/
def Ctr.devOutOfRangeSelectDrops : Ctr := ⟨11, 20⟩
/-- DEVICE: locked-field writes. -/
def Ctr.devLockedFieldWrites : Ctr := ⟨11, 21⟩
/-- DEVICE: management-path writes dropped. -/
def Ctr.devManagementPathWritesDropped : Ctr := ⟨11, 22⟩
/-- DEVICE: VF window writes dropped. -/
def Ctr.devVfWindowWritesDropped : Ctr := ⟨11, 23⟩
/-- CIPHER: KS requests. -/
def Ctr.cphKsRequests : Ctr := ⟨12, 0⟩
/-- CIPHER: MIC requests. -/
def Ctr.cphMicRequests : Ctr := ⟨12, 1⟩
/-- CIPHER: SEAL. -/
def Ctr.cphSeal : Ctr := ⟨12, 2⟩
/-- CIPHER: OPEN. -/
def Ctr.cphOpen : Ctr := ⟨12, 3⟩
/-- CIPHER: RESEAL. -/
def Ctr.cphReseal : Ctr := ⟨12, 4⟩
/-- CIPHER: bytes processed. -/
def Ctr.cphBytesProcessed : Ctr := ⟨12, 5⟩
/-- CIPHER: KEY_GONE. -/
def Ctr.cphKeyGone : Ctr := ⟨12, 6⟩
/-- CIPHER: CPH_LATE. -/
def Ctr.cphCphLate : Ctr := ⟨12, 7⟩
/-- CIPHER: wakes. -/
def Ctr.cphWakes : Ctr := ⟨12, 8⟩
/-- KEY_SLOT: Requests bound. -/
def Ctr.keyRequestsBound : Ctr := ⟨13, 0⟩
/-- KEY_SLOT: bytes. -/
def Ctr.keyBytes : Ctr := ⟨13, 1⟩
/-- KEY_SLOT: KEY_EMPTY. -/
def Ctr.keyKeyEmpty : Ctr := ⟨13, 2⟩
/-- KEY_SLOT: REKEY events. -/
def Ctr.keyRekeyEvents : Ctr := ⟨13, 3⟩
/-- ENDPOINT: Frames opened. -/
def Ctr.epFramesOpened : Ctr := ⟨14, 0⟩
/-- ENDPOINT: frames sealed toward. -/
def Ctr.epFramesSealedToward : Ctr := ⟨14, 1⟩
/-- ENDPOINT: SEAL_TAG. -/
def Ctr.epSealTag : Ctr := ⟨14, 2⟩
/-- ENDPOINT: PHASE_OLD. -/
def Ctr.epPhaseOld : Ctr := ⟨14, 3⟩
/-- ENDPOINT: REPLAY. -/
def Ctr.epReplay : Ctr := ⟨14, 4⟩
/-- ENDPOINT: ICV_FAIL. -/
def Ctr.epIcvFail : Ctr := ⟨14, 5⟩
/-- ENDPOINT: KEY_EMPTY. -/
def Ctr.epKeyEmpty : Ctr := ⟨14, 6⟩
/-- ENDPOINT: SEAL_SHORT and SEAL_LONG. -/
def Ctr.epSealShortAndSealLong : Ctr := ⟨14, 7⟩
/-- MGMT: Mailbox requests. -/
def Ctr.mgtMailboxRequests : Ctr := ⟨16, 0⟩
/-- MGMT: ignored doorbells. -/
def Ctr.mgtIgnoredDoorbells : Ctr := ⟨16, 1⟩
/-- MGMT: log entries. -/
def Ctr.mgtLogEntries : Ctr := ⟨16, 2⟩
/-- MGMT: log entries lost. -/
def Ctr.mgtLogEntriesLost : Ctr := ⟨16, 3⟩
/-- MGMT: trace records dropped. -/
def Ctr.mgtTraceRecordsDropped : Ctr := ⟨16, 4⟩
/-- MGMT: SMBus NACKs. -/
def Ctr.mgtSMBusNACKs : Ctr := ⟨16, 5⟩
/-- MGMT: SRAM corrected errors. -/
def Ctr.mgtSramCorrectedErrors : Ctr := ⟨16, 6⟩
/-- MGMT: Tandem restarts. -/
def Ctr.mgtTandemRestarts : Ctr := ⟨16, 7⟩
/-- FAULT: reports of fault report class i. -/
def Ctr.flt (i : Nat) : Ctr := ⟨15, i⟩
/-- Counted, with no catalogue counter: a write dropped while BAR0 is not open (R511) or in standby (R523). -/
def Ctr.xClosedWrite : Ctr := ⟨32, 0⟩
/-- Counted, with no catalogue counter: a write of less than 32 bits or unaligned (R529). -/
def Ctr.xBadSizeWrite : Ctr := ⟨32, 1⟩
/-- Counted, with no catalogue counter: a write of SETUP_LOCK while READY is 0 (R537). -/
def Ctr.xLockBeforeReady : Ctr := ⟨32, 2⟩
/-- Counted, with no catalogue counter: a refused standby entry (R522). -/
def Ctr.xStandbyRefused : Ctr := ⟨32, 3⟩
/-- Counted, with no catalogue counter: an IDX that moves backwards (R430). -/
def Ctr.xDoorbellBack : Ctr := ⟨32, 4⟩
/-- Counted, with no catalogue counter: a refused ring enable (R428). -/
def Ctr.xRingRefused : Ctr := ⟨32, 5⟩
/-- Counted, with no catalogue counter: a frame that finds too few posted buffers (R442), per ring. -/
def Ctr.xRxNobuf : Ctr := ⟨32, 6⟩
/-- Counted, with no catalogue counter: a frame whose ring is not enabled (R432, R443), per ring. -/
def Ctr.xNoRing : Ctr := ⟨32, 7⟩
/-- Counted, with no catalogue counter: an event discarded by its route, per code (R446). -/
def Ctr.xEventCode : Ctr := ⟨32, 8⟩
/-- Counted, with no catalogue counter: an event discarded by a full ring, per ring (R446). -/
def Ctr.xEventRing : Ctr := ⟨32, 9⟩
/-- Counted, with no catalogue counter: an event raised while the host interface is in reset (R453). -/
def Ctr.xEventReset : Ctr := ⟨32, 10⟩
/-- Counted, with no catalogue counter: a PF write to an entry of a VF's ring, or to the windows of an enabled VF (R450). -/
def Ctr.xPfVfWrite : Ctr := ⟨32, 11⟩
/-- Counted, with no catalogue counter: a frame to the host port while the host interface is in reset (R21). -/
def Ctr.xHostPortDrop : Ctr := ⟨32, 12⟩
/-- Counted, with no catalogue counter: a further reset write during a channel reset (R521). -/
def Ctr.xChannelResetAgain : Ctr := ⟨32, 13⟩
/-- Counted, with no catalogue counter: an injection ignored (19 Table 7). -/
def Ctr.xInjIgnored : Ctr := ⟨32, 14⟩
/-- Counted, with no catalogue counter: a TIME_SET of OP 2 (R406). -/
def Ctr.xTimeRate : Ctr := ⟨32, 15⟩
/-- Counted, with no catalogue counter: a PPS_IN edge less than 500 ms after the last accepted one (R417). -/
def Ctr.xPpsInEarly : Ctr := ⟨32, 16⟩
/-- Counted, with no catalogue counter: a frame that meets YACT 3 (10 Table 2), per meter. -/
def Ctr.xMeterYact : Ctr := ⟨32, 17⟩
/-- Counted, with no catalogue counter: a frame of a service whose MODE is 3 (08 Table 4), per service. -/
def Ctr.xLearnMode3 : Ctr := ⟨32, 18⟩
/-- Counted, with no catalogue counter: a frame of a service in MODE 1 while SIZE is above 3 (R242), per service. -/
def Ctr.xLearnModeBig : Ctr := ⟨32, 19⟩
/-- Counted, with no catalogue counter: a corrected error that is counted only (R501), per site. -/
def Ctr.xCorrected : Ctr := ⟨32, 20⟩
/-- Counted, with no catalogue counter: a member entry of KIND 2 or 3 (09 Table 3), per group. -/
def Ctr.xMemberKind : Ctr := ⟨32, 21⟩
/-- Counted, with no catalogue counter: a record whose destination is a binding that no terminal holds, per slice. -/
def Ctr.xNoEgress : Ctr := ⟨32, 22⟩
/-- Counted, with no catalogue counter: an upstream map entry of PIN 3 (07 Table 3), per XGEM port context. -/
def Ctr.xPinBad : Ctr := ⟨32, 23⟩
/-- Counted, with no catalogue counter: an action of DEST 6 to 15 (07 Table 9), per slice. -/
def Ctr.xDestBad : Ctr := ⟨32, 24⟩
/-- Counted, with no catalogue counter: a frame of a service with UNK_DA 2 or 3, or without a learning section, dropped, per service. -/
def Ctr.xUnkDa : Ctr := ⟨32, 25⟩
/-- Counted, with no catalogue counter: a frame to the Chainring port of a slice other than by DEST 5, per slice. -/
def Ctr.xFwdBusy : Ctr := ⟨32, 26⟩
/-- Counted, with no catalogue counter: an RFM threshold of 0 taken as 64 (14 Table 7). -/
def Ctr.xRfmZero : Ctr := ⟨32, 27⟩
/-- Counted, with no catalogue counter: panics of a channel (R389). -/
def Ctr.xPanic : Ctr := ⟨32, 28⟩
/-- Counted, with no catalogue counter: a write of FWD_CFG.SIZE refused for equal seeds (R232). -/
def Ctr.xSeedEqual : Ctr := ⟨32, 29⟩
/-- Counted, with no catalogue counter: a write of HBM_DLYn after the start (R394). -/
def Ctr.xDlyIgnored : Ctr := ⟨32, 30⟩
/-- Counted, with no catalogue counter: a BAR2 write dropped (R401, R527). -/
def Ctr.xBar2Drop : Ctr := ⟨32, 31⟩
/-- Counted, with no catalogue counter: a received frame shorter or longer than the MAC takes, per port. -/
def Ctr.xRxTrunc : Ctr := ⟨32, 32⟩
/-- Counted, with no catalogue counter: KEY_GONE of a request that no cluster has taken (R313), per slice. -/
def Ctr.xKeyGone : Ctr := ⟨32, 33⟩
/-- Counted, with no catalogue counter: a downstream keystream request that fails (R318), per channel. -/
def Ctr.xKsFail : Ctr := ⟨32, 34⟩
/-- Counted, with no catalogue counter: a MACsec frame shorter than its SecTAG and ICV, per port. -/
def Ctr.xMsecOpen : Ctr := ⟨32, 35⟩
/-- Counted, with no catalogue counter: an event that Table 1 of 04 does not name for the state of its context (R98), per terminal context. -/
def Ctr.xTermEvent : Ctr := ⟨32, 36⟩
/-- Counted, with no catalogue counter: a serial number in DISABLED on its channel (04 Table 5), per channel. -/
def Ctr.xSnBarred : Ctr := ⟨32, 37⟩
/-- Counted, with no catalogue counter: a serial number denied (04 Table 5), per channel. -/
def Ctr.xSnDenied : Ctr := ⟨32, 38⟩
/-- Counted, with no catalogue counter: a repeated referral suppressed (R112), per channel. -/
def Ctr.xSnHeld : Ctr := ⟨32, 39⟩
/-- Counted, with no catalogue counter: a response of a terminal that a move carries (R196), per channel. -/
def Ctr.xSnMoving : Ctr := ⟨32, 40⟩
/-- Counted, with no catalogue counter: an ID_CONFLICT (R113), per channel. -/
def Ctr.xIdConflict : Ctr := ⟨32, 41⟩
/-- Counted, with no catalogue counter: a write of ACT_DISC.EN refused (R103, 04 Table 2), per channel. -/
def Ctr.xDiscRefused : Ctr := ⟨32, 42⟩
/-- Counted, with no catalogue counter: an upstream PLOAM message of no context whose MIC fails (R134), per channel. -/
def Ctr.xPloamMic : Ctr := ⟨32, 43⟩
/-- Counted, with no catalogue counter: an upstream tuning message discarded (R183), per terminal context. -/
def Ctr.xTuneBad : Ctr := ⟨32, 44⟩
/-- Counted, with no catalogue counter: dying gasps recorded, per terminal context. -/
def Ctr.xGasp : Ctr := ⟨32, 45⟩
/-- Counted, with no catalogue counter: a report of the invalid value (R155), per channel. -/
def Ctr.xReportBad : Ctr := ⟨32, 46⟩
/-- Counted, with no catalogue counter: a cooperative entry of 0 bytes (05 Table 8), per channel. -/
def Ctr.xCoopZero : Ctr := ⟨32, 47⟩
/-- Counted, with no catalogue counter: a pinned cooperative burst placed elsewhere (R171), per channel. -/
def Ctr.xPinMiss : Ctr := ⟨32, 48⟩
/-- Counted, with no catalogue counter: a pass that skips a context for the limit of 512 structures (R162), per channel. -/
def Ctr.xStructSkip : Ctr := ⟨32, 49⟩
/-- Counted, with no catalogue counter: a reservation moved to a later frame (R167), per channel. -/
def Ctr.xSlotMoved : Ctr := ⟨32, 50⟩
/-- Counted, with no catalogue counter: a discovery window that waits for an arrival (R187), per channel. -/
def Ctr.xWinWaits : Ctr := ⟨32, 51⟩
/-- Counted, with no catalogue counter: a refused channel enable (R44), per channel. -/
def Ctr.xChRefused : Ctr := ⟨32, 52⟩
/-- Counted, with no catalogue counter: an upstream XGEM frame with key index 3 (R316), per channel. -/
def Ctr.xKeyIdx3 : Ctr := ⟨32, 53⟩
/-- Counted, with no catalogue counter: an upstream XGEM frame whose key slot is empty or not TYPE 1 (R316), per channel. -/
def Ctr.xUsKeyEmpty : Ctr := ⟨32, 54⟩
/-- Counted, with no catalogue counter: a cooperative entry rejected for its context (R169), per channel. -/
def Ctr.xCoopNoCtx : Ctr := ⟨32, 55⟩
/-- Counted, with no catalogue counter: a cooperative entry rejected for COOP_CAP 0 (R169), per channel. -/
def Ctr.xCoopCap0 : Ctr := ⟨32, 56⟩
/-- Counted, with no catalogue counter: a cooperative entry rejected for its target map (R169), per channel. -/
def Ctr.xCoopFar : Ctr := ⟨32, 57⟩
/-- Counted, with no catalogue counter: a cooperative entry rejected for a full queue (R169), per channel. -/
def Ctr.xCoopFull : Ctr := ⟨32, 58⟩
/-- Counted, with no catalogue counter: an accepted cooperative entry dropped (R170, R174, R176), per channel. -/
def Ctr.xCoopDrop : Ctr := ⟨32, 59⟩
/-- Counted, with no catalogue counter: a copy or record dropped because its port is down (R267, R271), per PON channel port. -/
def Ctr.xPortDown : Ctr := ⟨32, 60⟩
/-- Counted, with no catalogue counter: an XGEM frame that overlaps an uncorrectable codeword (R58), per channel. -/
def Ctr.xBadCodeword : Ctr := ⟨32, 61⟩
/-- Counted, with no catalogue counter: Egress queues of a channel, by the DWRR key of the queue: frames dropped as GATE_OVERSIZE (R296); the catalogue lists the counter for uplink queues only.. -/
def Ctr.xGateOversize : Ctr := ⟨32, 62⟩
/-- Counted, with no catalogue counter: Channel: OMCI packets of the host for a terminal without an OMCC port (log entry 43).. -/
def Ctr.xNoOmcc : Ctr := ⟨32, 63⟩
/-- Counted, with no catalogue counter: Recovered-clock output: settings under which it is held low (R420).. -/
def Ctr.xRclkBad : Ctr := ⟨32, 64⟩
/-- Counted, with no catalogue counter: Uplink port: monitor judgements made under SRC 3 (R371).. -/
def Ctr.xUplSrc3 : Ctr := ⟨32, 65⟩
/-- Counted, with no catalogue counter: Writes of UPL_GCFG.ARR ignored while a port is enabled (R354).. -/
def Ctr.xArrIgnored : Ctr := ⟨32, 66⟩
/-- Counted, with no catalogue counter: a residue copy dropped after its wait (R268), per switch port. -/
def Ctr.xMcResidue : Ctr := ⟨32, 67⟩
/-- Counted, with no catalogue counter: a sealed frame below 33 bytes whose endpoint is not there (R325), per slice. -/
def Ctr.xSealShort : Ctr := ⟨32, 68⟩
/-- Counted, with no catalogue counter: frames dropped for an uncorrectable codeword (R365), per port. -/
def Ctr.xUplCodeword : Ctr := ⟨32, 69⟩

end Sys2Proof.Machine
end

