-- ==== Sys2Proof/Machine/Bits.lean ====
section
/-! DEFINITION. Machine/Bits.lean: bit fields of register words and little-endian or network-order fields
of buffers and frames (R6: everything in host memory is little-endian; frames are network order). -/

namespace Sys2Proof.Machine

/-- Bits [hi:lo] of a number. -/
def bits (v hi lo : Nat) : Nat := v / 2 ^ lo % 2 ^ (hi + 1 - lo)

/-- Bit i of a number. -/
def bit (v i : Nat) : Bool := v / 2 ^ i % 2 == 1

/-- Field [hi:lo] of a register word, as the register tables name it. -/
def field (w : Word) (hi lo : Nat) : Nat := bits w.toNat hi lo

/-- Bit i of a register word. -/
def flag (w : Word) (i : Nat) : Bool := w.getLsbD i

/-- The mask of bits [hi:lo]. -/
def maskNat (hi lo : Nat) : Nat := 2 ^ (hi + 1) - 2 ^ lo

/-- A two's complement reading of an n-bit number. -/
def signed (n v : Nat) : Int := if v < 2 ^ (n - 1) then (v : Int) else (v : Int) - (2 ^ n : Nat)

/-- A Bool as a bit. -/
def b2n (b : Bool) : Nat := if b then 1 else 0

/-- The little-endian value of a byte list. -/
def le : List Byte → Nat
  | [] => 0
  | b :: bs => b.toNat + 256 * le bs

/-- n little-endian bytes of a value. -/
def toLe : Nat → Nat → List Byte
  | 0, _ => []
  | n + 1, v => BitVec.ofNat 8 v :: toLe n (v / 256)

/-- The network-order value of a byte list. -/
def be (bs : List Byte) : Nat := bs.foldl (fun a b => 256 * a + b.toNat) 0

/-- n network-order bytes of a value. -/
def toBe (n v : Nat) : List Byte := (toLe n v).reverse

/-- The slice [off, off + n) of a byte list. -/
def cut (bs : List Byte) (off n : Nat) : List Byte := (bs.drop off).take n

/-- Little-endian field of n bytes at offset off of a buffer. -/
def leAt (bs : List Byte) (off n : Nat) : Nat := le (cut bs off n)

/-- Network-order field of n bytes at offset off of a frame. -/
def beAt (bs : List Byte) (off n : Nat) : Nat := be (cut bs off n)

/-- Byte at an offset, as a number (0 beyond the end). -/
def byteAt (bs : List Byte) (off : Nat) : Nat := ((bs.drop off).head?.map BitVec.toNat).getD 0

/-- Bit i of byte off of a buffer. -/
def bufBit (bs : List Byte) (off i : Nat) : Bool := bit (byteAt bs off) i

/-- Bits [hi:lo] of a little-endian buffer taken as one number. -/
def bufBits (bs : List Byte) (hi lo : Nat) : Nat := bits (le bs) hi lo

/-- Number of 1 bits. -/
def popcount : Nat → Nat → Nat
  | 0, _ => 0
  | n + 1, v => v % 2 + popcount n (v / 2)

/-- Ceiling division. -/
def cdiv (a b : Nat) : Nat := (a + b - 1) / b

end Sys2Proof.Machine
end

