-- ==== Sys2Proof/Machine/Crc.lean ====
section
/-! DEFINITION. Machine/Crc.lean: the CRC-32C procedure of R223, and the IEEE 802.3 frame check sequence. -/

namespace Sys2Proof.Machine

/-- Eight steps of a reflected CRC register over its low bit, with the reversed polynomial p. -/
def crcSteps (p : Nat) : Nat → Nat → Nat
  | 0, c => c
  | n + 1, c => crcSteps p n (if c % 2 = 1 then Nat.xor (c / 2) p else c / 2)

/-- A reflected CRC over bytes from a register value. -/
def crcOver (p : Nat) (c : Nat) (bs : List Byte) : Nat :=
  bs.foldl (fun c b => crcSteps p 8 (Nat.xor c b.toNat)) c

/-- CRC-32C as R223 computes it: the register is loaded with the initial value as is, and no final XOR is applied. -/
def crc32c (init : Nat) (bs : List Byte) : Nat := crcOver 0x82F63B78 init bs

/-- The IEEE 802.3 frame check sequence (R183, R357): initial and final XOR of all ones. -/
def crc32 (bs : List Byte) : Nat := Nat.xor (crcOver 0xEDB88320 0xFFFFFFFF bs) 0xFFFFFFFF

/-- The 32 bits of a number in the reverse order. -/
def bitRev32 (v : Nat) : Nat := (List.range 32).foldl (fun a i => 2 * a + v / 2 ^ i % 2) 0

/-- The four CRC bytes of a tuning message: the x^31 coefficient in the most significant bit of byte 44 (R183). The
reflected register holds x^31 in its lowest bit. -/
def tuneCrcBytes (bs : List Byte) : List Byte := toBe 4 (bitRev32 (crc32 bs))

end Sys2Proof.Machine
end

