-- ==== Sys2Proof/Machine/Parser.lean ====
section
/-! DEFINITION. Machine/Parser.lean: the parse graph of the pipelines (R206 to R211, 07 Table 1). The result names what
the walk found; a field that the frame does not carry stays zero (R216). -/

namespace Sys2Proof.Machine

/-- What the parser's registers set (07 Tables 12 to 14). -/
structure ParseCfg where
  depth : Nat
  tpid0 : Nat
  tpid1 : Nat
  vxlan : Nat
  gtpu : Nat
  greEn : Bool
  deriving DecidableEq, Repr

/-- The parse result of one frame. -/
structure Parse where
  pfail : Nat := 0
  dmac : Nat := 0
  smac : Nat := 0
  /-- TCIs of the VLAN tags, outermost first. -/
  tcis : List Nat := []
  labels : List Nat := []
  pppoe : Bool := false
  tun : Nat := 0
  frag : Bool := false
  l4v : Bool := false
  l3t : Nat := 0
  etype : Nat := 0
  v6 : Bool := false
  sip : Nat := 0
  dip : Nat := 0
  /-- PROTO of IPv4, or the last next-header value of IPv6. -/
  proto : Nat := 0
  tos : Nat := 0
  flow : Nat := 0
  sport : Nat := 0
  dport : Nat := 0
  tcpFlags : Nat := 0
  tunnelId : Nat := 0
  idmac : Nat := 0
  iv6 : Bool := false
  /-- An inner IP header was recognised. -/
  innerIp : Bool := false
  isip : Nat := 0
  idip : Nat := 0
  iproto : Nat := 0
  itos : Nat := 0
  isport : Nat := 0
  idport : Nat := 0
  /-- Anchors of R561, and the offset of an inner Ethernet header. -/
  l3 : Option Nat := none
  l4 : Option Nat := none
  il2 : Option Nat := none
  il3 : Option Nat := none
  deriving DecidableEq, Repr

/-- The failure code of a header of n bytes at an offset, or none when the parser can read it whole: TRUNC when it ends
beyond the frame, DEPTH when it ends beyond the parse depth only (R210). -/
def headerFail (c : ParseCfg) (f : List Byte) (off n : Nat) : Option Nat :=
  if off + n > f.length then some 1 else if off + n > c.depth then some 7 else none

/-- Is an EtherType a tag TPID (07 Table 1)? A TPID register of 0 is unused. -/
def isTpid (c : ParseCfg) (et : Nat) : Bool :=
  et == 0x8100 || et == 0x88A8 || (et == c.tpid0 && c.tpid0 != 0) || (et == c.tpid1 && c.tpid1 != 0)

/-- Inner L4 after an inner IP header: ports only. -/
def parseInnerL4 (c : ParseCfg) (f : List Byte) (off proto : Nat) (p : Parse) : Parse :=
  if proto = 6 ∨ proto = 17 ∨ proto = 132 then
    match headerFail c f off (if proto = 6 then 20 else if proto = 17 then 8 else 12) with
    | some e => { p with pfail := e }
    | none => { p with isport := beAt f off 2, idport := beAt f (off + 2) 2 }
  else if proto = 1 ∨ proto = 58 then
    match headerFail c f off 4 with
    | some e => { p with pfail := e }
    | none => { p with isport := beAt f off 2 }
  else p

/-- The extension headers of IPv6 (types 0, 43, 44 and 60, at most 3): the last next-header value, the offset after
them, whether a fragment header stands among them, and a failure code. DESIGN CHOICE (log entry 78): the walk ends at a fragment
header, so that NH is its next-header value and what follows it is not counted; the spec does not say. -/
def parseExt (c : ParseCfg) (f : List Byte) : Nat → Nat → Nat → Nat × Nat × Bool × Nat
  | 0, nh, off => if nh = 0 ∨ nh = 43 ∨ nh = 44 ∨ nh = 60 then (nh, off, false, 6) else (nh, off, false, 0)
  | n + 1, nh, off =>
    if nh = 44 then
      match headerFail c f off 8 with
      | some e => (nh, off, false, e)
      | none => (byteAt f off, off + 8, true, 0)
    else if nh = 0 ∨ nh = 43 ∨ nh = 60 then
      match headerFail c f off 8 with
      | some e => (nh, off, false, e)
      | none =>
        let len := (byteAt f (off + 1) + 1) * 8
        match headerFail c f off len with
        | some e => (nh, off, false, e)
        | none => parseExt c f n (byteAt f off) (off + len)
    else (nh, off, false, 0)

/-- Inner IPv4 or IPv6 header with its L4. DESIGN CHOICE (log entry 78): of a fragmented inner packet the L4 fields stay 0, and it is
not counted as a fragment; the spec speaks of the outer packet alone. -/
def parseInnerIp (c : ParseCfg) (f : List Byte) (off : Nat) (six : Bool) (p : Parse) : Parse :=
  if six then
    match headerFail c f off 40 with
    | some e => { p with pfail := e }
    | none =>
      if byteAt f off / 16 ≠ 6 ∨ off + 40 + beAt f (off + 4) 2 > f.length then { p with pfail := 5 } else
      let (nh, o, fr, e) := parseExt c f 3 (byteAt f (off + 6)) (off + 40)
      let p := { p with innerIp := true, iv6 := true, il3 := some off, isip := beAt f (off + 8) 16,
                        idip := beAt f (off + 24) 16, iproto := nh, itos := beAt f off 2 / 16 % 256 }
      if e ≠ 0 then { p with pfail := e } else if fr then p else parseInnerL4 c f o nh p
  else
    match headerFail c f off 20 with
    | some e => { p with pfail := e }
    | none =>
      let ihl := byteAt f off % 16
      if byteAt f off / 16 ≠ 4 ∨ ihl < 5 ∨ off + beAt f (off + 2) 2 > f.length then { p with pfail := 4 } else
      match headerFail c f off (4 * ihl) with
      | some e => { p with pfail := e }
      | none =>
        let p := { p with innerIp := true, il3 := some off, isip := beAt f (off + 12) 4, idip := beAt f (off + 16) 4,
                          iproto := byteAt f (off + 9), itos := byteAt f (off + 1) }
        if beAt f (off + 6) 2 % 0x4000 ≠ 0 then p else parseInnerL4 c f (off + 4 * ihl) (byteAt f (off + 9)) p

/-- At most two tags of an inner Ethernet header: the EtherType after them and its end. -/
def skipInnerTags (c : ParseCfg) (f : List Byte) : Nat → Nat → Nat → Nat × Nat × Nat
  | 0, et, off => (et, off, 0)
  | n + 1, et, off =>
    if isTpid c et then
      match headerFail c f off 4 with
      | some e => (et, off, e)
      | none => skipInnerTags c f n (beAt f (off + 2) 2) (off + 4)
    else (et, off, 0)

/-- Inner Ethernet header (VXLAN, GRE 0x6558). -/
def parseInnerEth (c : ParseCfg) (f : List Byte) (off : Nat) (p : Parse) : Parse :=
  match headerFail c f off 14 with
  | some e => { p with pfail := e }
  | none =>
    let p := { p with il2 := some off, idmac := beAt f off 6 }
    let (et, o, e) := skipInnerTags c f 2 (beAt f (off + 12) 2) (off + 14)
    if e ≠ 0 then { p with pfail := e }
    else if et = 0x0800 then parseInnerIp c f o false p
    else if et = 0x86DD then parseInnerIp c f o true p
    else p

/-- Inner IP after a GTP-U header: by the first nibble. -/
def parseInnerNibble (c : ParseCfg) (f : List Byte) (off : Nat) (p : Parse) : Parse :=
  if byteAt f off / 16 = 4 then parseInnerIp c f off false p
  else if byteAt f off / 16 = 6 then parseInnerIp c f off true p
  else p

/-- GTP-U extension headers, at most 4: the offset after them, or none beyond the fourth; and a failure code. -/
def parseGtpExt (c : ParseCfg) (f : List Byte) : Nat → Nat → Nat → Option Nat × Nat
  | 0, ty, off => (if ty = 0 then some off else none, 0)
  | n + 1, ty, off =>
    if ty = 0 then (some off, 0) else
    let len := 4 * byteAt f off
    match headerFail c f off (max len 4) with
    | some e => (none, e)
    | none => if len = 0 then (none, 0) else parseGtpExt c f n (byteAt f (off + len - 1)) (off + len)

/-- A GTP-U header at an offset (07 Table 1, R207). -/
def parseGtpu (c : ParseCfg) (f : List Byte) (off : Nat) (p : Parse) : Parse :=
  match headerFail c f off 8 with
  | some e => { p with pfail := e }
  | none =>
    let b0 := byteAt f off
    if b0 / 32 ≠ 1 then p else
    let p := { p with tun := 3, tunnelId := beAt f (off + 4) 4 }
    if byteAt f (off + 1) ≠ 255 then p else
    if off + 8 + beAt f (off + 2) 2 > f.length then { p with pfail := 8 } else
    if b0 % 8 = 0 then parseInnerNibble c f (off + 8) p else
    match headerFail c f off 12 with
    | some e => { p with pfail := e }
    | none =>
      if bit b0 2 then
        match parseGtpExt c f 4 (byteAt f (off + 11)) (off + 12) with
        | (_, e + 1) => { p with pfail := e + 1 }
        | (some o, 0) => parseInnerNibble c f o p
        | (none, 0) => p
      else parseInnerNibble c f (off + 12) p

/-- A VXLAN header at an offset: recognised with its I flag set; reserved bits set are TUN_BAD. -/
def parseVxlan (c : ParseCfg) (f : List Byte) (off : Nat) (p : Parse) : Parse :=
  match headerFail c f off 8 with
  | some e => { p with pfail := e }
  | none =>
    if bit (byteAt f off) 3 then
      let p := { p with tun := 1, tunnelId := beAt f (off + 4) 3 }
      if byteAt f off ≠ 8 ∨ beAt f (off + 1) 3 ≠ 0 ∨ byteAt f (off + 7) ≠ 0 then { p with pfail := 8 }
      else parseInnerEth c f (off + 8) p
    else p

/-- A GRE header, version 0: C, K and S are the defined flags; any other is TUN_BAD. -/
def parseGre (c : ParseCfg) (f : List Byte) (off : Nat) (p : Parse) : Parse :=
  if !c.greEn then p else
  match headerFail c f off 4 with
  | some e => { p with pfail := e }
  | none =>
    let w := beAt f off 2
    if w % 8 ≠ 0 then p else
    let p := { p with tun := 2 }
    if w / 8 % 512 ≠ 0 ∨ bit w 14 then { p with pfail := 8 } else
    let len := 4 + 4 * (b2n (bit w 15) + b2n (bit w 13) + b2n (bit w 12))
    match headerFail c f off len with
    | some e => { p with pfail := e }
    | none =>
      let p := { p with tunnelId := if bit w 13 then beAt f (off + 4 + 4 * b2n (bit w 15)) 4 else 0 }
      let pr := beAt f (off + 2) 2
      if pr = 0x6558 then parseInnerEth c f (off + len) p
      else if pr = 0x0800 then parseInnerIp c f (off + len) false p
      else if pr = 0x86DD then parseInnerIp c f (off + len) true p
      else p

/-- L4 after an outer, unfragmented IP header (07 Table 1): ports, flags, and the tunnels. -/
def parseL4 (c : ParseCfg) (f : List Byte) (off proto : Nat) (p : Parse) : Parse :=
  if proto = 6 then
    match headerFail c f off 20 with
    | some e => { p with pfail := e }
    | none => { p with l4v := true, l4 := some off, sport := beAt f off 2, dport := beAt f (off + 2) 2,
                       tcpFlags := byteAt f (off + 13) }
  else if proto = 17 then
    match headerFail c f off 8 with
    | some e => { p with pfail := e }
    | none =>
      let dp := beAt f (off + 2) 2
      let p := { p with l4v := true, l4 := some off, sport := beAt f off 2, dport := dp }
      if c.vxlan ≠ 0 ∧ dp = c.vxlan then parseVxlan c f (off + 8) p
      else if c.gtpu ≠ 0 ∧ dp = c.gtpu then parseGtpu c f (off + 8) p
      else p
  else if proto = 132 then
    match headerFail c f off 12 with
    | some e => { p with pfail := e }
    | none => { p with l4v := true, l4 := some off, sport := beAt f off 2, dport := beAt f (off + 2) 2 }
  else if proto = 1 ∨ proto = 58 then
    match headerFail c f off 4 with
    | some e => { p with pfail := e }
    | none => { p with l4v := true, l4 := some off, sport := beAt f off 2 }
  else if proto = 47 then parseGre c f off p
  else p

/-- The outer IPv4 header. DESIGN CHOICE (log entry 78): a walk that fails inside an IP header or a SecTAG leaves L3T, the anchor and
the fields of that header 0; the spec does not say whether the header that was entered is named. -/
def parseIpv4 (c : ParseCfg) (f : List Byte) (off : Nat) (p : Parse) : Parse :=
  match headerFail c f off 20 with
  | some e => { p with pfail := e }
  | none =>
    let ihl := byteAt f off % 16
    if byteAt f off / 16 ≠ 4 ∨ ihl < 5 ∨ off + beAt f (off + 2) 2 > f.length then { p with pfail := 4 } else
    match headerFail c f off (4 * ihl) with
    | some e => { p with pfail := e }
    | none =>
      let fr := beAt f (off + 6) 2 % 0x4000 != 0
      let p := { p with l3t := 1, l3 := some off, sip := beAt f (off + 12) 4, dip := beAt f (off + 16) 4,
                        proto := byteAt f (off + 9), tos := byteAt f (off + 1), frag := fr }
      if fr then p else parseL4 c f (off + 4 * ihl) (byteAt f (off + 9)) p

/-- The outer IPv6 header with its extension headers; ESP and AH end the walk with L4V 0. -/
def parseIpv6 (c : ParseCfg) (f : List Byte) (off : Nat) (p : Parse) : Parse :=
  match headerFail c f off 40 with
  | some e => { p with pfail := e }
  | none =>
    if byteAt f off / 16 ≠ 6 ∨ off + 40 + beAt f (off + 4) 2 > f.length then { p with pfail := 5 } else
    let (nh, o, fr, e) := parseExt c f 3 (byteAt f (off + 6)) (off + 40)
    let p := { p with l3t := 2, l3 := some off, v6 := true, sip := beAt f (off + 8) 16, dip := beAt f (off + 24) 16,
                      proto := nh, tos := beAt f off 2 / 16 % 256, flow := beAt f off 4 % 0x100000, frag := fr }
    if e ≠ 0 then { p with pfail := e } else if fr then p else parseL4 c f o nh p

/-- MPLS labels, at most 8: the labels, the offset after the bottom of the stack, and a failure code. -/
def parseLabels (c : ParseCfg) (f : List Byte) : Nat → Nat → List Nat × Nat × Nat
  | 0, off => ([], off, 3)
  | n + 1, off =>
    match headerFail c f off 4 with
    | some e => ([], off, e)
    | none =>
      let w := beAt f off 4
      if bit w 8 then ([w / 4096], off + 4, 0) else
      let (ls, o, e) := parseLabels c f n (off + 4)
      (w / 4096 :: ls, o, e)

/-- What follows the last outer tag, by EtherType (07 Table 1). -/
def parseEtype (c : ParseCfg) (f : List Byte) (et off : Nat) (p : Parse) : Parse :=
  if et = 0x8847 ∨ et = 0x8848 then
    let (ls, o, e) := parseLabels c f 8 off
    let p := { p with labels := ls }
    if e ≠ 0 then { p with pfail := e }
    else if byteAt f o / 16 = 4 then parseIpv4 c f o p
    else if byteAt f o / 16 = 6 then parseIpv6 c f o p
    else { p with l3t := 5, l3 := some o }
  else if et = 0x8864 then
    match headerFail c f off 2 with
    | some e => { p with pfail := e }
    | none =>
      if byteAt f off ≠ 0x11 ∨ byteAt f (off + 1) ≠ 0 then p else
      match headerFail c f off 8 with
      | some e => { p with pfail := e }
      | none =>
        let p := { p with pppoe := true }
        let pr := beAt f (off + 6) 2
        if pr = 0x0021 then parseIpv4 c f (off + 8) p
        else if pr = 0x0057 then parseIpv6 c f (off + 8) p
        else { p with l3t := 6, l3 := some (off + 8) }
  else if et = 0x8863 then { p with l3t := 6, l3 := some off }
  else if et = 0x0806 then { p with l3t := 3, l3 := some off }
  else if et = 0x8902 then { p with l3t := 4, l3 := some off }
  else if et = 0x88E5 then
    match headerFail c f off (if bit (byteAt f off) 5 then 14 else 6) with
    | some e => { p with pfail := e }
    | none => { p with l3t := 7, l3 := some off }
  else if et = 0x0800 then parseIpv4 c f off p
  else if et = 0x86DD then parseIpv6 c f off p
  else p

/-- The outer VLAN tags, at most 4; a fifth is TAGS. -/
def parseTags (c : ParseCfg) (f : List Byte) : Nat → Nat → Nat → Parse → Parse
  | 0, et, off, p => if isTpid c et then { p with etype := et, pfail := 2 } else parseEtype c f et off { p with etype := et }
  | n + 1, et, off, p =>
    if isTpid c et then
      match headerFail c f off 4 with
      | some e => { p with etype := et, pfail := e }
      | none => parseTags c f n (beAt f (off + 2) 2) (off + 4) { p with tcis := p.tcis ++ [beAt f off 2] }
    else parseEtype c f et off { p with etype := et }

/-- The parse result of a frame (R206): the walk of Table 1 from its first byte. -/
def parseFrame (c : ParseCfg) (f : List Byte) : Parse :=
  match headerFail c f 0 14 with
  | some e => { pfail := e }
  | none => parseTags c f 4 (beAt f 12 2) 14 { dmac := beAt f 0 6, smac := beAt f 6 6 }

/-- A fragment forwarded under `PRS_CFG.FRAG` 1: L4V 0, every L4 field and every inner field zero (R211). -/
def zeroL4 (p : Parse) : Parse :=
  { p with l4v := false, sport := 0, dport := 0, tcpFlags := 0, tun := 0, tunnelId := 0, idmac := 0, innerIp := false,
           isip := 0, idip := 0, iproto := 0, itos := 0, isport := 0, idport := 0, l4 := none, il2 := none, il3 := none }

end Sys2Proof.Machine
end

