-- ==== Sys2Proof/Machine/Classify.lean ====
section
/-! DEFINITION. Machine/Classify.lean: keys, hashes and edits of the packet pipelines (R216 to R223, R561). -/

namespace Sys2Proof.Machine

/-- Where a frame stands when its key is built (07 Table 5). -/
structure KeyCtx where
  svc : Nat
  inPort : Nat
  pass : Nat
  xport : Nat
  deriving DecidableEq, Repr

/-- USER: n bytes from the anchor of `PRS_CFG` (R561, R216); bytes beyond the frame or the depth are zero. -/
def userBytes (depth anchor off n : Nat) (p : Parse) (f : List Byte) : Nat :=
  let a : Option Nat :=
    match anchor with
    | 0 => some 0
    | 1 => p.l3
    | 2 => p.l4
    | _ => p.il3
  match a with
  | none => 0
  | some a => (List.range n).foldl (fun v i => 256 * v + (if a + off + i < min f.length depth then byteAt f (a + off + i) else 0)) 0

/-- The 64-bit key header, bits [479:416] (07 Table 5). -/
def keyHeader (k : KeyCtx) (ktype : Nat) (p : Parse) : Nat :=
  ((((((((((((k.svc * 512 + k.inPort) * 4 + ktype) * 4 + k.pass) * 8 + p.tcis.length) * 16 + p.labels.length) * 2
    + b2n p.pppoe) * 4 + p.tun) * 2 + b2n p.frag) * 2 + b2n p.l4v) * 8 + p.l3t) * 16 + p.pfail) * 65536 + p.etype)

/-- The TCI of tag n, or 0. -/
def tciAt (p : Parse) (n : Nat) : Nat := (p.tcis.drop n).headD 0

/-- The MPLS label n, or 0. -/
def labelAt (p : Parse) (n : Nat) : Nat := (p.labels.drop n).headD 0

/-- The 480-bit key of a frame under a key type (R217, 07 Tables 5 to 8); `user` is its 8 USER bytes. -/
def buildKey (k : KeyCtx) (ktype : Nat) (p : Parse) (user : Nat) : Nat :=
  let is4 := p.l3t == 1
  let is6 := p.l3t == 2
  let body :=
    match ktype with
    | 0 =>
      p.dmac * 2 ^ 368 + p.smac * 2 ^ 320 + tciAt p 0 * 2 ^ 304 + tciAt p 1 * 2 ^ 288 + tciAt p 2 * 2 ^ 272
        + k.xport * 2 ^ 256 + labelAt p 0 * 2 ^ 236 + labelAt p 1 * 2 ^ 216
        + (if is4 then p.sip * 2 ^ 184 + p.dip * 2 ^ 152 + p.proto * 2 ^ 144 + p.tos * 2 ^ 136 else 0)
        + p.sport * 2 ^ 120 + p.dport * 2 ^ 104 + p.tcpFlags * 2 ^ 96 + p.tunnelId * 2 ^ 64 + user
    | 1 =>
      (if is6 then p.sip * 2 ^ 288 + p.dip * 2 ^ 160 + p.proto * 2 ^ 136 + p.tos * 2 ^ 128 + p.flow * 2 ^ 108 else 0)
        + tciAt p 0 * 2 ^ 144 + p.sport * 2 ^ 92 + p.dport * 2 ^ 76 + p.tcpFlags * 2 ^ 68 + p.tunnelId * 2 ^ 36
        + user / 2 ^ 32 * 2 ^ 4
    | _ =>
      p.tunnelId * 2 ^ 384 + (if is4 then p.dip * 2 ^ 352 else 0) + p.idmac * 2 ^ 304 + p.isip * 2 ^ 176
        + p.idip * 2 ^ 48 + p.iproto * 2 ^ 40 + p.isport * 2 ^ 24 + p.idport * 2 ^ 8 + p.itos
  keyHeader k ktype p * 2 ^ 416 + body

/-- A rule of a slice: 480-bit value and mask, 128-bit action word (R217). -/
structure Rule where
  valid : Bool := false
  value : Nat := 0
  mask : Nat := 0
  action : Nat := 0
  deriving DecidableEq, Repr

/-- Does a rule match a key (R217)? -/
def Rule.hits (r : Rule) (key : Nat) : Bool :=
  r.valid && Nat.land (Nat.xor r.value key) r.mask == 0

/-- A rule set descriptor (R217, 07 Table 11). -/
structure RuleSet where
  base : Nat := 0
  size : Nat := 0
  ktype : Nat := 0
  miss : Nat := 0
  deriving DecidableEq, Repr

/-- An action word, by the fields of 07 Table 9. -/
structure Action where
  dest : Nat
  copyHost : Bool
  setTc : Bool
  setDscp : Bool
  setSvc : Bool
  arg : Nat
  tc : Nat
  dscp : Nat
  svc : Nat
  edit : Nat
  vid : Nat
  setMeter : Bool
  meter : Nat
  count : Bool
  counter : Nat
  meta_ : Nat
  deriving DecidableEq, Repr

/-- The fields of an action word. -/
def Action.ofWord (w : Nat) : Action :=
  { dest := bits w 3 0, copyHost := bit w 4, setTc := bit w 5, setDscp := bit w 6, setSvc := bit w 7, arg := bits w 16 8,
    tc := bits w 19 17, dscp := bits w 25 20, svc := bits w 47 32, edit := bits w 50 48, vid := bits w 62 51,
    setMeter := bit w 63, meter := bits w 81 64, count := bit w 82, counter := bits w 98 83, meta_ := bits w 127 112 }

/-- The bytes a hash field enters with (R223): its width and value; (SIP, DIP) and the ports ordered when SYM is 1. -/
def hashField (sym : Bool) (k : KeyCtx) (p : Parse) (user : Nat) (i : Nat) : List Byte :=
  let w (six : Bool) := if six then 16 else 4
  let pr (a b : Nat) (first : Bool) : Nat := if sym then (if first then min a b else max a b) else (if first then a else b)
  match i with
  | 0 => toBe 2 k.inPort
  | 1 => toBe 2 k.svc
  | 2 => toBe 6 p.dmac
  | 3 => toBe 6 p.smac
  | 4 => toBe 2 p.etype
  | 5 => toBe 2 (tciAt p 0 % 4096)
  | 6 => toBe 2 (tciAt p 1 % 4096)
  | 7 => toBe 3 (labelAt p 0)
  | 8 => toBe (w p.v6) (pr p.sip p.dip true)
  | 9 => toBe (w p.v6) (pr p.sip p.dip false)
  | 10 => toBe 1 p.proto
  | 11 => toBe 2 (pr p.sport p.dport true)
  | 12 => toBe 2 (pr p.sport p.dport false)
  | 13 => toBe 3 p.flow
  | 14 => toBe 4 p.tunnelId
  | 15 => toBe (w p.iv6) (pr p.isip p.idip true)
  | 16 => toBe (w p.iv6) (pr p.isip p.idip false)
  | 17 => toBe 1 p.iproto
  | 18 => toBe 2 (pr p.isport p.idport true)
  | 19 => toBe 2 (pr p.isport p.idport false)
  | _ => toBe 8 user

/-- The hash input of a group: the selected fields in ascending order of selection bit (R223). -/
def hashInput (fields : Nat) (sym : Bool) (k : KeyCtx) (p : Parse) (user : Nat) : List Byte :=
  (List.range 21).flatMap (fun i => if bit fields i then hashField sym k p user i else [])

/-- The indirection index of a frame in a hash group (R223): bits [8:0] of the CRC; entry 0 when FIELDS is 0. -/
def hashIndex (seed fields : Nat) (sym : Bool) (k : KeyCtx) (p : Parse) (user : Nat) : Nat :=
  if fields = 0 then 0 else crc32c seed (hashInput fields sym k p user) % 512

/-- Removes n bytes at an offset. -/
def removeAt (f : List Byte) (off n : Nat) : List Byte := f.take off ++ f.drop (off + n)

/-- The EDIT of an action on a frame (R219): the new bytes, and whether an EDIT anomaly is counted. -/
def applyEdit (p : Parse) (edit vid tc : Nat) (f : List Byte) : List Byte × Bool :=
  let tags := p.tcis.length
  match edit with
  | 1 => if tags ≥ 1 then (removeAt f 12 4, false) else (f, true)
  | 2 => if tags ≥ 2 then (removeAt f 12 8, false) else (removeAt f 12 (4 * tags), true)
  | 3 => (f.take 12 ++ toBe 2 (if tags ≥ 1 then 0x88A8 else 0x8100) ++ toBe 2 (tc * 8192 + vid) ++ f.drop 12, false)
  | 4 => if tags ≥ 1 then (f.take 14 ++ toBe 2 (tciAt p 0 / 4096 * 4096 + vid) ++ f.drop 16, false) else (f, true)
  | 5 => if tags ≥ 2 then (f.take 18 ++ toBe 2 (tciAt p 1 / 4096 * 4096 + vid) ++ f.drop 20, false) else (f, true)
  | 6 =>
    match p.il2, p.il3, p.l3 with
    | some o, _, _ => (f.drop o, false)
    | none, some o, some l3 =>
      let et := 12 + 4 * tags
      (f.take et ++ toBe 2 (if p.iv6 then 0x86DD else 0x0800) ++ cut f (et + 2) (l3 - (et + 2)) ++ f.drop o, false)
    | _, _, _ => (f, true)
  | 7 => (f, true)
  | _ => (f, false)

end Sys2Proof.Machine
end

