-- ==== Sys2Proof/Machine/FwdState.lean ====
section
/-! DEFINITION. Machine/FwdState.lean: the state of the packet pipelines (07) and of the forwarding table (08). -/

namespace Sys2Proof.Machine

/-- An entry line of the forwarding table (08 Table 2). -/
structure FwdEntry where
  mac : Nat := 0
  fid : Nat := 0
  valid : Bool := false
  static_ : Bool := false
  learned : Bool := false
  drop : Bool := false
  dtype : Nat := 0
  dest : Nat := 0
  deriving DecidableEq, Repr

/-- A learn request in a slice's queue (R245). -/
structure LearnReq where
  mac : Nat
  fid : Nat
  dtype : Nat
  dest : Nat
  svc : Nat
  deriving DecidableEq, Repr

/-- A flush selector (08 Table 7). -/
structure FlushSel where
  kind : Nat
  dynOnly : Bool
  ch : Nat
  fid : Nat
  dtype : Nat
  dest : Nat
  deriving DecidableEq, Repr

/-- A flush walk in progress (R253): its command's slot and selector, what it removed, and the cursor at which it stopped. -/
structure Flush where
  slot : Nat
  sel : FlushSel
  removed : Nat
  /-- COUNT of the command. -/
  count : Nat
  more : Option Nat
  deriving DecidableEq, Repr

/-- The forwarding table (08). Rows are keyed by location: bank in bits [31:30], row in bits [19:0]. -/
structure FwdSt where
  rows : Tab FwdEntry := []
  /-- Locations whose table line has an uncorrectable error and no shadow to be repaired from yet (R234). -/
  bad : List Nat := []
  hit : Tab Bool := []
  used : Tab Bool := []
  /-- The shadow lines in device memory (R255). -/
  shadow : Tab FwdEntry := []
  /-- Insertion counter (R237). -/
  counter : Nat := 0
  reloc : Nat := 0
  /-- LEARNED entries of each binding (R246). -/
  counts : Tab Nat := []
  queues : Tab (List LearnReq) := []
  /-- The slice queue served last (R245). -/
  lastQueue : Nat := 7
  /-- Keys notified, newest first, with the time (R249). -/
  recent : Tab (List (Nat × Nat)) := []
  notify : Tab Bucket := []
  /-- Times of the rehash request events of the last second (R241). -/
  rehash : List Nat := []
  flushes : List Flush := []
  /-- When the last age sweep and the last compare sweep were (R250, R256). -/
  agedAt : Nat := 0
  comparedAt : Nat := 0
  /-- The lines written in the core cycle of `wroteAt`: a repair of one of them is abandoned (R495). -/
  wrote : List Nat := []
  wroteAt : Option Nat := none
  deriving DecidableEq, Repr

/-- The seal section of a service context (11 Table 5). -/
structure SealSec where
  valid : Bool := false
  txPhase : Nat := 0
  stag : Nat := 0
  slot0 : Nat := 0
  slot1 : Nat := 0
  deriving DecidableEq, Repr

/-- A service context: classification section (07 Table 4), learning section (08 Table 4) and seal section (11 Table 5). -/
structure SvcCtx where
  valid : Bool := false
  defTc : Nat := 0
  ruleSet : Nat := 0
  fid : Nat := 0
  meta_ : Nat := 0
  lValid : Bool := false
  mode : Nat := 0
  excess : Bool := false
  unkDa : Nat := 0
  floodEn : Bool := false
  limit : Nat := 0
  floodGrp : Nat := 0
  sec : SealSec := {}
  deriving DecidableEq, Repr

/-- An upstream map entry (07 Table 3). -/
structure MapUp where
  valid : Bool := false
  svc : Nat := 0
  pin : Nat := 0
  opaque_ : Bool := false
  pinVal : Nat := 0
  deriving DecidableEq, Repr

/-- A downstream match entry (R213). -/
structure Match_ where
  valid : Bool := false
  k : Nat := 0
  mode : Nat := 0
  ovid : Nat := 0
  ivid : Nat := 0
  svc : Nat := 0
  deriving DecidableEq, Repr

/-- An XGEM port context (R438, 11 for its keys). -/
structure XgemPort where
  valid : Bool := false
  portId : Nat := 0
  term : Nat := 0
  enc : Bool := false
  omcc : Bool := false
  deriving DecidableEq, Repr

/-- The marks of a tagged frame (R485, R486): its number, the slice that tagged it, and the instants of its stages. -/
structure Tag where
  id : Nat
  slice : Nat
  start : Nat
  pipe : Option Nat := none
  req : Option Nat := none
  xbar : Option Nat := none
  enq : Option Nat := none
  pick : Option Nat := none
  cipher : Option Nat := none
  cut : Bool := false
  spilled : Bool := false
  deriving DecidableEq, Repr

/-- What travels with a frame from ingress to its line: 09 Table 2's frame record and the internal header of R221. -/
structure FrameRec where
  len : Nat := 0
  inPort : Nat := 0
  svc : Option Nat := none
  tc : Nat := 0
  dscp : Option Nat := none
  meter : Option Nat := none
  meta_ : Nat := 0
  pass : Nat := 0
  /-- EDIT and VID of the final pass (R222). -/
  edit : Nat := 0
  vid : Nat := 0
  copied : Bool := false
  /-- A tagged frame (R485). -/
  tag : Option Tag := none
  opaque_ : Bool := false
  /-- Key of the learning source: DTYPE and DEST (R244). -/
  src : Option (Nat × Nat) := none
  pin : Nat := 0
  pinVal : Nat := 0
  xport : Nat := 0
  /-- The XGEM port context of a PON frame, and the options of its XGEM header (R212, R323). -/
  pctx : Nat := 0
  opts : Nat := 0
  /-- The frame lies in its slice's wake reserve (R30). -/
  held : Bool := false
  /-- Rule set of the next Chainring pass. -/
  nextSet : Nat := 0
  /-- Low 32 bits of the ingress tick (R412), the whole tick and its fraction. -/
  tick : Nat := 0
  frac : Nat := 0
  /-- Presented time of its ingress stamp (R408). -/
  present : Int := 0
  /-- Host frame: ring and slot of its last descriptor, two-step and one-step flags (R414, R415). -/
  tsReq : Bool := false
  oneStep : Bool := false
  cookie : Nat := 0
  /-- The frame begins with the carrier word of R323. -/
  carrier : Bool := false
  /-- DEI marking by a meter (R281). -/
  yellow : Bool := false
  /-- A flood copy (R235). -/
  flood : Bool := false
  /-- A multicast copy. -/
  mcCopy : Bool := false
  /-- XGEM port-ID that the OAM engine gives a frame to the terminal side (12 Table 1). -/
  portId : Option Nat := none
  deriving DecidableEq, Repr

/-- A frame with its record. -/
structure Pkt where
  rec_ : FrameRec
  data : List Byte
  deriving DecidableEq, Repr

/-- One slice pipeline (07). -/
structure Slice where
  unit : Unit_ := .stopped
  /-- When it last stopped (R28). -/
  stoppedAt : Option Nat := none
  /-- When a frame last entered or left a port of the slice (R27). -/
  lastUse : Nat := 0
  /-- Ingress frames that wait for a lookup slot, per port in order of arrival: (port, frame). -/
  ingress : List (Nat × Pkt) := []
  /-- The port served last (R204). -/
  rot : Nat := 0
  /-- Host frames wait with the slots of their descriptors. -/
  hostQ : List (List Nat × Pkt × Option Nat) := []
  mgmtQ : List (Pkt × Nat) := []
  /-- The 64-cycle window and the slots that host and management took in it (R204). -/
  window : Nat := 0
  /-- The running core cycle's lookup slots: the cycle, slots taken, whether the Chainring had its one, ports served. -/
  slotCycle : Nat := 0
  slotsUsed : Nat := 0
  chainServed : Bool := false
  served : List Nat := []
  hostTook : Nat := 0
  /-- Frames in the Chainring. -/
  chain : List Pkt := []
  punt : Tab Bucket := []
  deriving DecidableEq, Repr

end Sys2Proof.Machine
end

