-- ==== Sys2Proof/Machine/SwState.lean ====
section
/-! DEFINITION. Machine/SwState.lean: the state of the switch core (09): VOQs, cells, the Hub, resequencers, egress
queues, the residue store, multicast groups and switch ports. -/

namespace Sys2Proof.Machine

/-- A frame with its resolved destination: the frame record of 09 Table 2. `dk`: 0 binding, 1 switch port, 2 multicast
group. -/
structure VFrame where
  id : Nat
  pkt : Pkt
  dk : Nat
  dest : Nat
  /-- The switch port of a unicast record at its lookup, and that port's epoch. -/
  port : Nat := 0
  epoch : Nat
  /-- BASE and COUNT of its group, read once (R269). -/
  run : Nat × Nat := (0, 0)
  /-- The ingress slice. -/
  from_ : Nat := 0
  /-- When it became the head of its VOQ (R262). -/
  headAt : Nat := 0
  /-- Bytes of its record (24-byte header and frame) that cells have taken. -/
  sent : Nat := 0
  /-- When its bytes began to come, the rate of its ingress port in Mbit/s (0: it is whole), and whether it is cut through (R275). -/
  begins : Nat := 0
  rate : Nat := 0
  cut : Bool := false
  deriving DecidableEq, Repr

/-- A virtual output queue (R261): its stream of frame records, and the SEQ of its next cell. -/
structure Voq where
  frames : List VFrame := []
  seq : Nat := 0
  deriving DecidableEq, Repr

/-- Part of a record in a cell payload: bytes [off, off + len) of the record; a piece at offset 0 starts the record. -/
structure Piece where
  frame : VFrame
  off : Nat
  len : Nat
  deriving DecidableEq, Repr

/-- A cell (09 Table 1): its VOQ stream, its SEQ and the record pieces of its payload. -/
structure SwCell where
  voq : Nat
  seq : Nat
  pieces : List Piece
  deriving DecidableEq, Repr

/-- The egress side of one VOQ stream (R260). -/
structure Reseq where
  /-- The next SEQ to read. -/
  next : Nat := 0
  /-- Cells that arrived ahead of it, with their arrival times. -/
  held : List (SwCell × Nat) := []
  /-- SEQs ahead of it whose cells failed their CRC: lost, and not reached yet. -/
  lost : List Nat := []
  /-- Bytes received of the record that is being read; none: skipping to the next FIRST_REC. -/
  part : Option Nat := some 0
  deriving DecidableEq, Repr

/-- A frame in an egress queue: its cells on die and in the Pannier (R265). -/
structure QFrame where
  pkt : Pkt
  die : Nat
  spill : Nat
  /-- Cells that wait on die for their spill writes (R266). -/
  wait : Nat := 0
  /-- Cells fetched back into prefetch. -/
  ready : Nat := 0
  enq : Nat := 0
  /-- Device-wide frame number, for cipher requests. -/
  id : Nat := 0
  /-- PORTID of a multicast copy to a channel's broadcast queue. -/
  portId : Option Nat := none
  deriving DecidableEq, Repr

/-- An egress queue (R265). -/
structure EQueue where
  frames : List QFrame := []
  profile : Nat := 0
  deriving DecidableEq, Repr

/-- A multicast copy that waits in the residue store (R268). -/
structure Residue where
  queue : Nat
  port : Nat
  pkt : Pkt
  /-- Its colour and its meter's yellow limit (R281). -/
  yellow : Bool := false
  ylim : Nat := 0
  portId : Option Nat
  since : Nat
  epoch : Nat
  deriving DecidableEq, Repr

/-- A multicast group descriptor with the egress slices its members lie in. -/
structure McGroup where
  base : Nat := 0
  count : Nat := 0
  valid : Bool := false
  slices : List Nat := []
  deriving DecidableEq, Repr

/-- A multicast member entry (09 Table 3). -/
structure McMember where
  value : Nat := 0
  kind : Nat := 0
  valid : Bool := false
  portId : Nat := 0
  deriving DecidableEq, Repr

/-- A switch port: its epoch (R267), its last down event and a flush in progress (R270, R271). -/
structure SwPort where
  epoch : Nat := 0
  downAt : Option Nat := none
  /-- The flush in progress: when it began, and whether cells lay in the Pannier. -/
  flush : Option (Nat × Bool) := none
  deriving DecidableEq, Repr

/-- The switch core (09). -/
structure SwSt where
  voqs : Tab Voq := []
  nextId : Nat := 0
  cells : List SwCell := []
  /-- Hub pointers: g at 2 (64 plane + 8 slice + class), a at that key + 1 (R263). -/
  ptr : Tab Nat := []
  /-- Which of unicast and multicast an (i, e) pair sent last. -/
  altern : Tab Bool := []
  reseq : Tab Reseq := []
  queues : Tab EQueue := []
  withhold : Tab Bool := []
  residue : Tab (List Residue) := []
  ports : Tab SwPort := []
  /-- Terminal contexts whose queue set was flushed at the end of its hold or as DISABLED: frames for them are dropped as
  TERM_LOST (R272). -/
  termLost : List Nat := []
  deriving DecidableEq, Repr

end Sys2Proof.Machine
end

