-- ==== Sys2Proof/Machine/CphState.lean ====
section
/-! DEFINITION. Machine/CphState.lean: the state of the cipher subsystem and of the sealed services (11): key store,
requests, clusters, seal endpoints, MACsec channels. -/

namespace Sys2Proof.Machine

/-- The material of one generation of a key slot (11 Table 2). -/
structure KeyMat where
  type : Nat := 0
  key : List Byte := []
  salt : List Byte := []
  ssci : Nat := 0
  gen : Nat := 0
  lastPn : Nat := 0
  /-- The order of its write among the key writes and phase switches of the device (R326). -/
  written : Nat := 0
  /-- REKEY and PN_EXHAUSTED were raised for this generation (R328). -/
  rekeyed : Bool := false
  exhausted : Bool := false
  deriving DecidableEq, Repr

/-- A key slot: its current generation and its retired one (R311, R314). -/
structure KeySlot where
  cur : KeyMat := {}
  retired : Option KeyMat := none
  deriving DecidableEq, Repr

/-- The form of a frame at the input or the output of a pass (R334). -/
inductive Form where
  | clear | sealed | macsec
  deriving DecidableEq, Repr

/-- What a request is for (11 Table 1). -/
inductive ReqUser where
  /-- Upstream keystream: channel, map, burst of the map, key index. -/
  | upKs (c k j idx : Nat)
  /-- Downstream keystream of an SDU that the framer of a channel has planned. -/
  | dsKs (c : Nat)
  /-- A pass for a frame that a switch port has picked, from one form to another. -/
  | pass (port : Nat) (input output : Form)
  /-- The MIC of one PLOAM message of a channel. -/
  | mic (c : Nat)
  deriving DecidableEq, Repr

/-- How far a request has come. -/
inductive ReqPhase where
  | queued
  /-- At a cluster and lane, waiting or running. -/
  | placed (cluster lane : Nat)
  /-- Complete; a pass waits for the earlier passes of its port (R305). -/
  | complete
  deriving DecidableEq, Repr

/-- A cipher request (R301 to R305). -/
structure CphReq where
  id : Nat
  user : ReqUser
  slice : Nat
  queuedAt : Nat
  phase : ReqPhase := .queued
  /-- When its lane time ends, once it runs. -/
  endsAt : Option Nat := none
  /-- The slot and generation whose material opens or makes keystream, and those that seal, with the PN taken. -/
  rx : Option (Nat × Nat) := none
  tx : Option (Nat × Nat × Nat) := none
  /-- Destination binding of a pass toward the PON. -/
  binding : Option Nat := none
  /-- Input length in bytes. -/
  len : Nat := 0
  /-- The frame: record and bytes. -/
  pkt : Pkt := { rec_ := {}, data := [] }
  queue : Nat := 0
  /-- XGEM port-ID of a frame toward the PON; the phase of a pass that seals toward the PON (R329), the AN of one for MACsec. -/
  portId : Nat := 0
  /-- The bytes that leave, once complete. -/
  output : List Byte := []
  deriving DecidableEq, Repr

/-- A cipher cluster (R301, R306): waiting and running requests by lane, the running one first. -/
structure Cluster where
  unit : Unit_ := .stopped
  lane0 : List Nat := []
  lane1 : List Nat := []
  idleSince : Nat := 0
  /-- When it last gated (R28). -/
  stoppedAt : Option Nat := none
  deriving DecidableEq, Repr

/-- A seal endpoint (11 Table 6) with its replay and overlap state (R325, R326). -/
structure SealEp where
  valid : Bool := false
  binding : Nat := 0
  svc : Nat := 0
  act : Nat := 0
  dsPort : Nat := 0
  rx0 : Nat := 0
  rx1 : Nat := 0
  replay : Nat := 0
  overlap : Nat := 0
  /-- H of each phase and the generation under which it was set. -/
  h0 : Nat := 0
  h1 : Nat := 0
  g0 : Nat := 0
  g1 : Nat := 0
  /-- Order of the last switch, as `KeyMat.written`. -/
  switched : Nat := 0
  /-- Until when the old phase is accepted. -/
  oldUntil : Option Nat := none
  deriving DecidableEq, Repr

/-- The MACsec transmit SC of a logical port (R333). -/
structure MsecTx where
  en : Bool := false
  sc : Bool := false
  es : Bool := false
  strict : Bool := false
  an : Nat := 0
  clearVid : Nat := 0
  sci : List Byte := []
  slots : List Nat := []
  deriving DecidableEq, Repr

/-- A MACsec receive SC (R331, R332). -/
structure MsecRx where
  valid : Bool := false
  sci : List Byte := []
  port : Nat := 0
  replay : Nat := 0
  slots : List Nat := []
  deriving DecidableEq, Repr

/-- Replay state of one SA of a receive SC (R332): the lowest acceptable PN and the next PN. -/
structure MsecPn where
  low : Nat := 0
  next : Nat := 0
  deriving DecidableEq, Repr

/-- The cipher subsystem (11). -/
structure CphSt where
  keys : Tab KeySlot := []
  kek : Option (List Byte) := none
  kekLock : Bool := false
  /-- Order number of the last key write or phase switch. -/
  order : Nat := 0
  reqs : List CphReq := []
  /-- MIC requests and upstream keystream requests that wait for room in a keystream queue (R303; log entry 81). -/
  waiting : List CphReq := []
  nextReq : Nat := 0
  /-- The slice that the dispatcher served last (R303). -/
  rot : Nat := 7
  clusters : Tab Cluster := []
  /-- Replay state of the receive SAs: key 4 SC + AN. -/
  rxPn : Tab MsecPn := []
  deriving DecidableEq, Repr

end Sys2Proof.Machine
end

