-- ==== Sys2Proof/Machine/DrlState.lean ====
section
/-! DEFINITION. Machine/DrlState.lean: the state of the tree balancer (06): moves, bindings, tuning messages, loads. -/

namespace Sys2Proof.Machine

/-- Abort causes of a move, with their REASON codes (06 Table 5). -/
inductive MoveCause where
  | noAck | declined | host | losi | srcDown | attach | tgtDown | timeout
  deriving DecidableEq, Repr

/-- REASON of a cause (06 Table 5). -/
def MoveCause.code : MoveCause → Nat
  | .noAck => 1 | .declined => 2 | .host => 3 | .losi => 4
  | .srcDown => 5 | .attach => 6 | .tgtDown => 7 | .timeout => 8

/-- One move in progress (R178, R186). Channels and indices are those of R178. -/
structure Move where
  src : Nat
  i : Nat
  tgt : Nat
  /-- The pinned index, when PIN is 1. -/
  pin : Option Nat
  /-- The reserved target index i′, once attached. -/
  i' : Option Nat := none
  txn : Nat
  /-- The highest step of 06 Table 4 that the H192 has completed (R198). -/
  step : Nat := 1
  /-- Offers sent so far, and whether one waits for the next PHY frame. -/
  offers : Nat := 0
  offerDue : Bool := true
  /-- The instant at which the wait for TUNE_ACK ends. -/
  ackBy : Nat := 0
  accepted : Bool := false
  /-- Frame G: the last downstream frame whose map grants the terminal on the source; the map of the attach. -/
  g : Nat := 0
  /-- Allocation contexts and XGEM port contexts carried: (source, target). -/
  allocs : List (Nat × Nat) := []
  ports : List (Nat × Nat) := []
  detachedAt : Nat := 0
  arrived : Bool := false
  /-- Arrival phase error, in drift units. -/
  error : Int := 0
  tgtEqd : Nat := 0
  /-- The source was disabled or reset after the detach (R199). -/
  srcGone : Bool := false
  deriving DecidableEq, Repr

/-- A downstream tuning message that waits for the next PHY frame of a channel (R182): the OMCC port and the encryption as
configured when it was raised, and the device-wide context that holds the terminal and its keys: on the target before the arrival
point, that of the source. -/
structure TuneMsg where
  ch : Nat
  ctx : Nat
  portId : Nat
  enc : Bool
  bytes : List Byte
  deriving DecidableEq, Repr

/-- The tree balancer (06). -/
structure DrlSt where
  moves : List Move := []
  tune : List TuneMsg := []
  /-- Binding number to device-wide terminal context (R180). -/
  bindings : Tab (Option Nat) := []
  /-- Bindings whose terminal is unavailable (12 Table 3), with the start of the condition. -/
  unavail : Tab (Option Nat) := []
  /-- Bytes carried in the measurement window: key 2 t + (0 upstream, 1 downstream) (R201). -/
  loads : Tab Nat := []
  /-- When each tree's measurement window began. -/
  winStart : Tab Nat := []
  deriving DecidableEq, Repr

end Sys2Proof.Machine
end

