-- ==== Sys2Proof/Machine/MemState.lean ====
section
/-! DEFINITION. Machine/MemState.lean: the state of the HBM controller and of device memory (14). -/

namespace Sys2Proof.Machine

/-- `HBM_STAT.STATE` (14 Table 6). -/
inductive HbmState where
  | notStarted | starting | running | selfRefresh
  deriving DecidableEq, Repr

/-- A bank of a pseudo-channel (R387, R388): activation counter, activations of each requester since the last RFM, and
the refresh interval count at its last RFM. -/
structure Bank where
  acts : Nat := 0
  by_ : Tab Nat := []
  lastRfm : Option Nat := none
  /-- The row that a queued request has kept open (R381). -/
  openRow : Option Nat := none
  deriving DecidableEq, Repr

/-- A pseudo-channel (R382 to R388). -/
structure PseudoCh where
  debt : Nat := 0
  /-- Catch-up (R385): since when, and the refreshes issued in it. -/
  catchUp : Option (Nat × Nat) := none
  banks : Tab Bank := []
  /-- Requesters throttled here, and when the last RFM to any bank was (R388). -/
  throttled : List Nat := []
  lastRfm : Nat := 0
  /-- When each requester last activated a row here (R388). -/
  lastAct : Tab Nat := []
  /-- Times of its uncorrectable errors of the last second (R393). -/
  errors : List Nat := []
  deriving DecidableEq, Repr

/-- The Pannier (14). Pseudo-channels are keyed 32 stack + number. -/
structure HbmSt where
  state : HbmState := .notStarted
  /-- The controller leaves self-refresh (R34). -/
  waking : Bool := false
  fail : Bool := false
  bands : Tab Nat := []
  pcs : Tab PseudoCh := []
  lastUse : Nat := 0
  /-- When a queue last reached its spill-wake mark, and when self-refresh was last entered (R28). -/
  wakeAt : Option Nat := none
  stoppedAt : Option Nat := none
  panic : Tab Bool := []
  /-- Cells on die in each prefetch buffer, by switch port. -/
  prefetch : Tab Nat := []
  /-- The next pseudo-channel in the rotation of each egress queue's spilled cells (R379). -/
  rot : Tab Nat := []
  /-- When the next spill write, and the next read, of each egress slice may be offered, in 1/1,750 of the model's unit (R266). -/
  writeAt : Tab Nat := []
  readAt : Tab Nat := []
  deriving DecidableEq, Repr

/-- The CXL memory port and the parts of device memory that no other chapter owns (R396 to R401). -/
structure CxmSt where
  link : Bool := false
  cap : Nat := 0
  err : Nat := 0
  /-- Stale shadows: forwarding table, contexts and rules (R399). -/
  staleFwd : Bool := false
  staleCtx : Bool := false
  /-- When the sweep last passed the context and rule lines (R494). -/
  ctxComparedAt : Nat := 0
  /-- The directory in device memory is valid (R400). -/
  directory : Bool := false
  /-- The host region and what else BAR2 shows of device memory. -/
  mem : Tab Byte := []
  deriving DecidableEq, Repr

end Sys2Proof.Machine
end

