-- ==== Sys2Proof/Machine/MgtState.lean ====
section
/-! DEFINITION. Machine/MgtState.lean: the state of the management subsystem (17). -/

namespace Sys2Proof.Machine

/-- A log entry (17 Table 5). `code` is a management code's name, or the class of a fault report. -/
inductive LogCode where
  | report (cls : Nat)
  | boot | warm | dlyBad | imgFallback | mgtLockstep | thermTrip
  deriving DecidableEq, Repr

structure LogEntry where
  tick : Nat
  seq : Nat
  code : LogCode
  sev : Nat
  lost : Bool
  data : List Byte
  deriving DecidableEq, Repr

/-- An image slot since the last boot or activation (R459, R464). -/
structure ImgSlot where
  /-- It has had a fresh start. -/
  fresh : Bool := false
  /-- Ranges written since then: offset and length. -/
  written : List (Nat × Nat) := []
  /-- Sectors erased since then. -/
  erased : List Nat := []
  /-- IMG_VERIFY has found it valid since it was last written. -/
  verified : Bool := false
  deriving DecidableEq, Repr

/-- The mailbox (R463). -/
structure Mailbox where
  /-- SEQ of the request that is pending. -/
  pending : Option Nat := none
  reply : Bool := false
  request : Tab Byte := []
  replyBuf : Tab Byte := []
  deriving DecidableEq, Repr

/-- JTAG (R472): the instruction in force and the boundary register. -/
inductive JtagInstr where
  | none | bypass | idcode | samplePreload | extest | extestPulse | extestTrain | highz | clamp
  deriving DecidableEq, Repr

structure Jtag where
  instr : JtagInstr := .none
  boundary : List Bool := []
  deriving DecidableEq, Repr

/-- The management subsystem (17). -/
structure MgtSt where
  ready : Bool := false
  recovery : Bool := false
  switching : Bool := false
  slot : Nat := 0
  fwVer : Nat := 0
  secVer : Nat := 0
  /-- The slot to fall back to during an image switch (R460). -/
  previous : Option Nat := none
  /-- When the image switch began (R460). -/
  switchAt : Nat := 0
  /-- Flash bytes that differ from what it held at the start. -/
  flash : Tab Byte := []
  slotA : ImgSlot := {}
  slotB : ImgSlot := {}
  mbx : Mailbox := {}
  temps : List Int := []
  volts : List Nat := []
  warn : Bool := false
  crit : Bool := false
  log : List LogEntry := []
  logSeq : Nat := 0
  /-- The flash log ring (R468). -/
  flashLog : List LogEntry := []
  /-- SEQ up to which LOG_READ has returned entries. -/
  logRead : Nat := 0
  /-- Entries copied to device memory: the next SEQ to copy (R468). -/
  logCopied : Nat := 0
  /-- Reports held for the log while SWITCHING (R461), and whether some were lost. -/
  held : List (LogCode × Nat × List Byte) := []
  heldLost : Bool := false
  smbusPtr : Nat := 0
  /-- Trace records in device memory, and whether the next one carries LOST (R470, R471). -/
  traceCount : Nat := 0
  traceLost : Bool := false
  traceFull : Bool := false
  /-- Records that the trace unit still accepts: 200 × 10^6 a second (R470; log entry 66). -/
  traceTokens : Bucket := { num := 200000000 }
  jtag : Jtag := {}
  deriving DecidableEq, Repr

end Sys2Proof.Machine
end

