-- ==== Sys2Proof/Machine/Regs.lean ====
section
/-! DEFINITION. Machine/Regs.lean: the BAR0 register map (R528 and the register tables of the chapters): each register's
address, the access code of each of its fields (R7) and its reset word. A register of a select window stands at its
window address; its instance (the select value) is named beside it (R532). -/

namespace Sys2Proof.Machine

/-- What a select window selects (21 Table 3); `none` is a device-wide block. -/
inductive Win where
  | none | channel | slice | port | cluster
  deriving DecidableEq, Repr

/-- One register, or a family of them at a fixed stride: the masks are the bits of each access code of Table 5 of the
conventions (R7). A bit in no mask is RO or reserved: a write to it is ignored (R8). -/
structure RegRow where
  base : Nat
  count : Nat := 1
  stride : Nat := 4
  win : Win := .none
  rw : Nat := 0
  rwl : Nat := 0
  w1c : Nat := 0
  w1s : Nat := 0
  wo : Nat := 0
  rc : Nat := 0
  reset : Nat := 0
  deriving DecidableEq, Repr

/-- `PCH_CTRL` (02 Table 2). -/
def Reg.pchCtrl : Nat := 0x201000
/-- `PCH_CFG` (02 Table 3). -/
def Reg.pchCfg : Nat := 0x201004
/-- `PCH_STAT` (02 Table 4). -/
def Reg.pchStat : Nat := 0x201008
/-- `PCH_DS` (02 Table 6). -/
def Reg.pchDs : Nat := 0x20100C
/-- `PCH_BPn_CTL` (02 Table 8), instance n. -/
def Reg.pchBpCtl (n : Nat) : Nat := 0x201040 + 0x20 * n
/-- `PCH_US` (02 Table 10). -/
def Reg.pchUs : Nat := 0x201010
/-- `PCH_DLN` (02 Table 12). -/
def Reg.pchDln : Nat := 0x201014
/-- `PCH_DEF` (02 Table 14). -/
def Reg.pchDef : Nat := 0x201018
/-- `PCH_DOW` (02 Table 15). -/
def Reg.pchDow : Nat := 0x20101C
/-- `PCH_BRST` (02 Table 16). -/
def Reg.pchBrst : Nat := 0x201020
/-- `PCH_RSSI` (02 Table 17). -/
def Reg.pchRssi : Nat := 0x201024
/-- `PCH_PONID_LO` (02 Table 18). -/
def Reg.pchPonidLo : Nat := 0x201028
/-- `PCH_PONID_HI` (02 Table 18). -/
def Reg.pchPonidHi : Nat := 0x20102C
/-- `PCH_D100` (03 Table 2). -/
def Reg.pchD100 : Nat := 0x201030
/-- `TIM_CH_DLY` (15 Table 9). -/
def Reg.timChDly : Nat := 0x201034
/-- `ACT_DISC` (04 Table 2). -/
def Reg.actDisc : Nat := 0x201100
/-- `ACT_REACH` (04 Table 3). -/
def Reg.actReach : Nat := 0x201104
/-- `ACT_TRK` (04 Table 7). -/
def Reg.actTrk : Nat := 0x201108
/-- `ACT_LOST` (04 Table 8). -/
def Reg.actLost : Nat := 0x20110C
/-- `ACT_MEM` (04 Table 10). -/
def Reg.actMem : Nat := 0x201110
/-- `ACT_GCFG` (04 Table 13). -/
def Reg.actGcfg : Nat := 0x50000
/-- `GNT_CFG` (05 Table 9). -/
def Reg.gntCfg : Nat := 0x201200
/-- `GNT_CAP` (05 Table 10). -/
def Reg.gntCap : Nat := 0x201204
/-- `GNT_STAT` (05 Table 11). -/
def Reg.gntStat : Nat := 0x201208
/-- `DRL_CFG` (06 Table 6). -/
def Reg.drlCfg : Nat := 0x60000
/-- `DRL_SUG` (06 Table 7). -/
def Reg.drlSug : Nat := 0x60004
/-- `DRL_STAT` (06 Table 8). -/
def Reg.drlStat : Nat := 0x60008
/-- `DRL_DLYw` (06 Table 9), instance n. -/
def Reg.drlDly (n : Nat) : Nat := 0x60010 + 0x4 * n
/-- `PRS_CFG` (07 Table 12). -/
def Reg.prsCfg : Nat := 0x203000
/-- `PRS_TPID` (07 Table 13). -/
def Reg.prsTpid : Nat := 0x203004
/-- `PRS_TUN` (07 Table 14). -/
def Reg.prsTun : Nat := 0x203008
/-- `PRS_FAIL` (07 Table 15). -/
def Reg.prsFail : Nat := 0x20300C
/-- `CLS_CFG` (07 Table 16). -/
def Reg.clsCfg : Nat := 0x203100
/-- `CLS_SEED` (07 Table 17). -/
def Reg.clsSeed : Nat := 0x203104
/-- `CLS_PUNTn` (07 Table 18), instance n. -/
def Reg.clsPunt (n : Nat) : Nat := 0x203120 + 0x4 * n
/-- `CLS_HGn` (07 Table 19), instance n. -/
def Reg.clsHg (n : Nat) : Nat := 0x203200 + 0x4 * n
/-- `FWD_CFG` (08 Table 8). -/
def Reg.fwdCfg : Nat := 0x70000
/-- `FWD_AGE` (08 Table 9). -/
def Reg.fwdAge : Nat := 0x70004
/-- `FWD_NOTIFY` (08 Table 10). -/
def Reg.fwdNotify : Nat := 0x70008
/-- `FWD_STAT` (08 Table 11). -/
def Reg.fwdStat : Nat := 0x7000C
/-- `FWD_SEEDb` (08 Table 12), instance n. -/
def Reg.fwdSeed (n : Nat) : Nat := 0x70010 + 0x4 * n
/-- `FWD_RELOC` (08 Table 13). -/
def Reg.fwdReloc : Nat := 0x70020
/-- `FWD_SRCGRPk` (08 Table 14), instance n. -/
def Reg.fwdSrcgrp (n : Nat) : Nat := 0x70100 + 0x4 * n
/-- `SW_CFG` (09 Table 5). -/
def Reg.swCfg : Nat := 0x80000
/-- `SW_MC` (09 Table 6). -/
def Reg.swMc : Nat := 0x80004
/-- `SW_HOLD` (09 Table 7). -/
def Reg.swHold : Nat := 0x80008
/-- `SW_SPILLn_LO` (09 Table 8), instance n. -/
def Reg.swSpillLo (n : Nat) : Nat := 0x80100 + 0x8 * n
/-- `SW_SPILLn_HI` (09 Table 8), instance n. -/
def Reg.swSpillHi (n : Nat) : Nat := 0x80104 + 0x8 * n
/-- `SW_EGR` (09 Table 9). -/
def Reg.swEgr : Nat := 0x203400
/-- `SW_VOQ` (09 Table 10). -/
def Reg.swVoq : Nat := 0x203404
/-- `TM_CFG` (10 Table 8). -/
def Reg.tmCfg : Nat := 0x203800
/-- `TM_STAT` (10 Table 9). -/
def Reg.tmStat : Nat := 0x203804
/-- `CPH_CFG` (11 Table 10). -/
def Reg.cphCfg : Nat := 0x90000
/-- `CPH_EXH` (11 Table 11). -/
def Reg.cphExh : Nat := 0x90004
/-- `CPH_STAT` (11 Table 12). -/
def Reg.cphStat : Nat := 0x90008
/-- `CPH_CCL_CTRL` (11 Table 13). -/
def Reg.cphCclCtrl : Nat := 0x207000
/-- `CPH_CCL_STAT` (11 Table 14). -/
def Reg.cphCclStat : Nat := 0x207004
/-- `OAM_CFG` (12 Table 6). -/
def Reg.oamCfg : Nat := 0xB0000
/-- `OAM_MAC_LO` (12 Table 7). -/
def Reg.oamMacLo : Nat := 0xB0004
/-- `OAM_MAC_HI` (12 Table 7). -/
def Reg.oamMacHi : Nat := 0xB0008
/-- `OAM_STAT` (12 Table 8). -/
def Reg.oamStat : Nat := 0xB000C
/-- `UPL_GCFG` (13 Table 6). -/
def Reg.uplGcfg : Nat := 0xC0000
/-- `UPL_CTRL` (13 Table 7). -/
def Reg.uplCtrl : Nat := 0x205000
/-- `UPL_CFG` (13 Table 8). -/
def Reg.uplCfg : Nat := 0x205004
/-- `UPL_LOCK` (13 Table 9). -/
def Reg.uplLock : Nat := 0x205008
/-- `UPL_MON` (13 Table 10). -/
def Reg.uplMon : Nat := 0x20500C
/-- `UPL_STAT` (13 Table 11). -/
def Reg.uplStat : Nat := 0x205010
/-- `SDS_LCFGj` (13 Table 12), instance n. -/
def Reg.sdsLcfg (n : Nat) : Nat := 0x205100 + 0x20 * n
/-- `SDS_LSTATj` (13 Table 13), instance n. -/
def Reg.sdsLstat (n : Nat) : Nat := 0x205104 + 0x20 * n
/-- `TIM_UPL_DLY` (15 Table 10). -/
def Reg.timUplDly : Nat := 0x205020
/-- `HBM_CTRL` (14 Table 5). -/
def Reg.hbmCtrl : Nat := 0xD0000
/-- `HBM_STAT` (14 Table 6). -/
def Reg.hbmStat : Nat := 0xD0004
/-- `HBM_RD` (14 Table 7). -/
def Reg.hbmRd : Nat := 0xD0008
/-- `HBM_PANIC` (14 Table 8). -/
def Reg.hbmPanic : Nat := 0xD000C
/-- `HBM_DLYn` (14 Table 9), instance n. -/
def Reg.hbmDly (n : Nat) : Nat := 0xD0100 + 0x4 * n
/-- `CXM_CTRL` (14 Table 10). -/
def Reg.cxmCtrl : Nat := 0xE0000
/-- `CXM_STAT` (14 Table 11). -/
def Reg.cxmStat : Nat := 0xE0004
/-- `CXM_TRACE` (14 Table 12). -/
def Reg.cxmTrace : Nat := 0xE0008
/-- `TIM_PPS` (15 Table 3). -/
def Reg.timPps : Nat := 0x30000
/-- `TIM_STAT` (15 Table 4). -/
def Reg.timStat : Nat := 0x30004
/-- `TIM_LATCH` (15 Table 5). -/
def Reg.timLatch : Nat := 0x30008
/-- `TIM_RD_10` (15 Table 6). -/
def Reg.timRd10 : Nat := 0x30010
/-- `TIM_RD_14` (15 Table 6). -/
def Reg.timRd14 : Nat := 0x30014
/-- `TIM_RD_18` (15 Table 6). -/
def Reg.timRd18 : Nat := 0x30018
/-- `TIM_RD_20` (15 Table 6). -/
def Reg.timRd20 : Nat := 0x30020
/-- `TIM_RD_24` (15 Table 6). -/
def Reg.timRd24 : Nat := 0x30024
/-- `TIM_RD_28` (15 Table 6). -/
def Reg.timRd28 : Nat := 0x30028
/-- `TIM_RD_2C` (15 Table 6). -/
def Reg.timRd2c : Nat := 0x3002C
/-- `TIM_RCLKn` (15 Table 7), instance n. -/
def Reg.timRclk (n : Nat) : Nat := 0x30040 + 0x4 * n
/-- `TIM_RCLK_STATn` (15 Table 8), instance n. -/
def Reg.timRclkStat (n : Nat) : Nat := 0x30048 + 0x4 * n
/-- `HIF_CFG` (16 Table 11). -/
def Reg.hifCfg : Nat := 0x100000
/-- `HIF_STAT` (16 Table 12). -/
def Reg.hifStat : Nat := 0x100004
/-- `HIF_DB_BASE_LO` (16 Table 13). -/
def Reg.hifDbBaseLo : Nat := 0x100008
/-- `HIF_DB_BASE_HI` (16 Table 13). -/
def Reg.hifDbBaseHi : Nat := 0x10000C
/-- `HIF_RINGn_BASE_LO` (16 Table 14), instance n. -/
def Reg.hifRingBaseLo (n : Nat) : Nat := 0x110000 + 0x20 * n
/-- `HIF_RINGn_BASE_HI` (16 Table 14), instance n. -/
def Reg.hifRingBaseHi (n : Nat) : Nat := 0x110004 + 0x20 * n
/-- `HIF_RINGn_CMPL_LO` (16 Table 14), instance n. -/
def Reg.hifRingCmplLo (n : Nat) : Nat := 0x110008 + 0x20 * n
/-- `HIF_RINGn_CMPL_HI` (16 Table 14), instance n. -/
def Reg.hifRingCmplHi (n : Nat) : Nat := 0x11000C + 0x20 * n
/-- `HIF_RINGn_CFG` (16 Table 14), instance n. -/
def Reg.hifRingCfg (n : Nat) : Nat := 0x110010 + 0x20 * n
/-- `HIF_RINGn_COAL` (16 Table 14), instance n. -/
def Reg.hifRingCoal (n : Nat) : Nat := 0x110014 + 0x20 * n
/-- `HIF_RINGn_STAT` (16 Table 14), instance n. -/
def Reg.hifRingStat (n : Nat) : Nat := 0x110018 + 0x20 * n
/-- `HIF_DOORBELLn` (16 Table 14), instance n. -/
def Reg.hifDoorbell (n : Nat) : Nat := 0x120000 + 0x4 * n
/-- `HIF_INTg` (16 Table 15), instance n. -/
def Reg.hifInt (n : Nat) : Nat := 0x100100 + 0x8 * n
/-- `HIF_INTVg` (16 Table 15), instance n. -/
def Reg.hifIntv (n : Nat) : Nat := 0x100104 + 0x8 * n
/-- `HIF_EVTRTn` (16 Table 16), instance n. -/
def Reg.hifEvtrt (n : Nat) : Nat := 0x100400 + 0x4 * n
/-- `HIF_VFv_RING` (16 Table 17), instance n. -/
def Reg.hifVfRing (n : Nat) : Nat := 0x100810 + 0x10 * n
/-- `HIF_VFv_VEC` (16 Table 17), instance n. -/
def Reg.hifVfVec (n : Nat) : Nat := 0x100814 + 0x10 * n
/-- `HIF_VFv_SVCB` (16 Table 17), instance n. -/
def Reg.hifVfSvcb (n : Nat) : Nat := 0x100818 + 0x10 * n
/-- `HIF_VFv_SVC` (16 Table 17), instance n. -/
def Reg.hifVfSvc (n : Nat) : Nat := 0x10081C + 0x10 * n
/-- `MGT_STAT` (17 Table 7). -/
def Reg.mgtStat : Nat := 0x10000
/-- `MGT_FWVER` (17 Table 8). -/
def Reg.mgtFwver : Nat := 0x10004
/-- `MGT_MBX_DB` (17 Table 9). -/
def Reg.mgtMbxDb : Nat := 0x10010
/-- `MGT_MBX_STAT` (17 Table 9). -/
def Reg.mgtMbxStat : Nat := 0x10014
/-- `MGT_THERM` (17 Table 10). -/
def Reg.mgtTherm : Nat := 0x10020
/-- `MGT_TRC` (17 Table 11). -/
def Reg.mgtTrc : Nat := 0x10030
/-- `CNT_CFG` (18 Table 5). -/
def Reg.cntCfg : Nat := 0x40000
/-- `CNT_BW` (18 Table 6). -/
def Reg.cntBw : Nat := 0x40004
/-- `CNT_SAMP` (18 Table 7). -/
def Reg.cntSamp : Nat := 0x40008
/-- `CNT_SEED` (18 Table 7). -/
def Reg.cntSeed : Nat := 0x4000C
/-- `CNT_STAT` (18 Table 8). -/
def Reg.cntStat : Nat := 0x40010
/-- `FLT_CFG` (19 Table 5). -/
def Reg.fltCfg : Nat := 0x20000
/-- `FLT_STAT` (19 Table 6). -/
def Reg.fltStat : Nat := 0x20004
/-- `FLT_INJ` (19 Table 7). -/
def Reg.fltInj : Nat := 0x20008
/-- `GLB_PWR` (20 Table 8). -/
def Reg.glbPwr : Nat := 0x40
/-- `GLB_RSTC` (20 Table 9). -/
def Reg.glbRstc : Nat := 0x44
/-- `GLB_ID` (21 Table 6). -/
def Reg.glbId : Nat := 0x0
/-- `GLB_REV` (21 Table 7). -/
def Reg.glbRev : Nat := 0x4
/-- `GLB_CTRL` (21 Table 8). -/
def Reg.glbCtrl : Nat := 0x8
/-- `GLB_STAT` (21 Table 9). -/
def Reg.glbStat : Nat := 0xC
/-- `GLB_FUSE_10` (21 Table 10). -/
def Reg.glbFuse10 : Nat := 0x10
/-- `GLB_FUSE_14` (21 Table 10). -/
def Reg.glbFuse14 : Nat := 0x14
/-- `GLB_FUSE_18` (21 Table 10). -/
def Reg.glbFuse18 : Nat := 0x18
/-- `GLB_FUSE_1C` (21 Table 10). -/
def Reg.glbFuse1c : Nat := 0x1C
/-- `GLB_FUSE_20` (21 Table 10). -/
def Reg.glbFuse20 : Nat := 0x20
/-- `PCH_SEL` (21 Table 4). -/
def Reg.pchSel : Nat := 0x200000
/-- `SLC_SEL` (21 Table 4). -/
def Reg.slcSel : Nat := 0x202000
/-- `UPL_SEL` (21 Table 4). -/
def Reg.uplSel : Nat := 0x204000
/-- `CCL_SEL` (21 Table 4). -/
def Reg.cclSel : Nat := 0x206000
/-- `PCH_BPn_PRE_LO` (R54), instance n. -/
def Reg.pchBpPreLo (n : Nat) : Nat := 0x201048 + 0x20 * n
/-- `PCH_BPn_PRE_HI` (R54), instance n. -/
def Reg.pchBpPreHi (n : Nat) : Nat := 0x20104C + 0x20 * n
/-- `PCH_BPn_DLM_LO` (R54), instance n. -/
def Reg.pchBpDlmLo (n : Nat) : Nat := 0x201050 + 0x20 * n
/-- `PCH_BPn_DLM_HI` (R54), instance n. -/
def Reg.pchBpDlmHi (n : Nat) : Nat := 0x201054 + 0x20 * n

/-- Registers of one part of the map. -/
def regsChannel : List RegRow := [
  -- PCH_CTRL
  { base := 0x201000, win := .channel, rw := 0x1 },
  -- PCH_CFG
  { base := 0x201004, win := .channel, rwl := 0x73 },
  -- PCH_STAT
  { base := 0x201008, win := .channel },
  -- PCH_DS
  { base := 0x20100C, win := .channel, rwl := 0xFFF, reset := 0x40 },
  -- PCH_BPn_CTL
  { base := 0x201040, count := 4, stride := 0x20, win := .channel, rwl := 0xFF3FFF0F, reset := 0xD080000 },
  -- PCH_US
  { base := 0x201010, win := .channel, rwl := 0xFFF, reset := 0x340 },
  -- PCH_DLN
  { base := 0x201014, win := .channel, rwl := 0x377, reset := 0x132 },
  -- PCH_DEF
  { base := 0x201018, win := .channel, rwl := 0xFFFFF, reset := 0x20404 },
  -- PCH_DOW
  { base := 0x20101C, win := .channel, rwl := 0xFFFFFFFF, reset := 0x8000C0 },
  -- PCH_BRST
  { base := 0x201020, win := .channel, rwl := 0xFFFF, reset := 0x204 },
  -- PCH_RSSI
  { base := 0x201024, win := .channel, rwl := 0xFFFFFFFF, reset := 0x1900064 },
  -- PCH_PONID_LO
  { base := 0x201028, win := .channel, rwl := 0xFFFFFFFF },
  -- PCH_PONID_HI
  { base := 0x20102C, win := .channel, rwl := 0x7FFFF },
  -- PCH_D100
  { base := 0x201030, win := .channel, rwl := 0x3F3F },
  -- TIM_CH_DLY
  { base := 0x201034, win := .channel, rwl := 0xFFFF },
  -- ACT_DISC
  { base := 0x201100, win := .channel, rw := 0x1, rwl := 0xFFFE, reset := 0x820 },
  -- ACT_REACH
  { base := 0x201104, win := .channel, rwl := 0x3FF03FF, reset := 0xC80000 },
  -- ACT_TRK
  { base := 0x201108, win := .channel, rwl := 0xFFFFF, reset := 0x40080 },
  -- ACT_LOST
  { base := 0x20110C, win := .channel, rwl := 0xFFFFFFFF, reset := 0xA030064 },
  -- ACT_MEM
  { base := 0x201110, win := .channel, rwl := 0xFF0FFFFF, reset := 0x14032008 },
  -- GNT_CFG
  { base := 0x201200, win := .channel, rwl := 0x3FFFF01, reset := 0x1401000 },
  -- GNT_CAP
  { base := 0x201204, win := .channel, rwl := 0xFFFFFF },
  -- GNT_STAT
  { base := 0x201208, win := .channel, rc := 0xFFFF0000 },
  -- PCH_SEL
  { base := 0x200000, rw := 0xFF },
  -- PCH_BPn_PRE_LO
  { base := 0x201048, count := 4, stride := 0x20, win := .channel, rwl := 0xFFFFFFFF },
  -- PCH_BPn_PRE_HI
  { base := 0x20104C, count := 4, stride := 0x20, win := .channel, rwl := 0xFFFFFFFF },
  -- PCH_BPn_DLM_LO
  { base := 0x201050, count := 4, stride := 0x20, win := .channel, rwl := 0xFFFFFFFF },
  -- PCH_BPn_DLM_HI
  { base := 0x201054, count := 4, stride := 0x20, win := .channel, rwl := 0xFFFFFFFF }]

/-- Registers of one part of the map. -/
def regsSlice : List RegRow := [
  -- PRS_CFG
  { base := 0x203000, win := .slice, rwl := 0xFF33011F, reset := 0x110 },
  -- PRS_TPID
  { base := 0x203004, win := .slice, rwl := 0xFFFFFFFF, reset := 0x9100 },
  -- PRS_TUN
  { base := 0x203008, win := .slice, rwl := 0xFFFFFFFF, reset := 0x12B50868 },
  -- PRS_FAIL
  { base := 0x20300C, win := .slice, rwl := 0xFFFF },
  -- CLS_CFG
  { base := 0x203100, win := .slice, rwl := 0x1FF03, reset := 0x10402 },
  -- CLS_SEED
  { base := 0x203104, win := .slice, rwl := 0xFFFFFFFF, reset := 0xFFFFFFFF },
  -- CLS_PUNTn
  { base := 0x203120, count := 8, stride := 0x4, win := .slice, rwl := 0xFFFFFFFF },
  -- CLS_HGn
  { base := 0x203200, count := 64, stride := 0x4, win := .slice, rwl := 0xC01FFFFF },
  -- SW_EGR
  { base := 0x203400, win := .slice, rwl := 0xFFFF, reset := 0x800 },
  -- SW_VOQ
  { base := 0x203404, win := .slice, rwl := 0xFFFF, reset := 0x4000 },
  -- TM_CFG
  { base := 0x203800, win := .slice, rwl := 0xFFFF01, reset := 0x140A01 },
  -- TM_STAT
  { base := 0x203804, win := .slice },
  -- SLC_SEL
  { base := 0x202000, rw := 0xFF }]

/-- Registers of one part of the map. -/
def regsCluster : List RegRow := [
  -- CPH_CCL_CTRL
  { base := 0x207000, win := .cluster, rwl := 0x1, reset := 0x1 },
  -- CPH_CCL_STAT
  { base := 0x207004, win := .cluster },
  -- CCL_SEL
  { base := 0x206000, rw := 0xFF }]

/-- Registers of one part of the map. -/
def regsGlobal0 : List RegRow := [
  -- ACT_GCFG
  { base := 0x50000, rwl := 0xFFFF03FF, reset := 0x3E80010 },
  -- DRL_CFG
  { base := 0x60000, rwl := 0xFFFF3F01, reset := 0x40A2800 },
  -- DRL_SUG
  { base := 0x60004, rwl := 0xFFFF00FF, reset := 0x3E8001E },
  -- DRL_STAT
  { base := 0x60008 },
  -- DRL_DLYw
  { base := 0x60010, count := 4, stride := 0x4, rwl := 0xFFFF },
  -- FWD_CFG
  { base := 0x70000, rw := 0x100, rwl := 0x7, reset := 0x100 },
  -- FWD_AGE
  { base := 0x70004, rwl := 0xFFFF, reset := 0x12C },
  -- FWD_NOTIFY
  { base := 0x70008, rwl := 0xFFFFFFFF, reset := 0x64400064 },
  -- FWD_STAT
  { base := 0x7000C },
  -- FWD_SEEDb
  { base := 0x70010, count := 4, stride := 0x4, rwl := 0xFFFFFFFF },
  -- FWD_RELOC
  { base := 0x70020 },
  -- FWD_SRCGRPk
  { base := 0x70100, count := 64, stride := 0x4, rwl := 0x7F },
  -- SW_CFG
  { base := 0x80000, rwl := 0x1, reset := 0x1 },
  -- SW_MC
  { base := 0x80004, rwl := 0xFFFF, reset := 0x3E8 },
  -- SW_HOLD
  { base := 0x80008, rwl := 0xFFFF, reset := 0x32 },
  -- SW_SPILLn_LO
  { base := 0x80100, count := 16, stride := 0x8, rwl := 0xFFFFFFFF, reset := 0x1000200 },
  -- SW_SPILLn_HI
  { base := 0x80104, count := 16, stride := 0x8, rwl := 0x80FFFFFF, reset := 0x10000 },
  -- CPH_CFG
  { base := 0x90000, rwl := 0x101, reset := 0x1 },
  -- CPH_EXH
  { base := 0x90004, rwl := 0xFFFFFF, reset := 0x1000 },
  -- CPH_STAT
  { base := 0x90008 },
  -- OAM_CFG
  { base := 0xB0000, rwl := 0x71, reset := 0x70 },
  -- OAM_MAC_LO
  { base := 0xB0004, rwl := 0xFFFFFFFF },
  -- OAM_MAC_HI
  { base := 0xB0008, rwl := 0xFFFF },
  -- OAM_STAT
  { base := 0xB000C },
  -- UPL_GCFG
  { base := 0xC0000, rwl := 0x3, reset := 0x3 },
  -- UPL_CTRL
  { base := 0x205000, win := .port, rw := 0x1 }]

/-- Registers of one part of the map. -/
def regsGlobal1 : List RegRow := [
  -- UPL_CFG
  { base := 0x205004, win := .port, rwl := 0xFFFFFF93, reset := 0xA0A1400 },
  -- UPL_LOCK
  { base := 0x205008, win := .port, rwl := 0xFF77FFFF, reset := 0x64421040 },
  -- UPL_MON
  { base := 0x20500C, win := .port, rwl := 0xFFFFFFF3, reset := 0x6418C282 },
  -- UPL_STAT
  { base := 0x205010, win := .port },
  -- SDS_LCFGj
  { base := 0x205100, count := 8, stride := 0x20, win := .port, rwl := 0x3FFF },
  -- SDS_LSTATj
  { base := 0x205104, count := 8, stride := 0x20, win := .port },
  -- TIM_UPL_DLY
  { base := 0x205020, win := .port, rwl := 0xFFFFFFFF },
  -- UPL_SEL
  { base := 0x204000, rw := 0xFF },
  -- HBM_CTRL
  { base := 0xD0000, rwl := 0x1, reset := 0x1 },
  -- HBM_STAT
  { base := 0xD0004 },
  -- HBM_RD
  { base := 0xD0008, rwl := 0xFFFFFF, reset := 0x140040 },
  -- HBM_PANIC
  { base := 0xD000C, rwl := 0xFFFF, reset := 0x4020 },
  -- HBM_DLYn
  { base := 0xD0100, count := 64, stride := 0x4, rw := 0xFFFFFF },
  -- CXM_CTRL
  { base := 0xE0000, rwl := 0x1 },
  -- CXM_STAT
  { base := 0xE0004 },
  -- CXM_TRACE
  { base := 0xE0008, rwl := 0x3FF },
  -- TIM_PPS
  { base := 0x30000, rw := 0xFFFF0007, reset := 0x640000 },
  -- TIM_STAT
  { base := 0x30004 },
  -- TIM_LATCH
  { base := 0x30008, wo := 0x1 },
  -- TIM_RD_10
  { base := 0x30010 },
  -- TIM_RD_14
  { base := 0x30014 },
  -- TIM_RD_18
  { base := 0x30018 },
  -- TIM_RD_20
  { base := 0x30020 },
  -- TIM_RD_24
  { base := 0x30024 },
  -- TIM_RD_28
  { base := 0x30028 },
  -- TIM_RD_2C
  { base := 0x3002C }]

/-- Registers of one part of the map. -/
def regsGlobal2 : List RegRow := [
  -- TIM_RCLKn
  { base := 0x30040, count := 2, stride := 0x4, rw := 0xFF00077F, reset := 0xA00047F },
  -- TIM_RCLK_STATn
  { base := 0x30048, count := 2, stride := 0x4, reset := 0x80000000 },
  -- HIF_CFG
  { base := 0x100000, rw := 0x13F0001 },
  -- HIF_STAT
  { base := 0x100004 },
  -- HIF_DB_BASE_LO
  { base := 0x100008, rw := 0xFFFFFFC0 },
  -- HIF_DB_BASE_HI
  { base := 0x10000C, rw := 0xFFFFFFFF },
  -- HIF_RINGn_BASE_LO
  { base := 0x110000, count := 1024, stride := 0x20, rw := 0xFFFFFFFF },
  -- HIF_RINGn_BASE_HI
  { base := 0x110004, count := 1024, stride := 0x20, rw := 0xFFFFFFFF },
  -- HIF_RINGn_CMPL_LO
  { base := 0x110008, count := 1024, stride := 0x20, rw := 0xFFFFFFFF },
  -- HIF_RINGn_CMPL_HI
  { base := 0x11000C, count := 1024, stride := 0x20, rw := 0xFFFFFFFF },
  -- HIF_RINGn_CFG
  { base := 0x110010, count := 1024, stride := 0x20, rw := 0xF0FFFFFF },
  -- HIF_RINGn_COAL
  { base := 0x110014, count := 1024, stride := 0x20, rw := 0xFFFFFFFF },
  -- HIF_RINGn_STAT
  { base := 0x110018, count := 1024, stride := 0x20 },
  -- HIF_DOORBELLn
  { base := 0x120000, count := 1024, stride := 0x4, rw := 0xFFFFFFFF },
  -- HIF_INTg
  { base := 0x100100, count := 16, stride := 0x8, rw := 0xFFFF0000, w1c := 0xFFFF, reset := 0xFFFF0000 },
  -- HIF_INTVg
  { base := 0x100104, count := 16, stride := 0x8, rw := 0x800007FF },
  -- HIF_EVTRTn
  { base := 0x100400, count := 256, stride := 0x4, rw := 0x800003FF },
  -- HIF_VFv_RING
  { base := 0x100810, count := 63, stride := 0x10, rw := 0x7FF03FF },
  -- HIF_VFv_VEC
  { base := 0x100814, count := 63, stride := 0x10, rw := 0xFFF07FF },
  -- HIF_VFv_SVCB
  { base := 0x100818, count := 63, stride := 0x10, rw := 0xFFFF },
  -- HIF_VFv_SVC
  { base := 0x10081C, count := 63, stride := 0x10, rw := 0x8001FFFF },
  -- MGT_STAT
  { base := 0x10000 },
  -- MGT_FWVER
  { base := 0x10004 },
  -- MGT_MBX_DB
  { base := 0x10010, wo := 0xFFFFFFFF },
  -- MGT_MBX_STAT
  { base := 0x10014, w1c := 0x1 },
  -- MGT_THERM
  { base := 0x10020, rw := 0xFFFF00, reset := 0x786E00 }]

/-- Registers of one part of the map. -/
def regsGlobal3 : List RegRow := [
  -- MGT_TRC
  { base := 0x10030, rw := 0xFF3F03 },
  -- CNT_CFG
  { base := 0x40000, rwl := 0xFF, reset := 0xA },
  -- CNT_BW
  { base := 0x40004, rwl := 0xFFFFF, reset := 0x3E8 },
  -- CNT_SAMP
  { base := 0x40008, rw := 0x1F },
  -- CNT_SEED
  { base := 0x4000C, rw := 0xFFFFFFFF, reset := 0xACE10001 },
  -- CNT_STAT
  { base := 0x40010 },
  -- FLT_CFG
  { base := 0x20000, rw := 0xFF01, reset := 0x1001 },
  -- FLT_STAT
  { base := 0x20004, w1c := 0x20000 },
  -- FLT_INJ
  { base := 0x20008, rw := 0x10FFFFFF, wo := 0x80000000 },
  -- GLB_PWR
  { base := 0x40, rw := 0x1 },
  -- GLB_RSTC
  { base := 0x44 },
  -- GLB_ID
  { base := 0x0, reset := 0x3C1927AF },
  -- GLB_REV
  { base := 0x4, reset := 0x11 },
  -- GLB_CTRL
  { base := 0x8, w1s := 0x1 },
  -- GLB_STAT
  { base := 0xC },
  -- GLB_FUSE_10
  { base := 0x10 },
  -- GLB_FUSE_14
  { base := 0x14 },
  -- GLB_FUSE_18
  { base := 0x18 },
  -- GLB_FUSE_1C
  { base := 0x1C },
  -- GLB_FUSE_20
  { base := 0x20 }]

/-- The whole register map. -/
def regMap : List RegRow :=
  regsChannel ++ regsSlice ++ regsCluster ++ regsGlobal0 ++ regsGlobal1 ++ regsGlobal2 ++ regsGlobal3

/-- Does a register row hold the word at a BAR0 offset? -/
def RegRow.holds (r : RegRow) (off : Nat) : Bool :=
  decide (r.base ≤ off) && (off - r.base) % r.stride == 0 && decide ((off - r.base) / r.stride < r.count)

/-- The register row at a word-aligned BAR0 offset; none where no register stands (R530). -/
def regAt (off : Nat) : Option RegRow := regMap.find? (fun r => r.holds off)

/-- Reset values of the punt budgets (07 Table 10): RATE in bits [15:0], BURST in bits [25:16]. -/
def puntReset (n : Nat) : Nat :=
  match n with
  | 0 => 0x400064 | 1 => 0x10000A | 2 => 0x10001F4 | 3 => 0x8000C8
  | 4 => 0x400064 | 5 => 0x8000C8 | 6 => 0x800064 | _ => 0

/-- Reset values of the bank seeds (08 Table 12). -/
def seedReset (b : Nat) : Nat :=
  match b with
  | 0 => 0x9E3779B9 | 1 => 0x85EBCA6B | 2 => 0xC2B2AE35 | _ => 0x27D4EB2F

/-- The word a register holds after reset (the Reset column). -/
def regResetWord (off : Nat) : Word :=
  if Reg.clsPunt 0 ≤ off ∧ off ≤ Reg.clsPunt 7 then BitVec.ofNat 32 (puntReset ((off - Reg.clsPunt 0) / 4))
  else if Reg.fwdSeed 0 ≤ off ∧ off ≤ Reg.fwdSeed 3 then BitVec.ofNat 32 (seedReset ((off - Reg.fwdSeed 0) / 4))
  else
    match regAt off with
    | some r => BitVec.ofNat 32 r.reset
    | none => 0

/-- Instances of one window are kept apart by the select value: a register's key in the register file. -/
def regKey (off inst : Nat) : Nat := off + inst * 0x4000000

/-- The reset word of a register key. -/
def regResetKey (k : Nat) : Word := regResetWord (k % 0x4000000)

end Sys2Proof.Machine
end

