-- ==== Sys2Proof/Machine/Status.lean ====
section
/-! DEFINITION. Machine/Status.lean: the command opcodes and the completion statuses (16 Table 4): the k-th status listed
for group g has code 256 g + k. -/

namespace Sys2Proof.Machine

/-- Completion status OK. -/
def Status.ok : Nat := 0
def Status.lenZero : Nat := 0x0001
def Status.lenBad : Nat := 0x0002
def Status.opcodeBad : Nat := 0x0003
def Status.ringType : Nat := 0x0004
def Status.denied : Nat := 0x0005
def Status.dmaErr : Nat := 0x0006
def Status.notLocked : Nat := 0x0007
def Status.destBad : Nat := 0x0008
def Status.cancelled : Nat := 0x0009
def Status.cntDenied : Nat := 0x000A
def Status.chBusy : Nat := 0x0101
def Status.rssiTimeout : Nat := 0x0102
def Status.rssiBusy : Nat := 0x0103
def Status.rssiOff : Nat := 0x0104
def Status.modZero : Nat := 0x0105
def Status.modNoack : Nat := 0x0106
def Status.allowFull : Nat := 0x0107
def Status.ctxActive : Nat := 0x0108
def Status.notOperating : Nat := 0x0109
def Status.portidDup : Nat := 0x010A
def Status.ctxState : Nat := 0x010B
def Status.chRange : Nat := 0x010C
def Status.modeBad : Nat := 0x010D
def Status.allowBad : Nat := 0x010E
def Status.allowNone : Nat := 0x010F
def Status.slaBad : Nat := 0x0201
def Status.allocDup : Nat := 0x0202
def Status.slaFixedOver : Nat := 0x0203
def Status.slaOversub : Nat := 0x0204
def Status.profileBad : Nat := 0x0205
def Status.coopPart : Nat := 0x0206
def Status.moveOff : Nat := 0x0207
def Status.moveState : Nat := 0x0208
def Status.moveBusy : Nat := 0x0209
def Status.moveTarget : Nat := 0x020A
def Status.moveTooBig : Nat := 0x020B
def Status.moveId : Nat := 0x020C
def Status.moveReach : Nat := 0x020D
def Status.moveNone : Nat := 0x020E
def Status.moveLate : Nat := 0x020F
def Status.moveRoom : Nat := 0x0210
def Status.portRange : Nat := 0x0301
def Status.svcFull : Nat := 0x0302
def Status.svcPort : Nat := 0x0303
def Status.matchNone : Nat := 0x0304
def Status.ruleRange : Nat := 0x0305
def Status.rsetBad : Nat := 0x0306
def Status.indirRange : Nat := 0x0307
def Status.tblOff : Nat := 0x0308
def Status.fwdBad : Nat := 0x0309
def Status.fwdFull : Nat := 0x030A
def Status.fwdNone : Nat := 0x030B
def Status.fwdOccupied : Nat := 0x030C
def Status.flushBad : Nat := 0x030D
def Status.flushMore : Nat := 0x030E
def Status.queueRange : Nat := 0x0401
def Status.mcRange : Nat := 0x0402
def Status.meterRange : Nat := 0x0403
def Status.meterBad : Nat := 0x0404
def Status.shaperRange : Nat := 0x0405
def Status.schedBad : Nat := 0x0406
def Status.cbsBad : Nat := 0x0407
def Status.gclBad : Nat := 0x0408
def Status.kekLocked : Nat := 0x0501
def Status.keyBad : Nat := 0x0502
def Status.keyZero : Nat := 0x0503
def Status.keyLen : Nat := 0x0504
def Status.keyClear : Nat := 0x0505
def Status.noKek : Nat := 0x0506
def Status.unwrapFail : Nat := 0x0507
def Status.keyRange : Nat := 0x0508
def Status.keyShared : Nat := 0x0509
def Status.keyType : Nat := 0x050A
def Status.keyEmpty : Nat := 0x050B
def Status.sealBad : Nat := 0x050C
def Status.sealInUse : Nat := 0x050D
def Status.epFull : Nat := 0x050E
def Status.epNone : Nat := 0x050F
def Status.msecBad : Nat := 0x0510
def Status.msecFull : Nat := 0x0511
def Status.megRange : Nat := 0x0601
def Status.megInUse : Nat := 0x0602
def Status.mepRange : Nat := 0x0603
def Status.mepBad : Nat := 0x0604
def Status.mepDup : Nat := 0x0605
def Status.mepNone : Nat := 0x0606
def Status.timeBad : Nat := 0x0607
def Status.timeLate : Nat := 0x0608
def Status.timeRange : Nat := 0x0609
def Status.todRange : Nat := 0x060A
def Status.todChOff : Nat := 0x060B
def Op.nop : Nat := 0x00
def Op.pktTx : Nat := 0x01
def Op.rxBuf : Nat := 0x02
def Op.cntPage : Nat := 0x03
def Op.omciTx : Nat := 0x04
def Op.channelMode : Nat := 0x10
def Op.rssiArm : Nat := 0x11
def Op.modAccess : Nat := 0x12
def Op.allowWrite : Nat := 0x13
def Op.allowErase : Nat := 0x14
def Op.recordForget : Nat := 0x15
def Op.termDeactivate : Nat := 0x16
def Op.termDisable : Nat := 0x17
def Op.termEnableSn : Nat := 0x18
def Op.termRelease : Nat := 0x19
def Op.ploamSend : Nat := 0x1A
def Op.xgemPortSet : Nat := 0x1B
def Op.allocSet : Nat := 0x20
def Op.allocClear : Nat := 0x21
def Op.termProfile : Nat := 0x22
def Op.coopAnnounce : Nat := 0x23
def Op.termMove : Nat := 0x24
def Op.termMoveAbort : Nat := 0x25
def Op.svcSet : Nat := 0x30
def Op.svcLearn : Nat := 0x31
def Op.svcMapUp : Nat := 0x32
def Op.svcMatchAdd : Nat := 0x33
def Op.svcMatchDel : Nat := 0x34
def Op.ruleWrite : Nat := 0x35
def Op.rsetWrite : Nat := 0x36
def Op.indirWrite : Nat := 0x37
def Op.fwdInsert : Nat := 0x38
def Op.fwdDelete : Nat := 0x39
def Op.fwdSearch : Nat := 0x3A
def Op.fwdMove : Nat := 0x3B
def Op.fwdNext : Nat := 0x3C
def Op.fwdFlush : Nat := 0x3D
def Op.swQprof : Nat := 0x40
def Op.mcGroupSet : Nat := 0x41
def Op.mcMemberWrite : Nat := 0x42
def Op.meterSet : Nat := 0x43
def Op.shaperSet : Nat := 0x44
def Op.schedSet : Nat := 0x45
def Op.cbsSet : Nat := 0x46
def Op.gclSet : Nat := 0x47
def Op.kekSet : Nat := 0x50
def Op.keyWrite : Nat := 0x51
def Op.keyErase : Nat := 0x52
def Op.keyQuery : Nat := 0x53
def Op.ponKeySet : Nat := 0x54
def Op.sealSet : Nat := 0x55
def Op.sealPhase : Nat := 0x56
def Op.sealEpSet : Nat := 0x57
def Op.sealEpDel : Nat := 0x58
def Op.macsecTxSet : Nat := 0x59
def Op.macsecRxSet : Nat := 0x5A
def Op.megSet : Nat := 0x60
def Op.mepSet : Nat := 0x61
def Op.mepDel : Nat := 0x62
def Op.timeSet : Nat := 0x63
def Op.todQuery : Nat := 0x64

/-- The opcodes of Table 4. -/
def opcodes : List Nat := [0x00, 0x01, 0x02, 0x03, 0x04, 0x10, 0x11, 0x12, 0x13, 0x14, 0x15, 0x16, 0x17, 0x18, 0x19, 0x1A, 0x1B, 0x20, 0x21, 0x22, 0x23, 0x24, 0x25, 0x30, 0x31, 0x32, 0x33, 0x34, 0x35, 0x36, 0x37, 0x38, 0x39, 0x3A, 0x3B, 0x3C, 0x3D, 0x40, 0x41, 0x42, 0x43, 0x44, 0x45, 0x46, 0x47, 0x50, 0x51, 0x52, 0x53, 0x54, 0x55, 0x56, 0x57, 0x58, 0x59, 0x5A, 0x60, 0x61, 0x62, 0x63, 0x64]

/-- Is an opcode in Table 4 (R435, check 1)? -/
def opcodeKnown (op : Nat) : Bool := opcodes.contains op

end Sys2Proof.Machine
end

