-- ==== Sys2Proof/Machine/TmState.lean ====
section
/-! DEFINITION. Machine/TmState.lean: the state of the traffic manager (10). Token counts are in 1/65,536 byte. -/

namespace Sys2Proof.Machine

/-- A meter record (10 Table 2). -/
structure Meter where
  valid : Bool := false
  mode : Bool := false
  cf : Bool := false
  yact : Nat := 0
  ract : Bool := false
  adj : Int := 0
  cir : Nat := 0
  cbs : Nat := 0
  eir : Nat := 0
  ebs : Nat := 0
  ylim : Nat := 0
  deriving DecidableEq, Repr

/-- The buckets of a meter: committed, excess or peak, and the core cycle of the last refill (R279). -/
structure MeterDyn where
  tc : Nat := 0
  te : Nat := 0
  last : Nat := 0
  deriving DecidableEq, Repr

/-- A shaper record (10 Table 3). -/
structure Shaper where
  en : Bool := false
  weight : Nat := 1
  rate : Nat := 0
  burst : Nat := 0
  rate2 : Nat := 0
  burst2 : Nat := 0
  deriving DecidableEq, Repr

/-- The buckets of a shaper and the core cycle of their last refill (R283). -/
structure ShaperDyn where
  tok : Int := 0
  tok2 : Int := 0
  last : Nat := 0
  deriving DecidableEq, Repr

/-- LEVEL and WEIGHT of a class of a channel or of a queue of a port (R285, R291). -/
structure Sched where
  level : Nat := 0
  weight : Nat := 1
  deriving DecidableEq, Repr

/-- A credit-based shaper: its record (R293) and its credit (R292). -/
structure Cbs where
  en : Bool := false
  i : Nat := 0
  hi : Nat := 0
  lo : Nat := 0
  credit : Int := 0
  last : Nat := 0
  /-- The frames being sent: the core cycle at which the last of them ends, and the credit still to fall until then. -/
  sendTo : Nat := 0
  fall : Int := 0
  deriving DecidableEq, Repr

/-- A gate control list (10 Table 4): base in presented ns, cycle in ns, entries (gate states, interval in ns). -/
structure Gcl where
  base : Nat := 0
  cycle : Nat := 0
  entries : List (Nat × Nat) := []
  deriving DecidableEq, Repr

/-- The state of a target's gates beside its operational list (R294, R296): the list that waits for its change point, with
the instant of its GCL_SET in 1/256 ticks (no entries: it removes the list); the entry in force. -/
structure Gates where
  pending : Option (Gcl × Nat) := none
  entry : Nat := 0
  /-- After standby: the presented time at which the list restarts (10 Table 6). -/
  startAt : Option Int := none
  deriving DecidableEq, Repr

/-- What the SHAPER_SETs, SCHED_SETs and CBS_SETs of one core cycle replaced: a pick in that cycle uses it (R285). -/
structure TmOld where
  cycle : Nat := 0
  recs : List (Nat × Shaper) := []
  buckets : List (Nat × ShaperDyn) := []
  sched : List (Nat × Sched) := []
  deficits : List (Nat × Int) := []
  cbs : List (Nat × Cbs) := []
  deriving DecidableEq, Repr

/-- The dynamic state of the traffic manager (10). Shapers are keyed by kind and target: 2^20 kind + target. -/
structure TmSt where
  meters : Tab MeterDyn := []
  shapers : Tab ShaperDyn := []
  /-- Terminal contexts whose queue sets are held: their shapers' buckets stand still (R289). -/
  held : List Nat := []
  /-- DWRR deficits, by the key of the item. -/
  deficits : Tab Int := []
  /-- The item a DWRR group served last, by the key of the group; committed rounds by channel at 2^30 + c. -/
  served : Tab Nat := []
  /-- Class map of each port: key 8 k + class (R290). -/
  maps : Tab Nat := []
  /-- LEVEL and WEIGHT: ports at 32 k + n, channels at 4096 + 8 c + class. -/
  sched : Tab Sched := []
  cbs : Tab Cbs := []
  /-- Gate lists: ports at k, channels at 64 + c. -/
  gates : Tab Gates := []
  old : TmOld := {}
  deriving DecidableEq, Repr

end Sys2Proof.Machine
end

