-- ==== Sys2Proof/Machine/UplState.lean ====
section
/-! DEFINITION. Machine/UplState.lean: the state of the uplink ports and their lanes (13). -/

namespace Sys2Proof.Machine

/-- `SDS_LSTATj.STATE` (13 Table 13). -/
inductive LaneState where
  | kickstand | adapting | running | freewheel
  deriving DecidableEq, Repr

/-- One uplink lane (13 Table 13, R370). -/
structure Lane where
  state : LaneState := .kickstand
  lock : Bool := false
  los : Bool := false
  lol : Bool := false
  eyeH : Nat := 0
  eyeV : Nat := 0
  degrade : Bool := false
  fail : Bool := false
  /-- Consecutive sweeps below EYE_FAIL, and at or above EYE_DEG. -/
  low : Nat := 0
  good : Nat := 0
  deriving DecidableEq, Repr

/-- One logical port (13 Table 11, R359 to R368). -/
structure UplPort where
  lanes : List Lane := []
  /-- The link is up. -/
  up : Bool := false
  refuse : Nat := 0
  cause : Nat := 0
  lf : Bool := false
  rf : Bool := false
  /-- Lanes have begun to leave Kickstand and do not transmit yet (step 1 of 13 Table 3). -/
  leaving : Option Nat := none
  deskewed : Bool := false
  /-- Since when the conditions of R360 hold. -/
  holdSince : Option Nat := none
  /-- The hold is over; link-up waits for R271. -/
  held : Bool := false
  /-- Since when the port is down and enabled, for the recovery cycle (R362). -/
  downSince : Nat := 0
  /-- Transmit Freewheel (R366): since when LPI is sent. -/
  txFw : Option Nat := none
  /-- Receive Freewheel (R368): since when, and the lanes whose signal is away. -/
  rxFw : Option Nat := none
  rxFwLanes : List Nat := []
  /-- Remote Fault is being sent (R356). -/
  rfSent : Bool := false
  /-- When a frame last was eligible (R366). -/
  lastEligible : Nat := 0
  deriving DecidableEq, Repr

end Sys2Proof.Machine
end

