-- ==== Sys2Proof/Machine/State.lean ====
section
/-! DEFINITION. Machine/State.lean: the whole state of the block, the reasons a step can stop, and the state after reset. -/

namespace Sys2Proof.Machine

/-- What a command puts out: the model's own record of its effects outside the block, of the last command only. -/
inductive Out where
  /-- The value that a register read returns. -/
  | read (value : Nat)
  /-- A write to host memory: results, receive buffers, counter pages. -/
  | dma (addr : Nat) (data : List Byte)
  /-- A completion entry (16 Table 3), at its address; its bytes are `Out.memory`'s. -/
  | completion (ring idx addr status result cookie : Nat) (phase more : Bool)
  /-- An event entry (16 Table 8), at its address; its bytes are `Out.memory`'s. The 49th byte of a PLOAM_RX body is the one in byte 3 (R445). -/
  | event (ring idx addr code source tick : Nat) (phase lost : Bool) (body : List Byte)
  /-- An MSI-X message: function (0 the PF) and vector. -/
  | msix (fn vec : Nat)
  /-- A downstream PHY frame begins (R45 to R48): channel, superframe counter, PON-ID, PSync, BWmap, PLOAMd messages. -/
  | phyFrame (c sfc ponId psync : Nat) (map : GMap) (ploam : List (List Byte))
  /-- An XGEM frame of the FS payload: bytes free before it, header fields (the PLI counts the payload's bytes before the padding) and
payload as sent. -/
  | xgem (c space pli portId keyIdx opts : Nat) (last : Bool) (payload : List Byte)
  /-- Idle XGEM frames of a channel's FS payload (R48): bytes free before them, and how many bytes they fill. -/
  | idle (c space size : Nat)
  /-- A frame leaves an uplink port, with its FCS to be added by the MAC. -/
  | uplink (p : Nat) (frame : List Byte)
  /-- A frame to the management port (switch port 265). -/
  | mgmtFrame (frame : List Byte)
  /-- A BRST pulse of a channel (R67), from and to in units. -/
  | brst (c from_ to_ : Nat)
  /-- An RSSI_TRIG pulse (R69): start in units and width in ns. -/
  | rssi (c from_ width : Nat)
  /-- The transmit-disable bit of a channel changes (R376). -/
  | txDisable (c : Nat) (on : Bool)
  | ppsOut (on : Bool)
  /-- THERMTRIPn is driven low (R525). -/
  | thermTrip
  /-- An access to an optic's management memory over its sideband chain (R377). -/
  | modAccess (c : Nat) (write : Bool) (page address length : Nat) (data : List Byte)
  /-- A trace record, at its place in device memory or on a trace-out lane (R470, R471). -/
  | trace (lane : Option Nat) (record : List Byte)
  /-- A mailbox reply (R463): SEQ, STATUS and body. -/
  | reply (seq status : Nat) (body : List Byte)
  /-- The SMBus slave acknowledges or does not (R469). -/
  | smbus (ack : Bool)
  /-- What the JTAG port drives: IDCODE, or the boundary register onto the balls (R472). -/
  | jtag (value : Nat) (balls : List Bool)
  /-- LPI, electrical idle or the training burst of a port's transmitter (R366, R367). -/
  | lineIdle (p : Nat) (lpi training : Bool)
  /-- A port begins or ends to send Remote Fault (R356). -/
  | remoteFault (p : Nat) (on : Bool)
  deriving DecidableEq, Repr

/-- The tables of which device memory holds a shadow (19 Table 2), keyed by line. -/
structure CtxTables where
  /-- Classifier rules: key 24,576 slice + rule. -/
  rules : Tab Rule := []
  /-- Upstream map entries, by device-wide port context. -/
  mapUp : Tab MapUp := []
  xgem : Tab XgemPort := []
  /-- SLA records: key 1,024 channel + allocation context. -/
  sla : Tab Sla := []
  /-- Meters: key 32,768 slice + meter. -/
  meters : Tab Meter := []
  services : Tab SvcCtx := []
  /-- Downstream match entries: key 8 (4,096 slice + set) + way (R213). -/
  matches_ : Tab Match_ := []
  /-- Shapers: key 2^20 KIND + TARGET. -/
  shapers : Tab Shaper := []
  /-- Seal endpoints: key 4 set + way. -/
  endpoints : Tab SealEp := []
  groups : Tab McGroup := []
  members : Tab McMember := []
  megs : Tab Meg := []
  meps : Tab Mep := []
  /-- The allow-list: key 8 set + way. -/
  allow : Tab AllowEntry := []
  /-- Rule set descriptors: key 64 slice + set. -/
  ruleSets : Tab RuleSet := []
  /-- Indirection tables: key 512 (64 slice + group) + entry. -/
  indir : Tab Nat := []
  /-- Operational gate control lists (no entries: none), by target as `TmSt.gates`. -/
  gcls : Tab Gcl := []
  /-- MACsec transmit SCs, by logical port, and receive SCs. -/
  msecTx : Tab MsecTx := []
  msecRx : Tab MsecRx := []
  deriving DecidableEq, Repr

/-- The state of the block. -/
structure State where
  /-- The commands that wait, first in, first out: the model's own field. -/
  pending : List Instr := []
  /-- What the last command put out: the model's own field. -/
  outs : List Out := []
  /-- Counts the free values taken so far: the model's own field. -/
  free : Nat := 0
  time : TimeSt := {}
  life : Life := {}
  host : HostSt := {}
  /-- Register words that differ from their reset values, by `regKey`. -/
  regs : Tab Word := []
  flt : FltSt := {}
  cnt : CntSt := {}
  ctx : CtxTables := {}
  ctxShadow : CtxTables := {}
  /-- Terminal records, by allow-list entry. -/
  records : Tab TermRec := []
  /-- Serial numbers whose records are suppressed (R128). -/
  forgotten : List Nat := []
  chans : Tab PonCh := []
  /-- Terminal contexts: key 256 channel + index. -/
  terms : Tab Term := []
  gnt : Tab GntCh := []
  /-- The number of the last PHY frame that has started (R45). -/
  phyFrame : Nat := 0
  /-- Upstream SDUs being reassembled, by device-wide port context. -/
  sdus : Tab Sdu := []
  /-- Dynamic state of allocation contexts: key 1,024 channel + context. -/
  allocs : Tab AllocDyn := []
  /-- Rotation pointers of the trees' activation caps (R137). -/
  treeRot : Tab Nat := []
  drl : DrlSt := {}
  slices : Tab Slice := []
  fwd : FwdSt := {}
  sw : SwSt := {}
  tm : TmSt := {}
  cph : CphSt := {}
  upl : Tab UplPort := []
  hbm : HbmSt := {}
  cxm : CxmSt := {}
  mgt : MgtSt := {}
  deriving DecidableEq, Repr

/-- The faults of the block. No command of this model raises one: every effect that the spec gives is a next state, and no
command reaches an address that the spec says does not exist without a rule that says what then happens. The one constructor
stands for a command that no rule covers; nothing raises it (safe). -/
inductive Fault where
  | none
  deriving DecidableEq, Repr

/-- The refusals of the block. -/
inductive Refusal where
  /-- A command whose meaning is not written yet; raised by exec's refused arms only (safe). -/
  | notModelled (mnemonic : String)
  deriving DecidableEq, Repr

/-- The state right after reset: PORn has just risen (R402, R510, 20 Table 3). -/
def State.reset : State := {}

end Sys2Proof.Machine
end

