-- ==== Sys2Proof/Machine/Ops.lean ====
section
/-! DEFINITION. Machine/Ops.lean: the named operations that every meaning uses: time, registers, counters, interrupts,
events, the log, trace, and the reports of the fault monitor. -/

namespace Sys2Proof.Machine

/-! ## Time -/

/-- One nanosecond, microsecond, millisecond and second, and one tick (R402: 125,000 / 19,440 ns), in units. -/
def nsU : Nat := 1944
def usU : Nat := 1944000
def msU : Nat := 1944000000
def secU : Nat := 1944000000000
def tickU : Nat := 12500
/-- One core cycle (1.6 GHz). -/
def cycleU : Nat := 1215

/-- Presented time P of an instant in 1/256 ticks, in 2^-16 ns, truncated (R405). -/
def TimeSt.present (ts : TimeSt) (t256 : Int) : Int :=
  ts.off + ((t256 - (ts.tA : Int) * 256) * (12500 * 65536) * ((2 ^ 48 : Nat) + ts.adj)) / ((256 * 1944 * 2 ^ 48 : Nat) : Int)

/-- The current instant in 1/256 ticks. -/
def TimeSt.now256 (ts : TimeSt) : Nat := ts.tick * 256 + ts.tickFrac * 256 / 12500

/-- The presented time of the current instant. -/
def TimeSt.presentNow (ts : TimeSt) : Int := ts.present ts.now256

/-- SEC, NS and SUB of a presented time (R405). -/
def splitTime (p : Int) : Nat × Nat × Nat :=
  let n := p.toNat
  (n / (1000000000 * 65536) % 2 ^ 64, n / 65536 % 1000000000, n % 65536)

/-- Time moves on to an instant (never back); the tick counter counts while REFCLK_PON runs and PORn is high (R402, R403). -/
def TimeSt.advance (ts : TimeSt) (por : Bool) (t : Nat) : TimeSt :=
  let now := max ts.now t
  let frac := ts.tickFrac + (now - ts.now)
  if ts.refOk && !por then
    { ts with now := now, tick := (ts.tick + frac / tickU) % 2 ^ 80, tickFrac := frac % tickU }
  else { ts with now := now }

/-- What every command does first: time moves on to its arrival, and the record of outputs starts afresh. -/
def State.begin (s : State) (t : Nat) : State :=
  { s with outs := [], time := s.time.advance s.life.por t }

/-- An output. -/
def State.emit (s : State) (o : Out) : State := { s with outs := s.outs ++ [o] }

/-- A free value, and the state that has taken it. -/
def State.takeFree (s : State) : Nat × State := (Config.freeValue s.free, { s with free := s.free + 1 })

/-- A token bucket brought to the present: `rate` events a second, up to `burst`. -/
def Bucket.refill (b : Bucket) (rate burst now : Nat) : Bucket :=
  { num := min burst (b.num + (rate * now / secU - rate * b.last / secU)), last := now }

/-- Takes one token, where there is one. -/
def Bucket.take (b : Bucket) (rate burst now : Nat) : Bool × Bucket :=
  let r := b.refill rate burst now
  if r.num = 0 then (false, r) else (true, { r with num := r.num - 1 })

/-- The core cycle of the present instant. -/
def State.cycle (s : State) : Nat := s.time.now / cycleU

/-- An instant lies in the running core cycle. -/
def State.thisCycle (s : State) : Option Nat → Bool
  | some t => t / cycleU == s.cycle
  | none => false

/-! ## Registers -/

/-- The stored word of a register: its BAR0 offset and the instance that its window selects. -/
def State.reg (s : State) (off : Nat) (inst : Nat := 0) : Word := s.regs.get regResetKey (regKey off inst)

/-- The register with a word stored. -/
def State.setReg (s : State) (off : Nat) (v : Word) (inst : Nat := 0) : State :=
  { s with regs := s.regs.set regResetKey (regKey off inst) v }

/-- A field of a stored register. -/
def State.fld (s : State) (off hi lo : Nat) (inst : Nat := 0) : Nat := field (s.reg off inst) hi lo

/-- A one-bit field. -/
def State.flg (s : State) (off i : Nat) (inst : Nat := 0) : Bool := flag (s.reg off inst) i

/-- The register with bit i set or cleared. -/
def State.setBit (s : State) (off i : Nat) (b : Bool) (inst : Nat := 0) : State :=
  let w := (s.reg off inst).toNat
  s.setReg off (BitVec.ofNat 32 (if b then Nat.lor w (2 ^ i) else w - (if bit w i then 2 ^ i else 0))) inst

/-! ## Counters -/

/-- The key of a local counter: kind, object, index. -/
def Ctr.key (c : Ctr) (obj : Nat) : Nat := c.kind * 2 ^ 40 + obj * 2 ^ 8 + c.idx

/-- The local count of a counter. -/
def State.count (s : State) (c : Ctr) (obj : Nat) : Nat := s.cnt.local_.get (fun _ => 0) (c.key obj)

/-- A counter counts n: 48 bits, saturating (R475). -/
def State.bump (s : State) (c : Ctr) (obj : Nat) (n : Nat := 1) : State :=
  { s with cnt := { s.cnt with local_ := s.cnt.local_.upd (fun _ => 0) (c.key obj) (fun v => min (v + n) (2 ^ 48 - 1)) } }

/-! ## Contexts -/

/-- A line of the shadowed tables is written: the table, and its shadow while device memory is available (R255, R493). A
shadow write without device memory is dropped and counted (R398). -/
def State.ctxWrite (s : State) (f : CtxTables → CtxTables) : State :=
  if s.cxm.link then { s with ctx := f s.ctx, ctxShadow := f s.ctxShadow }
  else ({ s with ctx := f s.ctx }).bump .devDeviceMemoryWritesDropped 0

def State.ch (s : State) (c : Nat) : PonCh := s.chans.get (fun _ => {}) c
def State.setCh (s : State) (c : Nat) (v : PonCh) : State := { s with chans := s.chans.set (fun _ => {}) c v }
def State.updCh (s : State) (c : Nat) (f : PonCh → PonCh) : State := s.setCh c (f (s.ch c))

/-- The device-wide number of terminal context i of channel c (R25). -/
def ctxNo (c i : Nat) : Nat := 256 * c + i
def State.term (s : State) (c i : Nat) : Term := s.terms.get (fun _ => {}) (ctxNo c i)
def State.setTerm (s : State) (c i : Nat) (v : Term) : State := { s with terms := s.terms.set (fun _ => {}) (ctxNo c i) v }
def State.updTerm (s : State) (c i : Nat) (f : Term → Term) : State := s.setTerm c i (f (s.term c i))

def State.gntCh (s : State) (c : Nat) : GntCh := s.gnt.get (fun _ => {}) c
def State.setGnt (s : State) (c : Nat) (v : GntCh) : State := { s with gnt := s.gnt.set (fun _ => {}) c v }
def State.updGnt (s : State) (c : Nat) (f : GntCh → GntCh) : State := s.setGnt c (f (s.gntCh c))

def State.alloc (s : State) (c j : Nat) : AllocDyn := s.allocs.get (fun _ => {}) (1024 * c + j)
def State.setAlloc (s : State) (c j : Nat) (v : AllocDyn) : State :=
  { s with allocs := s.allocs.set (fun _ => {}) (1024 * c + j) v }
def State.slaOf (s : State) (c j : Nat) : Sla := s.ctx.sla.get (fun _ => {}) (1024 * c + j)

def State.slice (s : State) (sl : Nat) : Slice := s.slices.get (fun _ => {}) sl
def State.setSlice (s : State) (sl : Nat) (v : Slice) : State := { s with slices := s.slices.set (fun _ => {}) sl v }
def State.updSlice (s : State) (sl : Nat) (f : Slice → Slice) : State := s.setSlice sl (f (s.slice sl))

def State.port (s : State) (p : Nat) : UplPort := s.upl.get (fun _ => {}) p
def State.setPort (s : State) (p : Nat) (v : UplPort) : State := { s with upl := s.upl.set (fun _ => {}) p v }
def State.updPort (s : State) (p : Nat) (f : UplPort → UplPort) : State := s.setPort p (f (s.port p))

def State.service (s : State) (v : Nat) : SvcCtx := s.ctx.services.get (fun _ => {}) v
def State.keySlot (s : State) (k : Nat) : KeySlot := s.cph.keys.get (fun _ => {}) k
def State.setKeySlot (s : State) (k : Nat) (v : KeySlot) : State :=
  { s with cph := { s.cph with keys := s.cph.keys.set (fun _ => {}) k v } }

/-! ## Rings: what events need -/

/-- Fields of `HIF_RINGn_CFG` (16 Table 14). -/
def State.ringEn (s : State) (r : Nat) : Bool := s.flg (Reg.hifRingCfg r) 31
def State.ringType (s : State) (r : Nat) : Nat := s.fld (Reg.hifRingCfg r) 30 28
def State.ringBind (s : State) (r : Nat) : Nat := s.fld (Reg.hifRingCfg r) 23 16
def State.ringSize (s : State) (r : Nat) : Nat := 2 ^ s.fld (Reg.hifRingCfg r) 15 11
def State.ringBase (s : State) (r : Nat) : Nat := (s.reg (Reg.hifRingBaseHi r)).toNat * 2 ^ 32 + (s.reg (Reg.hifRingBaseLo r)).toNat
def State.ringCmpl (s : State) (r : Nat) : Nat := (s.reg (Reg.hifRingCmplHi r)).toNat * 2 ^ 32 + (s.reg (Reg.hifRingCmplLo r)).toNat

def State.ring (s : State) (r : Nat) : Ring := s.host.rings.get (fun _ => {}) r
def State.setRing (s : State) (r : Nat) (v : Ring) : State :=
  { s with host := { s.host with rings := s.host.rings.set (fun _ => {}) r v } }
def State.updRing (s : State) (r : Nat) (f : Ring → Ring) : State := s.setRing r (f (s.ring r))

/-- VF v's ring window holds ring r (R450). -/
def State.vfHolds (s : State) (r v : Nat) : Bool :=
  let b := s.fld (Reg.hifVfRing (v - 1)) 9 0
  decide (b ≤ r) && decide (r < b + s.fld (Reg.hifVfRing (v - 1)) 26 16)

/-- The function that owns a ring: 0 the PF, or the VF whose window holds it, in PCIe mode (R427, R450). -/
def State.ringOwner (s : State) (r : Nat) : Nat :=
  if s.host.cxl then 0 else (((List.range 63).map (· + 1)).find? (s.vfHolds r)).getD 0

/-- Is a ring enabled and running? -/
def State.ringRuns (s : State) (r : Nat) : Bool := (s.ring r).state == .running

/-- PHASE of entry k of a ring of a size: 1 on even passes (R429). -/
def phaseOf (size k : Nat) : Bool := k / size % 2 == 0

/-- Difference of two 32-bit indices. -/
def idxDiff (a b : Nat) : Nat := (a + 2 ^ 32 - b % 2 ^ 32) % 2 ^ 32

/-! ## Interrupts -/

/-- The message state of an interrupt group. -/
def State.intGroup (s : State) (g : Nat) : IntGroup := s.host.groups.get (fun _ => {}) g
def State.setIntGroup (s : State) (g : Nat) (v : IntGroup) : State :=
  { s with host := { s.host with groups := s.host.groups.set (fun _ => {}) g v } }

/-- May a group send messages now: in standby only groups 2, 3 and 4 (R523). -/
def State.groupDelivers (s : State) (g : Nat) : Bool :=
  !s.host.inReset && s.flg (Reg.hifIntv g) 31 && (s.life.pwr == .running || g == 2 || g == 3 || g == 4)

/-- A message of an interrupt group is due: sent now, or owed at the end of the running microsecond (R449). -/
def State.groupMessage (s : State) (g : Nat) : State :=
  if !s.groupDelivers g then s
  else
    let held := match (s.intGroup g).last with
      | some l => decide (s.time.now < l + usU)
      | none => false
    if held then s.setIntGroup g { s.intGroup g with owed := true }
    else (s.setIntGroup g { last := some s.time.now, owed := false }).emit (.msix 0 (s.fld (Reg.hifIntv g) 10 0))

/-- Interrupt source i of group g occurs (R449). While the host interface is in reset its registers stay at their reset
values (log entry 14). -/
def State.raise (s : State) (g i : Nat) : State :=
  if s.host.inReset then s
  else
    let s1 := s.setBit (Reg.hifInt g) i true
    if s.flg (Reg.hifInt g) (16 + i) then s1 else s1.groupMessage g

/-- The interrupt group of the slice that serves a channel (R23, 16 Table 10). -/
def chanGroup (c : Nat) : Nat := 6 + c / 24

/-- The slice of an uplink logical port in the arrangement in force (R24). -/
def State.lanesPerPort (s : State) : Nat := 8 / 2 ^ s.fld Reg.uplGcfg 1 0
def State.portSlice (s : State) (p : Nat) : Nat := p * s.lanesPerPort / 8

/-- Sends the message of a ring's vector, to the function that owns the ring (R448). -/
def State.ringMessage (s : State) (r : Nat) : State :=
  (s.updRing r (fun q => { q with unsig := 0, firstUnsig := none })).emit
    (.msix (s.ringOwner r) (s.fld (Reg.hifRingCfg r) 10 0))

/-- One entry was written to a ring: coalescing by count (R448). -/
def State.ringSignal (s : State) (r : Nat) : State :=
  let q := s.ring r
  let n := q.unsig + 1
  let s1 := s.setRing r { q with unsig := n, firstUnsig := some (q.firstUnsig.getD s.time.now) }
  let cnt := s.fld (Reg.hifRingCoal r) 15 0
  if cnt != 0 && n ≥ cnt then s1.ringMessage r else s1

/-! ## Events -/

/-- An event entry is written to the EVENT ring that its code's route names, or discarded and counted (R446). -/
def State.eventWrite (s : State) (e : HeldEvent) : State :=
  if s.host.inReset then s.bump .xEventReset 0
  else
    let r := s.fld (Reg.hifEvtrt e.code) 9 0
    if !(s.flg (Reg.hifEvtrt e.code) 31 && s.ringType r == 3 && s.ringRuns r) then
      (((s.bump .xEventCode e.code).bump .devEventsDiscardedByRoute 0)).raise 0 4
    else
      let q := s.ring r
      let size := s.ringSize r
      if idxDiff q.head q.idx ≥ size then
        (((s.setRing r { q with lost := true }).bump .xEventRing r).bump .devEventsDiscardedByFullRing 0).raise 0 4
      else
        ((s.setRing r { q with head := (q.head + 1) % 2 ^ 32, lost := false }).emit
          (.event r q.head (s.ringBase r + 64 * (q.head % size)) e.code e.source e.tick
            (phaseOf size q.head) q.lost e.body)).ringSignal r

/-- An event joins those that follow the completion of a fetched command (R437). -/
def Slot.hold (id : Nat) (e : HeldEvent) (x : Slot) : Slot := if x.id = id then { x with events := x.events ++ [e] } else x

/-- An event caused by a command: it waits for that command's completion while that is not yet written (R437). -/
def State.eventOf (s : State) (id : Nat) (e : HeldEvent) : State :=
  if s.host.slots.any (fun x => x.id == id) then { s with host := { s.host with slots := s.host.slots.map (Slot.hold id e) } }
  else s.eventWrite e

/-- An event is raised; one that a command's effect causes follows the command's completion (R437, R446). -/
def State.event (s : State) (code source : Nat) (body : List Byte) : State :=
  let e : HeldEvent := { code := code, source := source, tick := s.time.tick % 2 ^ 64, body := body }
  match s.host.current with
  | some id => s.eventOf id e
  | none => s.eventWrite e

/-! ## Trace and log -/

/-- The trace region in GiB: `CXM_TRACE.SIZE`, cut where it would leave no host region (14 Table 12). -/
def State.traceGiB (s : State) : Nat := min (s.fld Reg.cxmTrace 9 0) (s.cxm.cap - 4)

/-- A record on its trace-out lane (R471): a start block of type 0x78 with the record's number in its first 4 bytes, then four data blocks.
The start block's other three bytes the spec does not give. -/
def traceLine (i : Nat) (rec_ : List Byte) : List Byte := 0x78 :: toLe 4 i ++ (List.range 3).map Config.traceFill ++ rec_

/-- A trace record of a type (R470, R471): kept where `MGT_TRC` selects it, the unit's rate allows it and its destination has room. -/
def State.trace (s0 : State) (type obj : Nat) (body : List Byte) : State :=
  let dest := s0.fld Reg.mgtTrc 1 0
  if dest = 0 ∨ !s0.flg Reg.mgtTrc (7 + type) then s0
  else
    let r := s0.mgt.traceTokens.take 200000000 200000000 s0.time.now
    let s := { s0 with mgt := { s0.mgt with traceTokens := r.2 } }
    if !r.1 then ({ s with mgt := { s.mgt with traceLost := true } }).bump .mgtTraceRecordsDropped 0
    else
    let rec_ := toLe 6 s.time.tick ++ toLe 1 type ++ toLe 1 (b2n s.mgt.traceLost) ++ toLe 4 obj ++ (body ++ List.replicate 20 0).take 20
    let room := s.traceGiB * 2 ^ 30 / 32
    let n := s.mgt.traceCount
    if dest = 3 then
      ({ s with mgt := { s.mgt with traceCount := n + 1, traceLost := false } }).emit (.trace (some (n % 4)) (traceLine n rec_))
    else if room = 0 ∨ !s.cxm.link then
      ({ s with mgt := { s.mgt with traceLost := true } }).bump .mgtTraceRecordsDropped 0
    else if dest = 2 ∧ n ≥ room then
      let s1 := ({ s with mgt := { s.mgt with traceLost := true, traceFull := true } }).bump .mgtTraceRecordsDropped 0
      if s.mgt.traceFull then s1 else s1.raise 2 5
    else
      ({ s with mgt := { s.mgt with traceCount := n + 1, traceLost := false } }).emit (.trace none rec_)

/-- Entries of the log ring (R467). -/
def logSize : Nat := 8192

/-- A log entry is written (R467, R468); SEV 2 and 3 go to the flash log ring too. -/
def State.logWrite (s : State) (code : LogCode) (sev : Nat) (data : List Byte) : State :=
  let e : LogEntry := { tick := s.time.tick % 2 ^ 64, seq := s.mgt.logSeq, code := code, sev := sev, lost := s.mgt.heldLost, data := data }
  let log := s.mgt.log ++ [e]
  let seq := (s.mgt.logSeq + 1) % 2 ^ 32
  let m := { s.mgt with
    log := log.drop (log.length - logSize), logSeq := seq, heldLost := false,
    flashLog := if sev ≥ 2 then (s.mgt.flashLog ++ [e]).drop (s.mgt.flashLog.length + 1 - 32768) else s.mgt.flashLog,
    logCopied := if s.cxm.link then seq else s.mgt.logCopied }
  let s1 := ({ s with mgt := m }).bump .mgtLogEntries 0
  if idxDiff seq s.mgt.logRead = logSize - 1024 then s1.raise 2 4 else s1

/-- A report is handed to the Tandem for the log: held, up to 256, while the firmware is being switched (R461), and while it
is not running. -/
def State.logReport (s : State) (code : LogCode) (sev : Nat) (data : List Byte) : State :=
  if s.mgt.ready && !s.mgt.switching then s.logWrite code sev data
  else if s.mgt.held.length < 256 then { s with mgt := { s.mgt with held := s.mgt.held ++ [(code, sev, data)] } }
  else ({ s with mgt := { s.mgt with heldLost := true } }).bump .mgtLogEntriesLost 0

/-! ## Reports of the fault monitor -/

/-- SITE of a report (19 Table 4). -/
def Site.code (x : Site) : Nat := x.kind.val * 4096 + x.inst % 4096

/-- Sites, by unit kind (19 Table 4). -/
def siteSlice (sl : Nat) : Nat := sl
def siteChannel (c : Nat) : Nat := 0x1000 + c
def siteCluster (n : Nat) : Nat := 0x2000 + n
def siteHub : Nat := 0x3000
def siteStack (k : Nat) : Nat := 0x4000 + k
def siteCxl : Nat := 0x5000
def siteHost : Nat := 0x6000
def siteTime : Nat := 0x7000
def siteTandem : Nat := 0x8000
def siteMonitor : Nat := 0x9000
def sitePort (p : Nat) : Nat := 0xA000 + p
def siteUpdate : Nat := 0xB000

/-- SEV of a report; a permanent fault is critical (R503). -/
def Report.sev (r : Report) : Nat := if r.permanent then 3 else Config.reportSev r.cause r.exit_ % 4

/-- FLAGS of a report: exit, recovered, PERMANENT, LOST (19 Table 4). -/
def Report.flags (r : Report) (lost : Bool) : Nat := b2n r.exit_ + 2 * b2n r.recovered + 4 * b2n r.permanent + 8 * b2n lost

/-- Body of a FAULT event (19 Table 4). -/
def Report.body (r : Report) (lost : Bool) : List Byte :=
  toLe 1 r.cls ++ toLe 1 r.sev ++ toLe 2 (Config.causeCode r.cause) ++ toLe 2 r.site ++ toLe 1 (r.flags lost) ++ toLe 1 0
    ++ toLe 4 r.obj2 ++ toLe 8 r.detect

/-- DATA of a report's log entry (19 Table 4). -/
def Report.logData (r : Report) (lost : Bool) : List Byte :=
  toLe 2 (Config.causeCode r.cause) ++ toLe 2 r.site ++ toLe 1 (r.flags lost) ++ toLe 3 0 ++ toLe 4 r.obj ++ toLe 4 r.obj2

/-- The report's FAULT event (R499); in standby it waits in the monitor's queue (R523). -/
def State.reportEvent (s : State) (r : Report) : State :=
  if s.life.pwr == .running then
    ({ s with flt := { s.flt with lost := false } }).event 0x70 r.obj (r.body s.flt.lost)
  else { s with flt := { s.flt with queue := s.flt.queue ++ [r] } }

/-- The monitor's queue is full (R500): reports are written at once but in standby, where they wait. -/
def State.monitorFull (s : State) : Bool := s.life.pwr != .running && decide (4096 ≤ s.flt.queue.length)

/-- One report on its paths (R499): interrupt, counter, event, log, trace. One that finds the queue full is discarded, counted
in class 14, and the next one written carries LOST (R500). -/
def State.reportOne (s : State) (r : Report) : State :=
  if s.monitorFull then ({ s with flt := { s.flt with lost := true } }).bump (.flt 14) 0
  else
  (((((s.raise 1 r.cls).bump (.flt r.cls) 0).reportEvent r).logReport (.report r.cls) r.sev (r.logData s.flt.lost))).trace 2 r.cls []

/-- A corrected error of a site was reported within the last second (R501). -/
def State.correctedLately (s : State) (site : Nat) : Bool :=
  match s.flt.corrected.get (fun _ => none) site with
  | some t => decide (s.time.now < t + secU)
  | none => false

/-- A corrected error is counted only: `FLT_CFG.CORR_RPT` is 0, or one of its site was reported within the last second
(R501). -/
def State.correctedOnly (s : State) (r : Report) : Bool :=
  r.cls == 0 && (!s.flg Reg.fltCfg 0 || s.correctedLately r.site)

/-- A detection of class 1, 3 or 12 joins its site's history; `FLT_CFG.PERM_N` of them within a second make the site
permanent, and fence a cipher cluster (R503). -/
def State.permanence (s : State) (r : Report) : State :=
  let n := s.fld Reg.fltCfg 15 8
  if !(r.cls == 1 || r.cls == 3 || r.cls == 12) then s
  else
    let hist := s.flt.history.filter (fun h => decide (s.time.now < h.2 + secU)) ++ [(r.site, s.time.now)]
    let s1 := { s with flt := { s.flt with history := hist } }
    if n != 0 && decide (n ≤ (hist.filter (fun h => h.1 == r.site)).length) && !s1.flt.permanent.contains r.site then
      let cl := if 0x2000 ≤ r.site ∧ r.site < 0x3000 then [r.site - 0x2000] else []
      ({ s1 with flt := { s1.flt with permanent := s1.flt.permanent ++ [r.site], fenced := s1.flt.fenced ++ cl } }).reportOne
        { r with permanent := true, cause := if cl.isEmpty then r.cause else .clusterFenced }
    else s1

/-- A detection is reported through the fault monitor (R499, R501, R503). -/
def State.report (s : State) (r0 : Report) : State :=
  let r := { r0 with detect := s.time.tick % 2 ^ 64 }
  if s.correctedOnly r then s.bump .xCorrected r.site
  else
    let s0 := if r.cls = 0 then
        { s with flt := { s.flt with corrected := s.flt.corrected.set (fun _ => none) r.site (some s.time.now) } }
      else s
    (s0.reportOne r).permanence r

end Sys2Proof.Machine
end

