-- ==== Sys2Proof/Machine/Gates.lean ====
section
/-! DEFINITION. Machine/Gates.lean: gate control lists (R294 to R297). Targets: logical port k at k, PON channel c at
64 + c. Presented times here count 2^-16 ns. -/

namespace Sys2Proof.Machine

/-- A presented nanosecond. -/
def nsP : Nat := 65536

def State.gatesOf (s : State) (target : Nat) : Gates := s.tm.gates.get (fun _ => {}) target
def State.setGates (s : State) (target : Nat) (g : Gates) : State :=
  { s with tm := { s.tm with gates := s.tm.gates.set (fun _ => {}) target g } }

/-- The stretches of one cycle, (states, duration, entry): entries with INTERVAL 0 skipped, cut at the cycle's end, the
last one held to it (R294). -/
def Gcl.stretches : List (Nat × Nat) → Nat → Nat → Option (Nat × Nat) → List (Nat × Nat × Nat)
  | [], _, left, last =>
    match last with
    | none => []
    | some (st, e) => if left = 0 then [] else [(st, left * nsP, e)]
  | (st, iv) :: es, i, left, last =>
    if iv = 0 then Gcl.stretches es (i + 1) left last
    else if left ≤ iv then (if left = 0 then [] else [(st, left * nsP, i)])
    else (st, iv * nsP, i) :: Gcl.stretches es (i + 1) (left - iv) (some (st, i))

/-- The stretches of a list's cycle. -/
def Gcl.cycleStretches (g : Gcl) : List (Nat × Nat × Nat) := Gcl.stretches g.entries 0 g.cycle none

/-- How far into its cycle a list is at a presented time. -/
def Gcl.phase (g : Gcl) (p : Int) : Nat := ((p - (g.base * nsP : Nat)) % ((g.cycle * nsP : Nat) : Int)).toNat

/-- The stretches from an offset on. -/
def dropTime : List (Nat × Nat × Nat) → Nat → List (Nat × Nat × Nat)
  | [], _ => []
  | (st, d, e) :: l, x => if x < d then (st, d - x, e) :: l else dropTime l (x - d)

/-- The entry in force at a presented time. -/
def Gcl.entryAt (g : Gcl) (p : Int) : Nat :=
  match dropTime g.cycleStretches (g.phase p) with
  | (_, _, e) :: _ => e
  | [] => 0

/-- How long gate q stays open from the head of a list of stretches. -/
def openRun (q : Nat) : List (Nat × Nat × Nat) → Nat
  | [] => 0
  | (st, d, _) :: l => if bit st q then d + openRun q l else 0

/-- Is gate q open in every stretch of the cycle: then it never closes (R295)? -/
def Gcl.neverCloses (g : Gcl) (q : Nat) : Bool := g.cycleStretches.all (fun x => bit x.1 q)

/-- The time from a presented time until gate q next closes; none: it never does. -/
def Gcl.openLeft (g : Gcl) (q : Nat) (p : Int) : Option Nat :=
  if g.neverCloses q then none
  else some (openRun q (dropTime g.cycleStretches (g.phase p) ++ g.cycleStretches))

/-- The longest run of open stretches that starts at any stretch. -/
def bestRun (q : Nat) : List (Nat × Nat × Nat) → Nat
  | [] => 0
  | x :: l => max (openRun q (x :: l)) (bestRun q l)

/-- The longest stretch of open time of gate q, across the cycle boundary too (R296); none: it never closes. -/
def Gcl.longestOpen (g : Gcl) (q : Nat) : Option Nat :=
  if g.neverCloses q then none else some (bestRun q (g.cycleStretches ++ g.cycleStretches))

/-- The first instant BASE + n CYCLE at or after a presented time (R296). -/
def Gcl.cycleStart (g : Gcl) (p : Int) : Int :=
  let b : Int := ((g.base * nsP : Nat) : Int)
  let c : Int := ((g.cycle * nsP : Nat) : Int)
  if p ≤ b then b else b + (p - b + c - 1) / c * c

/-- The slice whose window holds `TM_CFG` for a target. -/
def State.gateSlice (s : State) (target : Nat) : Nat := if target < 64 then s.portSlice target else (target - 64) / 24

/-- The change point of a list set at an instant (R296), against the time parameters in force (R409). -/
def State.gclChangeAt (s : State) (target : Nat) (g : Gcl) (at256 : Nat) : Int :=
  g.cycleStart (s.time.present at256 + ((s.fld Reg.tmCfg 15 8 (s.gateSlice target) * 1000 * nsP : Nat) : Int))

/-- The operational list of a target. -/
def State.operList (s : State) (target : Nat) : Option Gcl :=
  let l := s.ctx.gcls.get (fun _ => {}) target
  if l.entries.isEmpty then none else some l

/-- Every operational list finds its position from the presented time (R294): after a SET or STEP (R409), or as lists begin to run. -/
def State.refindGates (s : State) : State :=
  { s with tm := { s.tm with gates := s.ctx.gcls.foldl (fun t e =>
      t.upd (fun _ => {}) e.1 (fun g => { g with entry := e.2.entryAt s.time.presentNow })) s.tm.gates } }

/-- Do the lists of a target run: `GATE_EN`? -/
def State.gatesRun (s : State) (target : Nat) : Bool := s.flg Reg.tmCfg 0 (s.gateSlice target)

/-- The list that runs at a target: `GATE_EN` is 1 and it has restarted after standby. -/
def State.runningList (s : State) (target : Nat) : Option Gcl :=
  let g := s.gatesOf target
  let started := match g.startAt with
    | some p => decide (p ≤ s.time.presentNow)
    | none => true
  if s.gatesRun target && started then s.operList target else none

/-- The changes of list that lie ahead of a target: its restart after standby, then the change point of a pending list, which
comes alone where it is the earlier. -/
def State.listChanges (s : State) (target : Nat) : List (Int × Option Gcl) :=
  let g := s.gatesOf target
  let restart := match g.startAt with
    | some p => if s.time.presentNow < p then [(p, s.operList target)] else []
    | none => []
  match g.pending with
  | none => restart
  | some (l, at256) =>
    let t := s.gclChangeAt target l at256
    restart.filter (fun e => decide (e.1 < t)) ++ [(t, if l.entries.isEmpty then none else some l)]

/-- The time until gate q next closes, under a list and the changes ahead of it; none: it never does. -/
def closesIn (q : Nat) (p : Int) (cur : Option Gcl) : List (Int × Option Gcl) → Option Nat
  | [] => cur.bind (fun l => l.openLeft q p)
  | (t, next) :: es =>
    let span := (t - p).toNat
    let later := (closesIn q t next es).map (fun d => span + d)
    match cur.bind (fun l => l.openLeft q p) with
    | some d => if d < span then some d else later
    | none => later

/-- Gate q of a target is open, and a frame that takes `time` (2^-16 ns) ends before it next closes, be it by the running list, by a
pending one or by a list's restart (R295, R296). -/
def State.gateFits (s : State) (target q time : Nat) : Bool :=
  if !s.gatesRun target then true
  else
    let run := s.runningList target
    let open_ := match run with
      | none => true
      | some l => bit (l.entries.getD (s.gatesOf target).entry (0, 0)).1 q
    open_ &&
      (match closesIn q s.time.presentNow run (s.listChanges target) with
       | none => true
       | some d => decide (time ≤ d))

/-- Is gate q open? -/
def State.gateOpen (s : State) (target q : Nat) : Bool := s.gateFits target q 0

/-- A head frame that can never fit its gate (R296). -/
def State.gateOversize (s : State) (target q time : Nat) : Bool :=
  match s.runningList target with
  | none => false
  | some l =>
    match l.longestOpen q with
    | none => false
    | some d => decide (d < time)

/-- GATE_CHANGE: the list of a target moves to the entry whose time has come (R294). -/
def State.gateChangeDo (s : State) (target : Nat) : State :=
  let g := s.gatesOf target
  match s.runningList target with
  | none => s
  | some l => s.setGates target { g with entry := l.entryAt s.time.presentNow }

/-- GCL_CHANGE_POINT: the pending list replaces the operational one, at its entry 0 (R296). -/
def State.gclChangeDo (s : State) (target : Nat) : State :=
  let g := s.gatesOf target
  match g.pending with
  | none => s
  | some (l, at256) =>
    if s.time.presentNow < s.gclChangeAt target l at256 then s
    else
      let s1 := s.ctxWrite (fun c => { c with gcls := c.gcls.set (fun _ => {}) target (if l.entries.isEmpty then {} else l) })
      let e := if l.entries.isEmpty then 0 else l.entryAt s.time.presentNow
      s1.setGates target { g with pending := none, entry := e, startAt := none }

end Sys2Proof.Machine
end

