-- ==== Sys2Proof/Machine/Cbs.lean ====
section
/-! DEFINITION. Machine/Cbs.lean: refill of token buckets, and the credit of credit-based shapers (R283, R292). -/

namespace Sys2Proof.Machine

/-- What a rate in kbit/s adds to a bucket between two core cycles, in 1/65,536 byte: no remainder is lost. -/
def refillUnits (rate c0 c1 : Nat) : Nat := rate * c1 * 16 / 3125 - rate * c0 * 16 / 3125

/-- Bytes in a bucket's unit. -/
def bytesQ (n : Nat) : Nat := n * 65536

/-- MAC rate of a port in Mbit/s (R292). -/
def State.macRate (s : State) (p : Nat) : Nat :=
  let l := s.lanesPerPort
  if l = 1 then
    match s.fld Reg.uplCfg 1 0 p with
    | 1 => 25000
    | 2 => 10000
    | _ => 100000
  else 100000 * l

def State.cbsOf (s : State) (q : Nat) : Cbs := s.tm.cbs.get (fun _ => {}) q
def State.setCbs (s : State) (q : Nat) (c : Cbs) : State := { s with tm := { s.tm with cbs := s.tm.cbs.set (fun _ => {}) q c } }

/-- HI and LO in the credit's unit; they count 16 bytes. -/
def Cbs.top (c : Cbs) : Int := (bytesQ (16 * c.hi) : Nat)
def Cbs.floor (c : Cbs) : Int := -(bytesQ (16 * c.lo) : Nat)

/-- While a frame is being sent its queue's credit falls, down to −LO, whatever else holds of the queue (R292). -/
def Cbs.sending (c : Cbs) (cyc : Nat) : Cbs :=
  let m := min cyc c.sendTo
  if m ≤ c.last then c
  else
    let part := c.fall * ((m - c.last : Nat) : Int) / ((c.sendTo - c.last : Nat) : Int)
    { c with credit := max (c.credit - part) c.floor, fall := c.fall - part, last := m }

/-- A queue's credit brought to the present: after what it sends, it rises at I while frames wait and the gate is open, up to HI;
while empty it returns to 0; while the gate is closed it is held (R292). -/
def State.cbsNow (s : State) (q : Nat) (backlog gate : Bool) : Cbs :=
  let c := (s.cbsOf q).sending s.cycle
  if s.cycle ≤ c.last then c
  else
    let rise : Int := (refillUnits c.i c.last s.cycle : Nat)
    let credit :=
      if !gate then c.credit
      else if backlog then min (c.credit + rise) c.top
      else if c.credit < 0 then min (c.credit + rise) 0
      else 0
    { c with credit := credit, last := s.cycle }

/-- A picked frame is being sent, after those that are: its shaped length at P takes credit, less what I adds meanwhile (R292). -/
def State.cbsSend (s : State) (q len : Nat) : State :=
  let c := s.cbsOf q
  if !c.en then s
  else
    let from_ := max c.sendTo s.cycle
    let until_ := from_ + cdiv (len * 12800) (s.macRate (q / 32))
    s.setCbs q { c with sendTo := until_, fall := c.fall + (bytesQ len : Nat) - (refillUnits c.i from_ until_ : Nat) }

end Sys2Proof.Machine
end

