-- ==== Sys2Proof/Machine/Verdict.lean ====
section
/-! DEFINITION. Machine/Verdict.lean: what a command of a ring does when its turn comes, and the checks that every
command shares (R433, R439). -/

namespace Sys2Proof.Machine

/-- How a command stands after its turn. -/
inductive Verdict where
  /-- Its take-effect point has not come; it is tried again. -/
  | wait
  /-- Its effect stands; its completion comes later. -/
  | pend
  /-- Complete: status and result. -/
  | done (status result : Nat)
  deriving DecidableEq, Repr

/-- The outcome of a command's turn. -/
abbrev Turn := State × Verdict

/-- Completes a command with a status and changes nothing. -/
def State.fails (s : State) (status : Nat) : Turn := (s, .done status 0)

/-- Completes a command with OK. -/
def State.ok (s : State) (result : Nat := 0) : Turn := (s, .done Status.ok result)

/-- The checks of length, then the buffer read (R433): LEN_ZERO, LEN_BAD, DMA_ERR. -/
def withBuf (x : Slot) (good : Nat → Bool) (s : State) (k : List Byte → Turn) : Turn :=
  if x.len = 0 then s.fails Status.lenZero
  else if !good x.len then s.fails Status.lenBad
  else
    match x.buf with
    | none => (s.raise 0 1).fails Status.dmaErr
    | some b => k b

/-- A buffer of exactly n bytes. -/
def withLen (x : Slot) (n : Nat) (s : State) (k : List Byte → Turn) : Turn := withBuf x (fun l => l == n) s k

/-- The first failing check gives the status (R439); with none failing, the effect. -/
def checks : List (Bool × Nat) → State → (Unit → Turn) → Turn
  | [], _, k => k ()
  | (bad, status) :: cs, s, k => if bad then s.fails status else checks cs s k

/-- The result of a command that returns data: written to the buffer at AUX; where that write fails the completion carries
DMA_ERR with RESULT 0, and the effect stands (R433). -/
def State.returns (s : State) (x : Slot) (status result : Nat) (data : List Byte) : Turn :=
  if data.isEmpty then (s, .done status result)
  else if x.resOk then (s.emit (.dma x.aux data), .done status result)
  else (s.raise 0 2, .done Status.dmaErr 0)

/-- A fetched command is complete: its completion follows in ring order. -/
def State.finish (s : State) (id status result : Nat) : State :=
  { s with host := { s.host with slots := s.host.slots.map (fun x =>
      if x.id = id then { x with phase := .done status result } else x) } }

end Sys2Proof.Machine
end

