-- ==== Sys2Proof/Machine/Ports.lean ====
section
/-! DEFINITION. Machine/Ports.lean: switch ports (R23 to R26), egress queue numbers, sample records (R486), and what a
port's down event does in the switch core (R267, R270, R272). -/

namespace Sys2Proof.Machine

/-! ## Switch ports (01 Table 4) -/

/-- The host port and the management port. -/
def hostPort : Nat := 264
def mgmtPort : Nat := 265

/-- Does logical port k exist in the arrangement in force (R24)? -/
def State.lpExists (s : State) (k : Nat) : Bool := decide (k < 64 / s.lanesPerPort)

/-- The slice of a switch port; 8 for the ports that every slice serves. -/
def State.swSlice (s : State) (sp : Nat) : Nat :=
  if sp < 192 then sp / 24 else if sp < 256 then s.portSlice (sp - 192) else if sp < 264 then sp - 256 else 8

def State.swPort (s : State) (sp : Nat) : SwPort := s.sw.ports.get (fun _ => {}) sp
def State.setSwPort (s : State) (sp : Nat) (v : SwPort) : State :=
  { s with sw := { s.sw with ports := s.sw.ports.set (fun _ => {}) sp v } }

/-- A frame may resolve to a switch port: it is not reserved, exists and is enabled (R26). -/
def State.swValid (s : State) (sp : Nat) : Bool :=
  if sp < 192 then s.flg Reg.pchCtrl 0 sp
  else if sp < 256 then s.lpExists (sp - 192) && s.flg Reg.uplCtrl 0 (sp - 192)
  else sp == hostPort || sp == mgmtPort

/-- A switch port is up and not flushing (R225, R267); a channel's port stays down for at least 20 µs (R271). -/
def State.swUp (s : State) (sp : Nat) : Bool :=
  s.swValid sp && (s.swPort sp).flush.isNone &&
    (if sp < 192 then (s.ch sp).resetting.isNone && (match (s.swPort sp).downAt with
        | some d => decide (d + 20 * usU ≤ s.time.now)
        | none => true)
     else if sp < 256 then (s.port (sp - 192)).up
     else if sp = hostPort then !s.host.inReset
     else true)

/-! ## Egress queues

The spec numbers downstream terminal queues, uplink queues and broadcast queues apart; the model keeps them in one number
space: terminal queues as they are, uplink queues from 0x80000, broadcast queues from 0xC0000. -/

def qTerm (t class_ : Nat) : Nat := 8 * t + class_
def qUp (n : Nat) : Nat := 0x80000 + n
def qBc (n : Nat) : Nat := 0xC0000 + n

/-- The switch port of an egress queue. -/
def queuePort (q : Nat) : Nat :=
  if q < 0x80000 then q / 2048 else if q < 0xC0000 then 192 + (q - 0x80000) / 32 else (q - 0xC0000) / 8

/-- The key of a queue among DWRR items and shapers: 2^20 KIND + TARGET (10 Table 3). -/
def itemKey (q : Nat) : Nat :=
  if q < 0x80000 then q else if q < 0xC0000 then 5 * 2 ^ 20 + (q - 0x80000) else 2 ^ 20 + (q - 0xC0000)

def State.queue (s : State) (q : Nat) : EQueue := s.sw.queues.get (fun _ => {}) q
def State.setQueue (s : State) (q : Nat) (v : EQueue) : State :=
  { s with sw := { s.sw with queues := s.sw.queues.set (fun _ => {}) q v } }
def State.queueSlice (s : State) (q : Nat) : Nat := s.swSlice (queuePort q)

/-- Cells on die: placed there, waiting for their spill writes, or fetched back (R265, R266). -/
def QFrame.onDie (f : QFrame) : Nat := f.die + f.wait + f.ready
def EQueue.die (e : EQueue) : Nat := (e.frames.map QFrame.onDie).sum
def EQueue.ready (e : EQueue) : Nat := (e.frames.map (·.ready)).sum
def EQueue.spilled (e : EQueue) : Nat := (e.frames.map (·.spill)).sum
/-- The credit of an uplink queue is brought to the present before its backlog or its gate changes (R292). -/
def State.cbsSettle (s : State) (q : Nat) : State :=
  let n := q - 0x80000
  if decide (q < 0x80000) || decide (0xC0000 ≤ q) || !(s.cbsOf n).en then s
  else s.setCbs n (s.cbsNow n (!(s.queue q).frames.isEmpty) (s.gateOpen (n / 32) (n % 32)))

/-- The credits of a port's queues are brought to the present before its gates change (R292). -/
def State.settleGates (s : State) (target : Nat) : State :=
  if target < 64 then (List.range 32).foldl (fun (s : State) n => s.cbsSettle (qUp (32 * target + n))) s else s

/-- Every credit that gates may hold, brought to the present. -/
def State.settleAllGates (s : State) : State :=
  s.tm.cbs.foldl (fun (s : State) e => s.cbsSettle (qUp e.1)) s

/-- A queue's depth: its cells on die and in the Pannier (R265). -/
def EQueue.depth (e : EQueue) : Nat := e.die + e.spilled

/-- A counter of an egress queue, by its index (QUEUE_DS and QUEUE_UP agree on 0 to 6). -/
def State.bumpQueue (s : State) (q idx : Nat) (n : Nat := 1) : State :=
  if q < 0x80000 then s.bump ⟨2, idx⟩ q n
  else if q < 0xC0000 then s.bump ⟨4, idx⟩ (q - 0x80000) n
  else s.bump ⟨2, idx⟩ (393216 + (q - 0xC0000)) n

/-- Bytes of a switch port in the running bandwidth window: in, or out (R484). -/
def State.bwAdd (s : State) (sp : Nat) (out : Bool) (n : Nat) : State :=
  { s with cnt := { s.cnt with bw := s.cnt.bw.upd (fun _ => {}) (2 * sp + b2n out) (fun d => { d with cur := d.cur + n }) } }

/-! ## Drops and sample records -/

/-- An instant as core cycles after the ingress stamp; all ones where the frame never reached the stage (R486). -/
def Tag.stage (g : Tag) : Option Nat → List Byte
  | none => toLe 4 0xFFFFFFFF
  | some x => toLe 4 ((x - g.start) / cycleU)

/-- A sample record (R486). -/
def Tag.record (g : Tag) (p : Pkt) (dropped : Bool) (out idx : Nat) (line : Option Nat) : List Byte :=
  toLe 8 p.rec_.tick ++ toLe 1 p.rec_.frac
    ++ toLe 1 (b2n dropped + 2 * b2n g.cut + 4 * b2n g.spilled + 8 * b2n g.cipher.isSome)
    ++ toLe 2 p.rec_.inPort ++ toLe 2 out ++ toLe 2 p.rec_.len ++ toLe 2 (p.rec_.svc.getD 0xFFFF) ++ toLe 1 p.rec_.tc
    ++ toLe 1 p.rec_.pass ++ toLe 4 idx ++ g.stage g.pipe ++ g.stage g.req ++ g.stage g.xbar ++ g.stage g.enq
    ++ g.stage g.pick ++ g.stage g.cipher ++ g.stage line ++ List.replicate 12 0

/-- A tagged frame yields its record, once: at its drop, or at its line (R486, R487). -/
def State.sampleRecord (s : State) (p : Pkt) (dropped : Bool) (out idx : Nat) (line : Option Nat) : State :=
  match p.rec_.tag with
  | none => s
  | some g =>
    if !s.cnt.tagged.contains g.id || (dropped && p.rec_.mcCopy) then s
    else
      let s1 := { s with cnt := { s.cnt with tagged := s.cnt.tagged.filter (fun i => i != g.id) } }
      let q := s1.cnt.samples.get (fun _ => []) g.slice
      if q.length ≥ 256 then s1.bump .slcSampleRecordsLost g.slice
      else
        { s1 with cnt := { s1.cnt with
            samples := s1.cnt.samples.set (fun _ => []) g.slice (q ++ [g.record p dropped out idx line]) } }

/-- TX_STAMP (R414, R441): the cookie, the stamp and the status, 0 OK or 1 DROPPED. -/
def State.txStamp (s : State) (p : Pkt) (stamp : List Byte) (status : Nat) : State :=
  s.event 0x02 0 (toLe 8 p.rec_.cookie ++ stamp ++ toLe 1 status)

/-- A frame is dropped on its way to a switch port: its sample record, and TX_STAMP with DROPPED for a stamped frame to an
uplink (R414). -/
def State.dropPkt (s : State) (p : Pkt) (out idx : Nat) : State :=
  let s1 := s.sampleRecord p true out idx none
  if p.rec_.tsReq && decide (192 ≤ out) && decide (out < 256) then s1.txStamp p (List.replicate 25 0) 1 else s1

/-! ## Flushes -/

/-- Every frame of a queue is removed. -/
def State.clearQueue (s : State) (q : Nat) : State :=
  let e := s.queue q
  let s1 := e.frames.foldl (fun s f => s.dropPkt f.pkt (queuePort q) 6) (s.cbsSettle q)
  let pf := e.ready
  let port := queuePort q
  let s2 := s1.setQueue q { e with frames := [] }
  let s3 := { s2 with tm := { s2.tm with deficits := s2.tm.deficits.set (fun _ => 0) (itemKey q) 0 } }
  if pf = 0 then s3
  else { s3 with hbm := { s3.hbm with prefetch := s3.hbm.prefetch.upd (fun _ => 0) port (· - pf) } }

/-- The listed queues that a test selects, cleared. -/
def State.clearQueues (s : State) (p : Nat → Bool) : State :=
  ((s.sw.queues.map (·.1)).filter p).foldl State.clearQueue s

/-- A terminal context is left to its move, and its queue set with it (R194, R199). -/
def State.detachedCtx (s : State) (t : Nat) : Bool := (s.terms.get (fun _ => {}) t).detached

/-- Queues of a port that its flush takes. -/
def State.flushTakes (s : State) (sp q : Nat) : Bool :=
  queuePort q == sp && !(decide (q < 0x80000) && s.detachedCtx (q / 8))

/-- Residue copies toward a port are dropped (R268, R270). -/
def State.dropResidue (s : State) (sp : Nat) : State :=
  { s with sw := { s.sw with residue := s.sw.residue.mapVals (fun _ => []) (fun _ l => l.filter (fun r => r.port != sp)) } }

/-- A port's down event in the switch core (R267, R270): its epoch rises, its queues are flushed, its residue goes. -/
def State.portDown (s : State) (sp : Nat) : State :=
  let x := s.swPort sp
  let spilled := s.sw.queues.any (fun e => s.flushTakes sp e.1 && decide (0 < e.2.spilled))
  let s1 := s.setSwPort sp { epoch := (x.epoch + 1) % 65536, downAt := some s.time.now, flush := some (s.time.now, spilled) }
  (s1.clearQueues (s1.flushTakes sp)).dropResidue sp

/-- The queue set of a terminal context is flushed at once (R272). -/
def State.flushTermSet (s : State) (t : Nat) : State := s.clearQueues (fun q => q / 8 == t && decide (q < 0x80000))

/-- The queue set of a terminal context is flushed, and its frames are dropped as TERM_LOST from then on (R272). -/
def State.loseTermSet (s : State) (t : Nat) : State :=
  let s1 := s.flushTermSet t
  { s1 with sw := { s1.sw with termLost := s1.sw.termLost.filter (fun x => x != t) ++ [t] } }

/-- The terminal is in OPERATION again, or its context FREE: its frames are accepted (R272). -/
def State.keepTermSet (s : State) (t : Nat) : State :=
  { s with sw := { s.sw with termLost := s.sw.termLost.filter (fun x => x != t) } }

/-! ## Bindings -/

/-- The terminal context of a binding (R180). -/
def State.bindingCtx (s : State) (b : Nat) : Option Nat := s.drl.bindings.get (fun _ => none) b

/-- The terminal of a binding becomes unavailable, or available again (12 Table 3). -/
def State.bindingDown (s : State) (b : Option Nat) : State :=
  match b with
  | none => s
  | some b => { s with drl := { s.drl with unavail := s.drl.unavail.set (fun _ => none) b (some s.time.now) } }
def State.bindingUp (s : State) (b : Option Nat) : State :=
  match b with
  | none => s
  | some b => { s with drl := { s.drl with unavail := s.drl.unavail.set (fun _ => none) b none } }

end Sys2Proof.Machine
end

