-- ==== Sys2Proof/Machine/HostPort.lean ====
section
/-! DEFINITION. Machine/HostPort.lean: hash groups (R223 to R225), frames to the host's rings (R442, R443), punting
(R226). -/

namespace Sys2Proof.Machine

/-- What the parser's registers of a slice set (07 Tables 12 to 14). -/
def State.parseCfg (s : State) (sl : Nat) : ParseCfg :=
  let d := s.fld Reg.prsCfg 4 0 sl
  { depth := if d ≤ 3 then 64 else if d > 16 then 256 else 16 * d
    tpid0 := s.fld Reg.prsTpid 15 0 sl
    tpid1 := s.fld Reg.prsTpid 31 16 sl
    vxlan := s.fld Reg.prsTun 31 16 sl
    gtpu := s.fld Reg.prsTun 15 0 sl
    greEn := s.flg Reg.prsCfg 8 sl }

/-- The parse result of a frame in a slice: nothing of an OPAQUE SDU is read (R208). -/
def State.parse (s : State) (sl : Nat) (p : Pkt) : Parse :=
  if p.rec_.opaque_ then {} else parseFrame (s.parseCfg sl) p.data

/-- The n USER bytes of a frame (R216, R561). -/
def State.userOf (s : State) (sl n : Nat) (a : Parse) (p : Pkt) : Nat :=
  if p.rec_.opaque_ then 0
  else userBytes (s.parseCfg sl).depth (s.fld Reg.prsCfg 21 20 sl) (s.fld Reg.prsCfg 31 24 sl) n a p.data

/-- Where a frame stands when its key is built. -/
def FrameRec.keyCtx (r : FrameRec) : KeyCtx := { svc := r.svc.getD 0, inPort := r.inPort, pass := r.pass, xport := r.xport }

/-- The indirection index of a frame in a hash group of a slice (R223). -/
def State.groupIndex (s : State) (sl g : Nat) (a : Parse) (p : Pkt) : Nat :=
  hashIndex (s.reg Reg.clsSeed sl).toNat (s.fld (Reg.clsHg g) 20 0 sl) (s.flg (Reg.clsHg g) 30 sl) p.rec_.keyCtx a
    (s.userOf sl 8 a p)

/-- An entry of a group's indirection table (R224). -/
def State.indirEntry (s : State) (sl g x : Nat) : Nat := s.ctx.indir.get (fun _ => 0) (512 * (64 * sl + g) + x)

/-- The first usable entry from an index on, of up to 8 (R225): VALID, and for KIND 0 naming a port that is up. -/
def State.groupProbe (s : State) (sl g : Nat) (kind : Bool) : Nat → Nat → Option Nat
  | 0, _ => none
  | n + 1, x =>
    let e := s.indirEntry sl g (x % 512)
    if bit e 15 && (kind || s.swUp (e % 512)) then some (if kind then e % 1024 else e % 512)
    else s.groupProbe sl g kind n (x + 1)

/-- The member of a hash group that a frame takes; none: NO_MEMBER (R225). -/
def State.groupPick (s : State) (sl g : Nat) (a : Parse) (p : Pkt) : Option Nat :=
  s.groupProbe sl g (s.flg (Reg.clsHg g) 31 sl) 8 (s.groupIndex sl g a p)

/-! ## Receive rings -/

/-- The receive header (16 Table 7) of a frame. -/
def Pkt.rxHeader (p : Pkt) (class_ reason aux : Nat) : List Byte :=
  let r := p.rec_
  toLe 2 p.data.length ++ toLe 1 class_ ++ toLe 1 reason ++ toLe 2 r.inPort ++ toLe 2 (r.svc.getD 0xFFFF) ++ toLe 4 aux
    ++ toLe 2 r.meta_ ++ toLe 1 (b2n r.carrier + 2 * b2n r.tag.isSome + 4 * r.tc) ++ toLe 1 0 ++ toLe 10 r.tick
    ++ toLe 1 r.frac ++ toLe 1 0
    ++ toLe 8 (splitTime r.present).1 ++ toLe 4 (splitTime r.present).2.1 ++ toLe 2 (splitTime r.present).2.2 ++ toLe 6 0

/-- Fills posted buffers in order with the bytes of a frame (R442): one data write a buffer, MORE on all but the last; a
buffer whose data write fails completes with DMA_ERR. -/
def fillBuffers : List Nat → List Byte → State → State
  | [], _, s => s
  | id :: ids, bs, s =>
    match s.host.slots.find? (fun x => x.id == id) with
    | none => s
    | some x =>
      let part := bs.take x.len
      let rest := bs.drop x.len
      let y := { x with phase := .done (if x.resOk then Status.ok else Status.dmaErr) (if x.resOk then part.length else 0), more := !rest.isEmpty }
      let s1 := { s with host := { s.host with slots := s.host.slots.map (fun (z : Slot) => if z.id = id then y else z) } }
      let s2 := if x.resOk then s1.emit (.dma x.addr part) else s1.raise 0 2
      if rest.isEmpty then s2 else fillBuffers ids rest s2

/-- The posted buffers of a ring that a frame of n bytes takes; none: too few. -/
def buffersFor : List Slot → Nat → Option (List Nat)
  | [], _ => none
  | x :: xs, n => if n ≤ x.len then some [x.id] else (buffersFor xs (n - x.len)).map (x.id :: ·)

/-- The posted and unfilled buffers of a ring. -/
def State.posted (s : State) (r : Nat) : List Slot :=
  s.host.slots.filter (fun x => x.ring == r && x.opcode == Op.rxBuf && x.phase == .effect && !x.orphan)

/-- A frame is written to a ring of a receive type, or dropped and counted (R442, R443). -/
def State.ringDeliver (s : State) (r type : Nat) (p : Pkt) (class_ reason aux : Nat) : State :=
  if !(s.ringType r == type && s.ringRuns r) then (s.bump .xNoRing r).dropPkt p hostPort 0
  else
    let bytes := p.rxHeader class_ reason aux ++ p.data
    match buffersFor (s.posted r) bytes.length with
    | none => ((s.bump .xRxNobuf r).raise 0 5).dropPkt p hostPort 0
    | some ids => (fillBuffers ids bytes s).sampleRecord p false hostPort 0 none

/-- A frame goes to the host through a hash group of KIND 1 of a slice (R226, R443). -/
def State.hostDeliver (s : State) (sl g : Nat) (a : Parse) (p : Pkt) (class_ reason aux : Nat) : State :=
  if s.host.inReset then (s.bump .xHostPortDrop 0).dropPkt p hostPort 0
  else
    match (if s.flg (Reg.clsHg g) 31 sl then s.groupPick sl g a p else none) with
    | none => (s.bump .slcNoMember sl).dropPkt p hostPort 10
    | some r => s.ringDeliver r 2 p class_ reason aux

/-- A frame forwarded to the host port: class FORWARD (R443). -/
def State.hostForward (s : State) (sl : Nat) (p : Pkt) : State :=
  let s1 := match p.rec_.svc with
    | some v => (s.bump .svcEgressFrames v).bump .svcEgressBytes v p.rec_.len
    | none => s
  s1.hostDeliver sl (s.fld Reg.hifCfg 21 16) (s.parse sl p) p 8 0 0

/-- A frame to the management port. -/
def State.mgmtForward (s : State) (p : Pkt) : State :=
  (s.emit (.mgmtFrame p.data)).sampleRecord p false mgmtPort 0 none

/-- A frame or copy is punted under a class: one token, or dropped and counted (R226). -/
def State.punt (s : State) (sl class_ reason aux : Nat) (a : Parse) (p : Pkt) : State :=
  let rate := s.fld (Reg.clsPunt class_) 15 0 sl * 100
  let burst := s.fld (Reg.clsPunt class_) 25 16 sl
  let x := s.slice sl
  let r := (x.punt.get (fun _ => {}) class_).take rate burst s.time.now
  let s1 := s.setSlice sl { x with punt := x.punt.set (fun _ => {}) class_ r.2 }
  if rate = 0 ∨ burst = 0 ∨ !r.1 then ((s1.bump (.slcPuntDrops class_) sl).raise (6 + sl) 8).dropPkt p hostPort class_
  else s1.hostDeliver sl (s.fld (Reg.clsPunt class_) 31 26 sl) a p class_ reason aux

end Sys2Proof.Machine
end

