-- ==== Sys2Proof/Machine/Pannier.lean ====
section
/-! DEFINITION. Machine/Pannier.lean: the HBM controller (14): refresh, catch-up, row-disturbance defence, panic, start and
failure. Pseudo-channels are numbered 32 stack + number; requesters 2 slice (spill writer) and 2 slice + 1 (prefetch
reader). -/

namespace Sys2Proof.Machine

def State.pc (s : State) (k : Nat) : PseudoCh := s.hbm.pcs.get (fun _ => {}) k
def State.setPc (s : State) (k : Nat) (v : PseudoCh) : State :=
  { s with hbm := { s.hbm with pcs := s.hbm.pcs.set (fun _ => {}) k v } }

/-- The slice that owns a pseudo-channel (R379). -/
def pcSlice (k : Nat) : Nat := k % 32 / 4

/-- Temperature band of a stack. -/
def State.band (s : State) (stack : Nat) : Nat := s.hbm.bands.get (fun _ => 0) stack

/-- tREFI in a band (14 Table 1). -/
def trefi (band : Nat) : Nat := (match band with | 0 => 3900 | 1 => 1950 | _ => 975) * nsU

/-- The Pannier accepts work: started, awake and not disabled. -/
def State.panAccepts (s : State) : Bool := s.hbm.state == .running && !s.hbm.waking && !s.hbm.fail

/-- `HBM_RD.RFM_TH`; 0 acts as 64. -/
def State.rfmTh (s : State) : Nat := let v := s.fld Reg.hbmRd 15 0; if v = 0 then 64 else v

/-! ## Refresh (R382 to R385) -/

/-- Refreshes of every bank of a pseudo-channel, which close their rows (R382, R387). -/
def PseudoCh.refreshBanks (p : PseudoCh) (th n : Nat) : PseudoCh :=
  if n = 0 then p
  else { p with banks := p.banks.mapVals (fun _ => {}) (fun _ b => { b with acts := b.acts - th * n, openRow := none }) }

/-- Catch-up brought to the present: one refresh each tRFC, until the debt is 8 (R385). -/
def PseudoCh.settle (p : PseudoCh) (now th : Nat) : PseudoCh :=
  match p.catchUp with
  | none => p
  | some (t0, done) =>
    let k := min ((now - t0) / (350 * nsU) - done) (p.debt - 8)
    let q := { (p.refreshBanks th k) with debt := p.debt - k }
    { q with catchUp := if q.debt ≤ 8 then none else some (t0, done + k) }

def State.pcNow (s : State) (k : Nat) : PseudoCh := (s.pc k).settle s.time.now s.rfmTh

/-! ## Requests (R379, R381) -/

/-- The pseudo-channel at a place of a slice's rotation over its 16 (R379; the order is the model's, log entry 85). -/
def rotPc (sl r : Nat) : Nat := 32 * (r / 4 % 4) + 4 * sl + r % 4
/-- The place of a pseudo-channel in its slice's rotation. -/
def pcRot (k : Nat) : Nat := 4 * (k / 32) + k % 4

/-- Where the next spilled cell of a queue goes, and where its oldest lies: its cells follow each other in the rotation (R379). -/
def State.writePc (s : State) (q : Nat) : Nat := rotPc (s.queueSlice q) (s.hbm.rot.get (fun _ => 0) q)
def State.readPc (s : State) (q : Nat) : Nat :=
  rotPc (s.queueSlice q) ((s.hbm.rot.get (fun _ => 0) q + 16 - (s.queue q).spilled % 16) % 16)

/-- The prefetch buffer's size in cells: 128 for a channel, 256 for an uplink port. -/
def prefetchSize (port : Nat) : Nat := if port < 192 then 128 else 256

/-- The queues whose next fetch is a read of a pseudo-channel. -/
def State.readsAt (s : State) (k : Nat) : List Nat :=
  (s.sw.queues.filter (fun e => s.queueSlice e.1 == pcSlice k && decide (0 < e.2.spilled) && s.readPc e.1 == k
    && decide (s.hbm.prefetch.get (fun _ => 0) (queuePort e.1) < prefetchSize (queuePort e.1)))).map (·.1)

/-- The spill writes that wait for a pseudo-channel. -/
def State.writesAt (s : State) (k : Nat) : Nat :=
  ((s.sw.queues.filter (fun e => s.queueSlice e.1 == pcSlice k)).map (fun e =>
    ((e.2.frames.map (·.wait)).sum + 15 - (pcRot k + 16 - s.hbm.rot.get (fun _ => 0) e.1 % 16) % 16) / 16)).sum

/-- The oldest read of a list: that of the oldest frame (log entry 85). -/
def State.oldestRead (s : State) (qs : List Nat) : Option Nat :=
  let age (q : Nat) : Nat := (((s.queue q).frames.find? (fun f => decide (0 < f.spill))).map (·.id)).getD 0
  qs.foldl (fun (m : Option Nat) q =>
    match m with
    | none => some q
    | some x => if age q < age x then some q else m) none

/-- The read that a pseudo-channel issues next (R381): one for a channel in panic first, none while 48 or more writes wait, then any. -/
def State.nextRead (s : State) (k : Nat) : Option Nat :=
  let qs := s.readsAt k
  let panic := qs.filter (fun q => s.hbm.panic.get (fun _ => false) (queuePort q))
  if !panic.isEmpty then s.oldestRead panic else if 48 ≤ s.writesAt k then none else s.oldestRead qs

/-- A queue of a pseudo-channel holds a request (R381 item 6). -/
def State.pcBusy (s : State) (k : Nat) : Bool := !(s.readsAt k).isEmpty || decide (0 < s.writesAt k)

/-- A tREFI of a pseudo-channel is over (R382, R383): its debt rises; the refresh is issued when no request waits, or forced
when the debt reaches 8; in catch-up refreshes run back to back. -/
def State.refreshDue (s : State) (k : Nat) : State :=
  if s.hbm.state != .running then s
  else
    let p := s.pcNow k
    let p1 := { p with debt := p.debt + 1 }
    match p1.catchUp with
    | some _ => s.setPc k p1
    | none =>
      if p1.debt ≥ 8 then
        (s.setPc k { (p1.refreshBanks s.rfmTh 1) with debt := p1.debt - 1 }).bump .devForcedRefreshes 0
      else if s.pcBusy k then s.setPc k p1
      else s.setPc k { (p1.refreshBanks s.rfmTh p1.debt) with debt := 0 }

/-- The band that a reading gives, from the present band (14 Table 1). -/
def bandOf (old : Nat) (celsius : Int) : Nat :=
  if celsius ≥ 105 then 2
  else if old = 2 then (if celsius < 83 then 0 else if celsius < 103 then 1 else 2)
  else if old = 1 then (if celsius < 83 then 0 else 1)
  else if celsius ≥ 85 then 1 else 0

/-- Re-expression of a debt (R384). -/
def reexpress (debt old new : Nat) : Nat :=
  if old ≤ new then debt * 2 ^ (new - old) else cdiv debt (2 ^ (old - new))

/-- Re-expression of the debt of pseudo-channel k, and catch-up where it exceeds 8 (R385). -/
def State.reexpressPc (s : State) (old new k : Nat) : State :=
  let p := s.pcNow k
  let d := reexpress p.debt old new
  if d > 8 then
    (s.setPc k { p with debt := d, catchUp := some (p.catchUp.getD (s.time.now, 0)) }).bump .devCatchUps 0
  else s.setPc k { p with debt := d }

/-- The 32 µs reading of a stack (R384). -/
def State.hbmTemperature (s : State) (stack : Nat) (celsius : Int) : State :=
  let old := s.band stack
  let new := bandOf old celsius
  if old = new then s
  else
    let s1 := ({ s with hbm := { s.hbm with bands := s.hbm.bands.set (fun _ => 0) stack new } }).raise 3 2
    (List.range 32).foldl (fun s n => s.reexpressPc old new (32 * stack + n)) s1

/-! ## Row-disturbance defence (R387, R388) -/

/-- The requester with the most activations to a bank since its last RFM; among equals the lowest number (log entry 85). -/
def Bank.worst (b : Bank) : Option Nat :=
  (b.by_.foldl (fun (m : Option (Nat × Nat)) e =>
    match m with
    | none => some e
    | some x => if x.2 < e.2 then some e else some x) none).map (·.1)

/-- An RFM to a bank; a second one within 64 tREFI throttles the recorded requester. -/
def State.rfm (s : State) (k bank : Nat) : State :=
  let p := s.pc k
  let b := p.banks.get (fun _ => {}) bank
  let soon := match b.lastRfm with
    | some t => decide (s.time.now ≤ t + 64 * trefi (s.band (k / 32)))
    | none => false
  let b1 : Bank := { acts := b.acts - s.rfmTh, by_ := [], lastRfm := some s.time.now }
  let p1 := { p with banks := p.banks.set (fun _ => {}) bank b1, lastRfm := s.time.now }
  let s1 := (s.setPc k p1).bump .devRfmCommands 0
  match b.worst with
  | none => s1
  | some r =>
    if soon && s.fld Reg.hbmRd 23 16 != 0 && !p.throttled.contains r then
      (((s1.setPc k { p1 with throttled := p1.throttled ++ [r] }).bump .devThrottles 0).report
        { cls := 10, cause := .throttle, site := siteStack (k / 32), obj := k, obj2 := r }).raise 5 2
    else s1

/-- An activation of a bank by a requester (R387). -/
def State.activate (s : State) (k bank requester : Nat) : State :=
  let p := s.pcNow k
  let b := p.banks.get (fun _ => {}) bank
  let b1 := { b with acts := b.acts + 1, by_ := b.by_.upd (fun _ => 0) requester (· + 1) }
  let s1 := (if s.fld Reg.hbmRd 15 0 = 0 then s.bump .xRfmZero 0 else s).setPc k
    { p with banks := p.banks.set (fun _ => {}) bank b1 }
  if b1.acts ≥ s.rfmTh then s1.rfm k bank else s1

/-- THROTTLE_RELEASE: 64 tREFI without a further RFM to any bank of the pseudo-channel (R388). -/
def State.throttleRelease (s : State) (k : Nat) : State :=
  let p := s.pc k
  if p.throttled.isEmpty || decide (s.time.now < p.lastRfm + 64 * trefi (s.band (k / 32))) then s
  else s.setPc k { p with throttled := [] }

/-- When a requester may next activate a row of a pseudo-channel: a throttled one GAP × 10 ns after its last (R388). -/
def State.actFrom (s : State) (k requester : Nat) : Nat :=
  let p := s.pc k
  if p.throttled.contains requester then p.lastAct.get (fun _ => 0) requester + s.fld Reg.hbmRd 23 16 * 10 * nsU else 0

/-- An access to a row: it is activated unless it is open. Whether a queued request that hits it keeps it open is a free value (R381; log
entry 85). -/
def State.access (s : State) (k bank row requester at_ : Nat) : State :=
  let x := s.takeFree
  let hit := decide (((s.pcNow k).banks.get (fun _ => {}) bank).openRow = some row)
  let s1 := if hit then x.2 else
    let a := x.2.activate k bank requester
    a.setPc k { a.pc k with lastAct := (a.pc k).lastAct.set (fun _ => 0) requester at_ }
  let p := s1.pc k
  s1.setPc k { p with banks := p.banks.upd (fun _ => {}) bank (fun b => { b with openRow := if x.1 % 2 = 1 then some row else none }) }

/-- The spill writer of a queue's slice places a cell in the Pannier, at the next place of the queue's rotation (R379); which bank and row
of the pseudo-channel is a free value. -/
def State.spillWrite (s : State) (q at_ : Nat) : State :=
  let x := s.takeFree
  let s1 := x.2.access (s.writePc q) (x.1 % 16) (x.1 / 16 % 32768) (2 * s.queueSlice q) at_
  { s1 with hbm := { s1.hbm with rot := s1.hbm.rot.upd (fun _ => 0) q (fun r => (r + 1) % 16), lastUse := s1.time.now } }

/-! ## The rate of spill writes and reads (R266) -/

/-- One cell of 2,048 bits at 1.75 Tbit/s, in 1/1,750 of the model's unit. -/
def cellStep : Nat := 1944 * 2048

/-- A pseudo-channel takes a spill write of a slice: it is not in catch-up, and the writer is not spaced by its throttle (R385, R388). -/
def State.takesWrite (s : State) (sl k : Nat) : Bool :=
  (s.pcNow k).catchUp.isNone && decide (s.actFrom k (2 * sl) ≤ s.time.now)

/-- Cells of a slice in the Pannier. -/
def State.sliceSpilled (s : State) (sl : Nat) : Nat := ((s.sw.queues.filter (fun e => s.queueSlice e.1 == sl)).map (fun e => e.2.spilled)).sum

/-- The oldest frame of a slice with cells that wait for their spill writes and whose next place takes one: its queue and its number. -/
def State.oldestWait (s : State) (sl : Nat) : Option (Nat × Nat) :=
  ((s.sw.queues.filter (fun e => s.queueSlice e.1 == sl && s.takesWrite sl (s.writePc e.1))).flatMap (fun e =>
    (e.2.frames.filter (fun f => decide (0 < f.wait))).map (fun f => (e.1, f.id)))).foldl (fun (m : Option (Nat × Nat)) x =>
      match m with
      | none => some x
      | some y => if x.2 < y.2 then some x else some y) none

/-- The spill writes of a slice brought to the present: each write that the rate allows moves the oldest waiting cell to the
Pannier, while the slice's partition has room (R379); `n` bounds their number. -/
def State.spillSettle (sl : Nat) : Nat → State → State
  | 0, s => s
  | n + 1, s =>
    let at_ := s.hbm.writeAt.get (fun _ => 0) sl
    if !s.panAccepts || decide (s.time.now * 1750 < at_) || decide (2 ^ 25 ≤ s.sliceSpilled sl) then s
    else
      match s.oldestWait sl with
      | none => s
      | some x =>
        let move (f : QFrame) : QFrame := if f.id = x.2 then { f with wait := f.wait - 1, spill := f.spill + 1 } else f
        let e := s.queue x.1
        let when_ := max (at_ / 1750) (s.actFrom (s.writePc x.1) (2 * sl))
        let s1 := (s.setQueue x.1 { e with frames := e.frames.map move }).spillWrite x.1 when_
        State.spillSettle sl n { s1 with hbm := { s1.hbm with writeAt := s1.hbm.writeAt.set (fun _ => 0) sl (at_ + cellStep) } }

/-- Cells of a slice that wait for their spill writes. -/
def State.waitingCells (s : State) (sl : Nat) : Nat :=
  ((s.sw.queues.filter (fun e => s.queueSlice e.1 == sl)).map (fun e => (e.2.frames.map (·.wait)).sum)).sum

/-- A slice's spill writes up to the present. -/
def State.spillNow (s : State) (sl : Nat) : State := State.spillSettle sl (s.waitingCells sl) s

/-- A slice without waiting writes starts its rate afresh: time that it did not use is lost. -/
def State.spillIdle (s : State) (sl : Nat) : State :=
  if s.waitingCells sl = 0 then
    { s with hbm := { s.hbm with writeAt := s.hbm.writeAt.upd (fun _ => 0) sl (fun t => max t (s.time.now * 1750)) } }
  else s

/-! ## Panic (R389) -/

/-- Does a channel have cells in the Pannier? -/
def State.chanSpilled (s : State) (c : Nat) : Bool := s.sw.queues.any (fun e => queuePort e.1 == c && decide (0 < e.2.spilled))

/-- Panic of a channel, after its prefetch buffer or its queues have changed. -/
def State.panicUpdate (s : State) (c : Nat) : State :=
  if c ≥ 192 then s
  else
    let n := s.hbm.prefetch.get (fun _ => 0) c
    let was := s.hbm.panic.get (fun _ => false) c
    let low := s.fld Reg.hbmPanic 7 0
    let high := min 128 (s.fld Reg.hbmPanic 15 8)
    let put (b : Bool) (s : State) : State := { s with hbm := { s.hbm with panic := s.hbm.panic.set (fun _ => false) c b } }
    if was then (if decide (high ≤ n) || !s.chanSpilled c then put false s else s)
    else if decide (n < low) && s.chanSpilled c then
      put (!(decide (high ≤ n))) ((s.bump .xPanic c).raise (chanGroup c) 10)
    else s

/-! ## Start, failure and self-refresh (R391 to R393) -/

/-- The Pannier is disabled: every queue with cells in it is flushed (R393). -/
def State.panDisable (s : State) (stack : Nat) : State :=
  if s.hbm.fail then s
  else
    let s1 := { s with hbm := { s.hbm with fail := true } }
    let qs := (s1.sw.queues.filter (fun e => decide (0 < e.2.spilled))).map (·.1)
    ((qs.foldl State.clearQueue s1).report { cls := 10, cause := .pannierDisabled, site := siteStack stack }).raise 5 0

/-- The start begins at the lock (R392). -/
def State.panStart (s : State) : State := { s with hbm := { s.hbm with state := .starting } }

/-- PANNIER_START_DONE (R392, R393): with the stack of a bank that fails the check. -/
def State.panStartDone (s : State) (bankFail : Option (Fin 4)) : State :=
  if s.hbm.state != .starting then s
  else
    let s1 := { s with hbm := { s.hbm with state := .running, lastUse := s.time.now } }
    match bankFail with
    | some k => s1.panDisable k.val
    | none => s1

/-- PANNIER_SELF_REFRESH (R391): no spill read or write for 1 ms; the refreshes owed are issued first. A spill-wake mark reached
in this core cycle prevails (R28). -/
def State.panSelfRefresh (s0 : State) : State :=
  let s := (List.range 8).foldl State.spillNow s0
  if s.hbm.state != .running || s.hbm.waking || !s.flg Reg.hbmCtrl 0 || decide (s.time.now < s.hbm.lastUse + msU) || s.thisCycle s.hbm.wakeAt then s
  else
    { s with hbm := { s.hbm with state := .selfRefresh, stoppedAt := some s.time.now,
                                 pcs := s.hbm.pcs.mapVals (fun _ => {}) (fun _ p =>
                                   { (p.refreshBanks s.rfmTh p.debt) with debt := 0, catchUp := none }) } }

/-- A queue has reached its spill-wake mark: the stacks begin to leave self-refresh (R34); where they entered it in this core
cycle they stay awake (R28). -/
def State.panWake (s : State) : State :=
  let s1 := { s with hbm := { s.hbm with wakeAt := some s.time.now } }
  if s.hbm.state == .selfRefresh && !s.hbm.waking then
    if s.thisCycle s.hbm.stoppedAt then { s1 with hbm := { s1.hbm with state := .running } }
    else { s1 with hbm := { s1.hbm with waking := true } }
  else s1

/-- PANNIER_WAKE_DONE. -/
def State.panWakeDone (s : State) : State :=
  if s.hbm.waking then { s with hbm := { s.hbm with waking := false, state := .running, lastUse := s.time.now } } else s

/-- An uncorrectable error of a pseudo-channel: more than 16 in a second disable the Pannier (R393). -/
def State.panError (s : State) (k : Nat) : State :=
  let p := s.pc k
  let es := (p.errors.filter (fun t => decide (s.time.now < t + secU))) ++ [s.time.now]
  let s1 := s.setPc k { p with errors := es }
  if es.length > 16 then s1.panDisable (k / 32) else s1

/-- Moves one spilled cell of a list of frames to die. -/
def fetchOne : List QFrame → List QFrame
  | [] => []
  | f :: fs => if f.spill = 0 then f :: fetchOne fs else { f with spill := f.spill - 1, ready := f.ready + 1 } :: fs

/-- PANNIER_READ_COMPLETE (R380, R265): the next spilled cell of a queue, in queue order, is on die. The read is the one that its
pseudo-channel issues next (R381), outside catch-up (R385) and at its throttled reader's spacing (R388); one beyond the slice's
1.75 Tbit/s is not taken (R266). -/
def State.pannierRead (s0 : State) (q k bank row : Nat) (result : CellRead) : State :=
  let s := s0.spillNow (s0.queueSlice q)
  let e := s.queue q
  let port := queuePort q
  let pf := s.hbm.prefetch.get (fun _ => 0) port
  let sl := s.queueSlice q
  let next := s.hbm.readAt.get (fun _ => 0) sl
  if !s.panAccepts || decide (s.time.now * 1750 < next) || s.nextRead k != some q || (s.pcNow k).catchUp.isSome
    || decide (s.time.now < s.actFrom k (2 * sl + 1)) then s
  else
    let s1 := s.access k (bank % 16) row (2 * sl + 1) s.time.now
    let s2 := { s1 with hbm := { s1.hbm with
      lastUse := s1.time.now, readAt := s1.hbm.readAt.set (fun _ => 0) sl (max next (s.time.now * 1750) + cellStep) } }
    let arrive (s : State) : State :=
      (({ s with hbm := { s.hbm with prefetch := s.hbm.prefetch.set (fun _ => 0) port (pf + 1) } }).setQueue q
        { e with frames := fetchOne e.frames }).panicUpdate port
    match result with
    | .good => arrive s2
    | .corrected =>
      arrive ((s2.bump .devPannierCorrectedErrors 0).report { cls := 0, cause := .memCorrected, site := siteStack (k / 32), obj := q, recovered := true })
    | .uncorrectable =>
      ((((s2.bump .devPannierUncorrectableErrors 0).report
        { cls := 10, cause := .pannierUncorrectable, site := siteStack (k / 32), obj := q, obj2 := k }).raise 5 1).clearQueue q).panError k

end Sys2Proof.Machine
end

