-- ==== Sys2Proof/Machine/Tm.lean ====
section
/-! DEFINITION. Machine/Tm.lean: meters, shapers, DWRR, credit-based shapers and their commands (10). -/

namespace Sys2Proof.Machine

/-! ## Meters (R278 to R282) -/

inductive Colour where
  | green | yellow | red
  deriving DecidableEq, Repr

def State.meterRec (s : State) (m : Nat) : Meter := s.ctx.meters.get (fun _ => {}) m
def State.meterDyn (s : State) (m : Nat) : MeterDyn := s.tm.meters.get (fun _ => {}) m

/-- The buckets of a meter after their refill (R279). -/
def Meter.refill (m : Meter) (b : MeterDyn) (cyc : Nat) : MeterDyn :=
  let tc := b.tc + refillUnits m.cir b.last cyc
  let te := b.te + refillUnits m.eir b.last cyc
  let excess := if !m.mode && m.cf then tc - bytesQ m.cbs else 0
  { tc := min tc (bytesQ m.cbs), te := min (te + excess) (bytesQ m.ebs), last := cyc }

/-- The colour of a record of metered length l, and the buckets it leaves (R279, R280). -/
def Meter.colour (m : Meter) (b : MeterDyn) (l : Nat) : Colour × MeterDyn :=
  let q := bytesQ l
  if !m.mode then
    if m.cir ≠ 0 ∧ m.cbs ≠ 0 ∧ q ≤ b.tc then (.green, { b with tc := b.tc - q })
    else if m.eir ≠ 0 ∧ m.ebs ≠ 0 ∧ q ≤ b.te then (.yellow, { b with te := b.te - q })
    else (.red, b)
  else
    if m.eir = 0 ∨ m.ebs = 0 ∨ q > b.te then (.red, b)
    else if m.cir = 0 ∨ m.cbs = 0 ∨ q > b.tc then (.yellow, { b with te := b.te - q })
    else (.green, { b with tc := b.tc - q, te := b.te - q })

/-- Metered length: LEN plus ADJ, not below 0 (10 Table 2). -/
def Meter.length (m : Meter) (len : Nat) : Nat := ((len : Int) + m.adj).toNat

/-- The meter's verdict on a record: dropped, or its colour as admission sees it and whether DEI is to be set. -/
structure Metered where
  drop : Bool := false
  yellow : Bool := false
  ylim : Nat := 0
  dei : Bool := false
  deriving DecidableEq, Repr

/-- A record of egress slice sl passes its meter (R278 to R281). -/
def State.meterRun (s : State) (sl : Nat) (meter : Option Nat) (len : Nat) : State × Metered :=
  match meter with
  | none => (s, {})
  | some m =>
    if m % 32768 = 0 then (s, {})
    else if m / 32768 ≠ sl then (s.bump .slcMeterSlice sl, {})
    else
      let r := s.meterRec m
      if !r.valid then ((s.bump .slcMeterUnset sl).bump .metFramesNamingTheMeterWhileItsValidIs0 m, {})
      else
        let l := r.length len
        let x := r.colour (r.refill (s.meterDyn m) s.cycle) l
        let s1 := { s with tm := { s.tm with meters := s.tm.meters.set (fun _ => {}) m x.2 } }
        match x.1 with
        | .green => ((s1.bump .metGreenFrames m).bump .metGreenBytes m l, {})
        | .yellow =>
          let s2 := (s1.bump .metYellowFrames m).bump .metYellowBytes m l
          if r.yact ≥ 2 then ((if r.yact = 3 then s2.bump .xMeterYact m else s2), { drop := true })
          else (s2, { yellow := true, ylim := r.ylim, dei := r.yact == 1 })
        | .red =>
          let s2 := (s1.bump .metRedFrames m).bump .metRedBytes m l
          if r.ract then
            let s3 := s2.bump .metRedForwardedAsYellow m
            if r.yact ≥ 2 then ((if r.yact = 3 then s3.bump .xMeterYact m else s3), { drop := true })
            else (s3, { yellow := true, ylim := r.ylim, dei := r.yact == 1 })
          else (s2, { drop := true })

/-- METER_SET (10 Table 2, R280, R282). -/
def opMeterSet (x : Slot) (s : State) : Turn :=
  withLen x 32 s fun b =>
    let m := leAt b 24 4
    let r : Meter :=
    { valid := bufBit b 0 0, mode := bufBit b 0 1, cf := bufBit b 0 2, yact := bits (byteAt b 0) 4 3,
      ract := bufBit b 0 5, adj := signed 8 (byteAt b 1), cir := leAt b 4 4, cbs := leAt b 8 4, eir := leAt b 12 4,
      ebs := leAt b 16 4, ylim := leAt b 20 4 }
    checks [(m % 32768 == 0 || decide (m / 32768 ≠ x.spec) || decide (x.spec > 7), Status.meterRange),
      (r.mode && (decide (r.eir < r.cir) || decide (r.ebs < r.cbs)), Status.meterBad)] s fun _ =>
      let s1 := s.ctxWrite (fun c => { c with meters := c.meters.set (fun _ => {}) m r })
      let d : MeterDyn := { tc := bytesQ r.cbs, te := bytesQ r.ebs, last := s.cycle }
      ({ s1 with tm := { s1.tm with meters := s1.tm.meters.set (fun _ => {}) m d } }).ok

/-! ## Shapers (R283 to R289) -/

/-- Key of the shaper of a kind and target (10 Table 3). -/
def shaperKey (kind target : Nat) : Nat := kind * 2 ^ 20 + target

def State.shaper (s : State) (k : Nat) : Shaper := s.ctx.shapers.get (fun _ => {}) k
def State.shaperDyn (s : State) (k : Nat) : ShaperDyn := s.tm.shapers.get (fun _ => {}) k
def State.setShaperDyn (s : State) (k : Nat) (d : ShaperDyn) : State :=
  { s with tm := { s.tm with shapers := s.tm.shapers.set (fun _ => {}) k d } }

/-- The buckets of a shaper after their refill. -/
def Shaper.refill (r : Shaper) (d : ShaperDyn) (cyc : Nat) : ShaperDyn :=
  { tok := min (d.tok + (refillUnits r.rate d.last cyc : Nat)) (bytesQ r.burst : Nat),
    tok2 := min (d.tok2 + (refillUnits r.rate2 d.last cyc : Nat)) (bytesQ r.burst2 : Nat), last := cyc }

/-- A shaper's buckets now. -/
def State.shaperNow (s : State) (k : Nat) : ShaperDyn := (s.shaper k).refill (s.shaperDyn k) s.cycle

/-- A maximum-rate shaper of KIND 0, 1, 4, 5 or 6 lets its object send (R283, R284). -/
def State.shaperOk (s : State) (k : Nat) : Bool :=
  !(s.shaper k).en || (decide ((s.shaper k).rate ≠ 0) && decide (0 ≤ (s.shaperNow k).tok))

/-- The maximum shaper of a node lets it send (R285). -/
def State.nodeMaxOk (s : State) (k : Nat) : Bool :=
  !(s.shaper k).en || (decide ((s.shaper k).rate2 ≠ 0) && decide (0 ≤ (s.shaperNow k).tok2))

/-- A node is a candidate of the committed pass (R285). -/
def State.nodeCommitted (s : State) (k : Nat) : Bool :=
  (s.shaper k).en && decide ((s.shaper k).rate ≠ 0) && decide (0 ≤ (s.shaperNow k).tok)

/-- A pick charges a shaper by a shaped length (R283): its only bucket, or both buckets of a node. -/
def State.shaperCharge (s : State) (k len : Nat) : State :=
  if !(s.shaper k).en then s
  else
    let d := s.shaperNow k
    s.setShaperDyn k { d with tok := d.tok - (bytesQ len : Nat), tok2 := d.tok2 - (bytesQ len : Nat) }

/-- A held queue set's buckets stop (R289): their refill is settled when the hold begins, and resumes after it. -/
def State.shaperSettle (s : State) (k : Nat) : State := s.setShaperDyn k (s.shaperNow k)
def State.shaperResume (s : State) (k : Nat) : State := s.setShaperDyn k { s.shaperDyn k with last := s.cycle }

/-- The shapers of terminal context t: the terminal's and its eight class queues'. -/
def termShapers (t : Nat) : List Nat := shaperKey 2 t :: (List.range 8).map (fun c => shaperKey 0 (8 * t + c))

/-- The buckets of a queue set stop, where they do not stand already; and go on, where they stood. -/
def State.holdShapers (s : State) (t : Nat) : State :=
  if s.tm.held.contains t then s
  else
    let s1 := (termShapers t).foldl State.shaperSettle s
    { s1 with tm := { s1.tm with held := t :: s1.tm.held } }
def State.resumeShapers (s : State) (t : Nat) : State :=
  if !s.tm.held.contains t then s
  else
    let s1 := (termShapers t).foldl State.shaperResume s
    { s1 with tm := { s1.tm with held := s1.tm.held.filter (· != t) } }

/-- The slice of a shaper's target (10 Table 3, R23 to R25); none: no such target. -/
def State.shaperSlice (s : State) (kind target : Nat) : Option Nat :=
  match kind with
  | 0 => if target < 393216 then some (target / 2048 / 24) else none
  | 1 => if target < 1536 then some (target / 8 / 24) else none
  | 2 => if target < 49152 then some (target / 256 / 24) else none
  | 3 => if target < 192 then some (target / 24) else none
  | 4 => if target < 192 then some (target / 24) else none
  | 5 => if target < 2048 then some (s.portSlice (target / 32)) else none
  | 6 => if target < 64 then some (s.portSlice target) else none
  | _ => none

/-- Defaults of LEVEL and WEIGHT (10 Table 7). -/
def schedDefault (k : Nat) : Sched := { level := k % 8, weight := 1 }

def State.sched (s : State) (k : Nat) : Sched := s.tm.sched.get schedDefault k

/-! ### A pick and a command in one core cycle (R285) -/

/-- A list with the present entries of some keys, but for keys that it holds already. -/
def saveOld {α : Type} (get : Nat → α) (ks : List Nat) (l : List (Nat × α)) : List (Nat × α) :=
  l ++ (ks.filter (fun k => !l.any (fun e => e.1 == k))).map (fun k => (k, get k))

def State.deficit (s : State) (k : Nat) : Int := s.tm.deficits.get (fun _ => 0) k

/-- Before a command changes shapers `ks`, scheduling records `ss`, the deficits of items `ds` and credits `cs`: what a pick of the
same core cycle is to use. -/
def State.keepOld (s : State) (ks ss ds cs : List Nat) : State :=
  let o : TmOld := if s.tm.old.cycle = s.cycle then s.tm.old else { cycle := s.cycle }
  { s with tm := { s.tm with old := { o with
      recs := saveOld s.shaper ks o.recs, buckets := saveOld s.shaperDyn ks o.buckets, sched := saveOld s.sched ss o.sched,
      deficits := saveOld s.deficit ds o.deficits, cbs := saveOld s.cbsOf cs o.cbs } } }

/-- A table with the entries of a list written. -/
def putAll {α : Type} [DecidableEq α] (d : Nat → α) (l : List (Nat × α)) (t : Tab α) : Tab α :=
  l.foldl (fun t e => t.set d e.1 e.2) t

/-- The present entries of a list's keys. -/
def nowOf {α : Type} (get : Nat → α) (l : List (Nat × α)) : List (Nat × α) := l.map (fun e => (e.1, get e.1))

/-- The kept entries and the present ones change places. -/
def State.swapOld (s : State) : State :=
  let o := s.tm.old
  let s1 := { s with ctx := { s.ctx with shapers := putAll (fun _ => {}) o.recs s.ctx.shapers } }
  { s1 with tm := { s1.tm with
      shapers := putAll (fun _ => {}) o.buckets s1.tm.shapers, sched := putAll schedDefault o.sched s1.tm.sched,
      deficits := putAll (fun _ => 0) o.deficits s1.tm.deficits, cbs := putAll (fun _ => {}) o.cbs s1.tm.cbs,
      old := { o with
        recs := nowOf s.shaper o.recs, buckets := nowOf s.shaperDyn o.buckets,
        sched := nowOf s.sched o.sched, deficits := nowOf s.deficit o.deficits, cbs := nowOf s.cbsOf o.cbs } } }

/-- A pick, on the state before the commands of its core cycle (R285). -/
def State.pickOnOld (s : State) (pick : State → State) : State :=
  if s.tm.old.cycle = s.cycle then (pick s.swapOld).swapOld else pick s

/-- SHAPER_SET (10 Table 3, R286). The WEIGHT of KIND 5 is the queue's DWRR weight: it and that of SCHED_SET are one value, which
the later command writes (log entry 80). -/
def opShaperSet (x : Slot) (s : State) : Turn :=
  withLen x 24 s fun b =>
    let kind := bits (byteAt b 0) 2 0
    let target := leAt b 4 4
    checks [(s.shaperSlice kind target != some x.spec, Status.shaperRange)] s fun _ =>
      let r : Shaper :=
      { en := bufBit b 0 3, weight := byteAt b 1, rate := leAt b 8 4, burst := leAt b 12 4,
        rate2 := leAt b 16 4, burst2 := leAt b 20 4 }
      let k := shaperKey kind target
      let s0 := s.keepOld [k] (if kind = 5 then [target] else []) [] []
      let s1 := s0.ctxWrite (fun c => { c with shapers := c.shapers.set (fun _ => {}) k r })
      let d : ShaperDyn := if bufBit b 0 4 then { last := s.cycle }
        else { tok := (bytesQ r.burst : Nat), tok2 := (bytesQ r.burst2 : Nat), last := s.cycle }
      let s2 := s1.setShaperDyn k d
      let q := s2.sched target
      (if kind = 5 then { s2 with tm := { s2.tm with sched := s2.tm.sched.set schedDefault target { q with weight := r.weight } } }
       else s2).ok

/-- Does a shaper belong to a channel: KIND 0 to 4 (R287)? -/
def shaperOfChannel (c k : Nat) : Bool :=
  let t := k % 2 ^ 20
  match k / 2 ^ 20 with
  | 0 => t / 2048 == c
  | 1 => t / 8 == c
  | 2 => t / 256 == c
  | 3 => t == c
  | 4 => t == c
  | _ => false

/-- A channel reset returns the channel's shapers and class scheduling to their defaults (R287); a terminal left to its
move keeps its own (R520). -/
def State.resetChannelTm (s : State) (c : Nat) (keep : Nat → Bool) : State :=
  let gone (k : Nat) : Bool :=
    shaperOfChannel c k && !(match k / 2 ^ 20 with
      | 0 => keep (k % 2 ^ 20 / 8)
      | 2 => keep (k % 2 ^ 20)
      | _ => false)
  let s1 := s.ctxWrite (fun x => { x with shapers := x.shapers.keep (fun k => !gone k) })
  { s1 with tm := { s1.tm with
      old := {}, shapers := s1.tm.shapers.keep (fun k => !gone k),
      sched := s1.tm.sched.keep (fun k => !(decide (4096 + 8 * c ≤ k) && decide (k < 4096 + 8 * c + 8))) } }

/-! ## Scheduling records -/

/-- The queue index of a class at a port (R290). -/
def State.classMap (s : State) (port class_ : Nat) : Nat := s.tm.maps.get (fun k => k % 8) (8 * port + class_)

/-- Writes LEVEL and WEIGHT of n entries from a base, from byte 16 of a SCHED_SET buffer. -/
def schedWrites (b : List Byte) (base : Nat) (n : Nat) (t : Tab Sched) : Tab Sched :=
  (List.range n).foldl (fun t i => t.set schedDefault (base + i)
    { level := bits (byteAt b (16 + 2 * i)) 2 0, weight := byteAt b (17 + 2 * i) }) t

/-- SCHED_SET (10 Table 5, R298): items whose LEVEL and WEIGHT change lose their deficits. -/
def opSchedSet (x : Slot) (s : State) : Turn :=
  withLen x 80 s fun b =>
    let kind := byteAt b 0
    let target := byteAt b 1
    let inSlice := if kind = 0 then decide (target < 64) && s.portSlice target == x.spec
      else decide (target < 192) && target / 24 == x.spec
    let badMap := kind == 0 && (List.range 8).any (fun i => decide (byteAt b (8 + i) > 31))
    checks [(decide (kind > 1) || badMap || !inSlice, Status.schedBad)] s fun _ =>
      let base := if kind = 0 then 32 * target else 4096 + 8 * target
      let n := if kind = 0 then 32 else 8
      let new := schedWrites b base n s.tm.sched
      let changed (k : Nat) : Bool := decide (base ≤ k) && decide (k < base + n) && decide (new.get schedDefault k ≠ s.sched k)
      let itemGone (k : Nat) : Bool :=
        if kind = 0 then k / 2 ^ 20 == 5 && changed (k % 2 ^ 20)
        else (k / 2 ^ 20 == 0 && k % 2 ^ 20 / 2048 == target && changed (base + k % 8))
          || (k / 2 ^ 20 == 1 && k % 2 ^ 20 / 8 == target && changed (base + k % 8))
      let maps := if kind = 0 then
          (List.range 8).foldl (fun m i => m.set (fun k => k % 8) (8 * target + i) (byteAt b (8 + i))) s.tm.maps
        else s.tm.maps
      let s1 := s.keepOld [] ((List.range n).map (base + ·)) ((s.tm.deficits.filter (fun e => itemGone e.1)).map (·.1)) []
      ({ s1 with tm := { s1.tm with sched := new, maps := maps, deficits := s.tm.deficits.keep (fun k => !itemGone k) } }).ok

/-! ## DWRR -/

/-- An item of a DWRR group: its key, its weight and the length of its head frame. -/
structure DwrrItem where
  key : Nat
  weight : Nat
  len : Nat
  deriving DecidableEq, Repr

/-- Visits that an item needs before it may send: its deficit grows by WEIGHT × 256 bytes at each (R285, R291). -/
def State.dwrrRounds (s : State) (i : DwrrItem) : Nat :=
  let d := s.tm.deficits.get (fun _ => 0) i.key
  if (i.len : Int) ≤ d then 0 else (((i.len : Int) - d).toNat + i.weight * 256 - 1) / (i.weight * 256)

/-- The items in order of service after the one served last. -/
def afterServed (last : Nat) (items : List DwrrItem) : List DwrrItem :=
  items.filter (fun i => last < i.key) ++ items.filter (fun i => i.key ≤ last)

/-- The item that DWRR serves: fewest visits, then first in order. The one served last goes on while its deficit lasts. -/
def State.dwrrChoose (s : State) (order : List DwrrItem) : Option (DwrrItem × Nat) :=
  order.foldl (fun m i =>
    let r := max 1 (s.dwrrRounds i)
    match m with
    | none => some (i, r)
    | some (j, q) => if r < q then some (i, r) else some (j, q)) none

/-- Which items are visited in the last round: those before the winner. -/
def dwrrCredit (win : Nat) (rounds : Nat) : List DwrrItem → Bool → Tab Int → Tab Int
  | [], _, t => t
  | i :: is, past, t =>
    let visits := if past then rounds - 1 else rounds
    let t1 := t.upd (fun _ => 0) i.key (fun d => d + (visits * i.weight * 256 : Nat))
    dwrrCredit win rounds is (past || i.key == win) t1

/-- One DWRR pick in a group: the key of the item served, and the state with deficits and position moved (R284: items of
weight 0 only when no other is eligible, then in turn). -/
def State.dwrrPick (s : State) (group : Nat) (items : List DwrrItem) : Option (Nat × State) :=
  let weighted := items.filter (fun i => i.weight ≠ 0)
  let last := s.tm.served.get (fun _ => 0) group
  if weighted.isEmpty then
    match afterServed last items with
    | [] => none
    | i :: _ => some (i.key, { s with tm := { s.tm with served := s.tm.served.set (fun _ => 0) group i.key } })
  else
    match weighted.find? (fun i => i.key == last && s.dwrrRounds i == 0) with
    | some i =>
      some (i.key, { s with tm := { s.tm with deficits := s.tm.deficits.upd (fun _ => 0) i.key (fun d => d - (i.len : Int)) } })
    | none =>
      let order := afterServed last weighted
      match s.dwrrChoose order with
      | none => none
      | some (w, r) =>
        let t := dwrrCredit w.key r order false s.tm.deficits
        some (w.key, { s with tm := { s.tm with
          deficits := t.upd (fun _ => 0) w.key (fun d => d - (w.len : Int)),
          served := s.tm.served.set (fun _ => 0) group w.key } })

/-- An item whose queue has emptied loses its deficit. -/
def State.dwrrClear (s : State) (key : Nat) : State :=
  { s with tm := { s.tm with deficits := s.tm.deficits.set (fun _ => 0) key 0 } }

/-! ## CBS_SET -/

/-- CBS_SET (R293). -/
def opCbsSet (x : Slot) (s : State) : Turn :=
  withLen x 16 s fun b =>
    let q := leAt b 0 4
    let i := leAt b 8 4
    let bad := decide (q ≥ 2048) || s.portSlice (q / 32) != x.spec || decide (i ≥ s.macRate (q / 32) * 1000)
    checks [(bad, Status.cbsBad)] s fun _ =>
      ((s.keepOld [] [] [] [q]).setCbs q { en := bufBit b 4 0, i := i, hi := leAt b 12 2, lo := leAt b 14 2, credit := 0, last := s.cycle }).ok

/-! ## GCL_SET -/

/-- GCL_SET (R294, R296): the list waits for its change point. -/
def opGclSet (x : Slot) (s : State) : Turn :=
  withBuf x (fun l => decide (l ≥ 32)) s fun b =>
    let kind := byteAt b 0
    let t := byteAt b 1
    let count := leAt b 2 2
    let cycle := leAt b 20 4
    let own := if kind = 0 then decide (t < 64) && s.portSlice t == x.spec
      else kind == 1 && decide (t < 192) && t / 24 == x.spec
    let bad := !own || x.len != 32 + 8 * count || decide (count > 256) || cycle == 0 || decide (cycle > 1000000000)
      || decide (leAt b 16 4 ≥ 1000000000)
    checks [(bad, Status.gclBad)] s fun _ =>
      let g : Gcl :=
      { base := leAt b 8 8 * 1000000000 + leAt b 16 4, cycle := cycle,
        entries := (List.range count).map (fun e => (leAt b (32 + 8 * e) 4, leAt b (36 + 8 * e) 4)) }
      let target := if kind = 0 then t else 64 + t
      (s.setGates target { s.gatesOf target with pending := some (g, s.time.now256) }).ok

/-! ## Low-power states and resets (R299) -/

/-- The buckets of a meter and of a shaper at their sizes. -/
def Meter.full (m : Meter) (cyc : Nat) : MeterDyn := { tc := bytesQ m.cbs, te := bytesQ m.ebs, last := cyc }
def Shaper.full (r : Shaper) (cyc : Nat) : ShaperDyn := { tok := (bytesQ r.burst : Nat), tok2 := (bytesQ r.burst2 : Nat), last := cyc }

/-- Every bucket full and every credit 0; each list restarts at its next cycle start (exit from standby, 10 Table 6). -/
def State.fillBuckets (s : State) : State :=
  { s with tm := { s.tm with
      old := {},
      meters := s.ctx.meters.foldl (fun t e => t.set (fun _ => {}) e.1 (e.2.full s.cycle)) s.tm.meters,
      shapers := s.ctx.shapers.foldl (fun t e => t.set (fun _ => {}) e.1 (e.2.full s.cycle)) s.tm.shapers,
      cbs := s.tm.cbs.mapVals (fun _ => {}) (fun _ c => { c with credit := 0, fall := 0, last := s.cycle }),
      gates := s.ctx.gcls.foldl (fun t e =>
        let p := e.2.cycleStart s.time.presentNow
        t.upd (fun _ => {}) e.1 (fun g => { g with startAt := some p, entry := e.2.entryAt p })) s.tm.gates } }

end Sys2Proof.Machine
end

