-- ==== Sys2Proof/Machine/Switch.lean ====
section
/-! DEFINITION. Machine/Switch.lean: the switch core (09): virtual output queues, the Hub, cells and resequencing, egress
admission and spill, multicast and its residue, and the switch core's commands. -/

namespace Sys2Proof.Machine

/-! ## Slices as fast-clock units (R27) -/

/-- Work reaches a slice: it begins to wake where it is stopped, and its use is noted. One that has stopped in this core cycle
stays running (R28). -/
def State.wakeSlice (s : State) (sl : Nat) : State :=
  s.updSlice sl (fun x =>
    { x with unit := if x.unit == .stopped then (if s.thisCycle x.stoppedAt then .running else .waking) else x.unit, lastUse := s.time.now })

/-! ## Virtual output queues (R259, R261, R262) -/

/-- The key of a VOQ of ingress slice i: egress slice, class, unicast or multicast. -/
def voqKey (i e tc : Nat) (mc : Bool) : Nat := ((i * 8 + e) * 8 + tc) * 2 + b2n mc

def State.voq (s : State) (k : Nat) : Voq := s.sw.voqs.get (fun _ => {}) k
def State.setVoq (s : State) (k : Nat) (v : Voq) : State := { s with sw := { s.sw with voqs := s.sw.voqs.set (fun _ => {}) k v } }

/-- Bytes of a frame record: its header and the frame. -/
def VFrame.bytes (f : VFrame) : Nat := 24 + f.pkt.data.length

/-- Bytes of a record that its VOQ may send: all, once the frame is whole; what has come of a frame that is cut through, once its
record's header and 216 bytes of it have (R275). -/
def VFrame.ready (f : VFrame) (now : Nat) : Nat :=
  let n := (now - f.begins) * f.rate / (8 * usU)
  if f.rate = 0 ∨ f.pkt.data.length ≤ n then f.bytes
  else if f.cut ∧ 216 ≤ n then 24 + n
  else 0

/-- Has a VOQ a sendable cell (R259)? -/
def Voq.sendable (v : Voq) (now : Nat) : Bool :=
  match v.frames with
  | f :: _ => decide (f.sent < f.ready now)
  | [] => false

/-- Bytes and cells that a VOQ holds. -/
def Voq.bytes (v : Voq) : Nat := (v.frames.map (fun f => f.bytes - f.sent)).sum
def Voq.cells (v : Voq) : Nat := cdiv v.bytes 240

/-- Cells of an ingress slice's shared buffer in use. -/
def State.ingressCells (s : State) (i : Nat) : Nat :=
  ((s.sw.voqs.filter (fun e => e.1 / 128 == i)).map (fun e => e.2.cells)).sum

/-- A frame enters its VOQ whole or not at all (R261). -/
def State.voqEnqueue (s : State) (k : Nat) (f : VFrame) (out : Nat) : State :=
  let i := k / 128
  let v := s.voq k
  let w := { v with frames := v.frames ++ [{ f with headAt := s.time.now }] }
  if w.cells > s.fld Reg.swVoq 15 0 i ∨ s.ingressCells i + (w.cells - v.cells) > 61440 then
    ((s.bump .slcVoqFull i).raise (6 + i) 6).dropPkt f.pkt out 14
  else (s.setVoq k w).wakeSlice (k / 16 % 8)

/-- The payload of the next cell: up to `room` bytes of records that may be sent, and the frames that remain (R259). -/
def buildCell (now : Nat) : Nat → List VFrame → List Piece × List VFrame
  | _, [] => ([], [])
  | room, f :: fs =>
    let n := f.ready now - f.sent
    if room = 0 ∨ n = 0 then ([], f :: fs)
    else if room < n then ([{ frame := f, off := f.sent, len := room }], { f with sent := f.sent + room } :: fs)
    else if f.sent + n = f.bytes then
      let r := buildCell now (room - n) fs
      ({ frame := f, off := f.sent, len := n } :: r.1, r.2)
    else ([{ frame := f, off := f.sent, len := n }], { f with sent := f.sent + n } :: fs)

/-- Notes the first Hub request of a tagged frame. -/
def VFrame.stampReq (now : Nat) (f : VFrame) : VFrame :=
  { f with pkt := { f.pkt with rec_ := { f.pkt.rec_ with tag := f.pkt.rec_.tag.map (fun g =>
      { g with req := some (g.req.getD now) }) } } }

/-- A new head of a VOQ starts its wait (R262). -/
def rehead (old : List VFrame) (now : Nat) : List VFrame → List VFrame
  | [] => []
  | f :: fs => (match old with
    | g :: _ => if g.id = f.id then f else { f with headAt := now }
    | [] => { f with headAt := now }) :: fs

/-- A VOQ sends its next cell (R259). -/
def State.voqSend (s : State) (k : Nat) : State :=
  let v := s.voq k
  if !v.sendable s.time.now then s
  else
    let r := buildCell s.time.now 240 (v.frames.map (VFrame.stampReq s.time.now))
    let s1 := s.setVoq k { frames := rehead v.frames s.time.now r.2, seq := (v.seq + 1) % 2 ^ 24 }
    { s1 with sw := { s1.sw with cells := s1.sw.cells ++ [{ voq := k, seq := v.seq, pieces := r.1 }] } }

/-- VOQ_AGE (R262): a frame that has waited 100 ms at the head of its VOQ is dropped. -/
def State.voqAge (s : State) (k : Nat) : State :=
  let v := s.voq k
  match v.frames with
  | [] => s
  | f :: fs =>
    if s.time.now < f.headAt + 100 * msU then s
    else
      (((s.setVoq k { v with frames := rehead [f] s.time.now fs }).bump .slcVoqAge (k / 128)).raise (6 + k / 128) 6).dropPkt f.pkt 0xFFFF 15

/-! ## Egress admission (R264, R265) -/

/-- Free on-die cells of an egress slice. -/
def State.freeCells (s : State) (sl : Nat) : Nat :=
  32768 - ((s.sw.queues.filter (fun e => s.queueSlice e.1 == sl)).map (fun e => e.2.die)).sum

/-- Fields of a queue's spill profile. -/
def State.qShare (s : State) (q : Nat) : Nat := s.fld (Reg.swSpillLo (s.queue q).profile) 15 0
def State.qMargin (s : State) (q : Nat) : Nat := s.fld (Reg.swSpillLo (s.queue q).profile) 31 16
def State.qLimit (s : State) (q : Nat) : Nat := s.fld (Reg.swSpillHi (s.queue q).profile) 23 0
/-- NOSPILL; a disabled Pannier acts as NOSPILL (R393). -/
def State.qNoSpill (s : State) (q : Nat) : Bool := s.flg (Reg.swSpillHi (s.queue q).profile) 31 || s.hbm.fail

/-- A queue can spill now. -/
def State.canSpill (s : State) (q : Nat) : Bool := s.panAccepts && !s.qNoSpill q

/-- Where n further cells go: on die, or in the Pannier at or above SHARE or below FLOOR (R265). -/
def placeCells (spill : Bool) (share floor : Nat) : Nat → Nat → Nat → Nat × Nat
  | 0, _, _ => (0, 0)
  | n + 1, die, free =>
    if spill && (decide (share ≤ die) || decide (free < floor)) then
      let r := placeCells spill share floor n die free
      (r.1, r.2 + 1)
    else
      let r := placeCells spill share floor n (die + 1) (free - 1)
      (r.1 + 1, r.2)

/-- Cells of a frame in an egress queue: each frame starts a new cell (log entry 23). -/
def frameCells (p : Pkt) : Nat := cdiv p.data.length 256

/-- What becomes of a frame at its egress queue. -/
inductive Admission where
  | admitted | dropped | notReady
  deriving DecidableEq, Repr

/-- A queue can take a copy without withholding, as its slice's free cells stand when the copy is made (R264, R268). -/
def State.queueReady (s : State) (q : Nat) : Bool :=
  s.canSpill q || (!s.sw.withhold.get (fun _ => false) (s.queueSlice q) && decide (256 ≤ s.freeCells (s.queueSlice q)))

/-- A frame is placed in a queue (R265). Its cells that spill wait on die for their writes, which the slice offers at no more than
1.75 Tbit/s (R266). -/
def State.enqueue (s0 : State) (q : Nat) (p : Pkt) (portId : Option Nat) : State :=
  let sl := s0.queueSlice q
  let s := (s0.spillNow sl).spillIdle sl
  let e := s.queue q
  let r := placeCells (s.canSpill q) (s.qShare q) (s.fld Reg.swEgr 15 0 sl) (frameCells p) e.die (s.freeCells sl)
  let tag := p.rec_.tag.map (fun g => { g with enq := some s.time.now, spilled := g.spilled || decide (0 < r.2) })
  let f : QFrame :=
  { pkt := { p with rec_ := { p.rec_ with tag := tag } }, die := r.1, spill := 0, wait := r.2, enq := s.time.now, id := s.sw.nextId,
    portId := portId }
  let s1 := ((s.cbsSettle q).setQueue q { e with frames := e.frames ++ [f] }).spillNow sl
  let s2 := { s1 with sw := { s1.sw with nextId := s1.sw.nextId + 1 } }
  let s3 := ((s2.bumpQueue q 0).bumpQueue q 1 p.rec_.len).panicUpdate (queuePort q)
  if (s1.queue q).die ≥ s.qShare q - s.qMargin q then s3.panWake else s3

/-- Is a terminal context past its hold (R272)? -/
def State.isTermLost (s : State) (t : Nat) : Bool := s.sw.termLost.contains t

/-- A port's flush takes what reaches a queue (R270). -/
def State.queueFlushing (s : State) (q : Nat) : Bool := (s.swPort (queuePort q)).flush.isSome && s.flushTakes (queuePort q) q

/-- A frame at its egress queue: the yellow limit first (R277, R281), then admission (R265, R270, R272). -/
def State.queueAdmit (s : State) (q : Nat) (p : Pkt) (m : Metered) (portId : Option Nat) : State :=
  let port := queuePort q
  let n := frameCells p
  let e := s.queue q
  if m.yellow && decide (m.ylim ≤ e.depth) then (s.bumpQueue q 5).dropPkt p port 5
  else if s.queueFlushing q then (s.bumpQueue q 6).dropPkt p port 6
  else if decide (q < 0x80000) && s.isTermLost (q / 8) then (s.bumpQueue q 7).dropPkt p port 7
  else if e.depth + n > s.qLimit q || (s.qNoSpill q && decide (e.die + n > s.qShare q)) then (s.bumpQueue q 4).dropPkt p port 4
  else s.enqueue q p portId

/-! ## Destinations -/

/-- The egress queue of class c toward a switch port: a port's MAP queue (R290), or a channel's broadcast queue. -/
def State.portQueue (s : State) (sp class_ : Nat) : Nat :=
  if sp < 192 then qBc (8 * sp + class_) else qUp (32 * (sp - 192) + s.classMap (sp - 192) class_)

/-- The queue of a binding in a class, under its present context. -/
def State.bindingQueue (s : State) (b class_ : Nat) : Option Nat := (s.bindingCtx b).map (fun t => qTerm t class_)

/-- The egress queue of a unicast record as it is read: by its binding's present context, or by the port's MAP (R180, R298). -/
def State.destQueue (s : State) (f : VFrame) : Option Nat :=
  if f.dk = 0 then s.bindingQueue f.dest f.pkt.rec_.tc else some (s.portQueue f.dest f.pkt.rec_.tc)

/-- The copy of a frame as its meter leaves it. -/
def Pkt.marked (p : Pkt) (m : Metered) : Pkt := { p with rec_ := { p.rec_ with yellow := p.rec_.yellow || m.dei } }

/-! ## Multicast (R267 to R269) -/

def State.member (s : State) (x : Nat) : McMember := s.ctx.members.get (fun _ => {}) x

/-- The egress slice of a member; 8 for the ports that every slice serves. -/
def State.memberSlice (s : State) (m : McMember) : Nat :=
  if m.kind = 0 then (match s.bindingCtx m.value with
    | some t => t / 6144
    | none => 9)
  else s.swSlice m.value

/-- The slices that the members of a run lie in (R269). -/
def State.runSlices (s : State) (base count : Nat) : List Nat :=
  (List.range 9).filter (fun sl => (List.range count).any (fun i =>
    let m := s.member (base + i)
    m.valid && decide (m.kind < 2) && s.memberSlice m == sl))

/-- The learning source of an uplink port's frame (R244). -/
def State.uplinkSource (s : State) (k : Nat) : Nat × Nat :=
  if s.flg (Reg.fwdSrcgrp k) 6 then (2, s.fld (Reg.fwdSrcgrp k) 5 0) else (1, 192 + k)

/-- A copy toward the frame's own learning source is not made (R237): toward its binding or port, or toward a port whose frames
have the same hash group as their source. -/
def State.isSource (s : State) (m : McMember) (p : Pkt) : Bool :=
  p.rec_.src == some (m.kind, m.value)
    || (m.kind == 1 && decide (192 ≤ m.value) && decide (m.value < 256) && p.rec_.src == some (s.uplinkSource (m.value - 192)))

/-- The residue store of an egress slice. -/
def State.residueOf (s : State) (sl : Nat) : List Residue := s.sw.residue.get (fun _ => []) sl
def State.setResidue (s : State) (sl : Nat) (l : List Residue) : State :=
  { s with sw := { s.sw with residue := s.sw.residue.set (fun _ => []) sl l } }

/-- A copy for a queue: enqueued, or put in the residue behind what waits there for the queue (R268). -/
def State.copyTo (s : State) (es q : Nat) (p : Pkt) (m : Metered) (portId : Option Nat) : State :=
  let waiting := (s.residueOf es).any (fun r => r.queue == q)
  if s.queueReady q && !waiting then s.queueAdmit q (p.marked m) m portId
  else if s.fld Reg.swMc 15 0 = 0 then (s.bump .slcMcResidue es).bump .xMcResidue (queuePort q)
  else if (s.residueOf es).length ≥ 2048 then s.bump .slcResidueFull es
  else
    let r : Residue :=
    { queue := q, port := queuePort q, pkt := p.marked m, yellow := m.yellow, ylim := m.ylim, portId := portId, since := s.time.now,
      epoch := (s.swPort (queuePort q)).epoch }
    s.setResidue es (s.residueOf es ++ [r])

/-- A PORT_DOWN drop is counted at the queue and at the port (R267, R271). -/
def State.portDownCount (s : State) (q : Nat) : State :=
  let port := queuePort q
  if 192 ≤ port then (s.bumpQueue q 6).bump .uplPortDownDrops (port - 192) else (s.bumpQueue q 6).bump .xPortDown port

/-- One member's copy in egress slice es (R267, R268, 09 Table 3). -/
def State.memberCopy (s : State) (es : Nat) (f : VFrame) (m : Metered) (x : McMember) : State :=
  let p := { f.pkt with rec_ := { f.pkt.rec_ with mcCopy := true } }
  let c := p.rec_.tc
  let here := s.memberSlice x
  if !x.valid then s
  else if x.kind ≥ 2 then s.bump .xMemberKind f.dest
  else if !(here == es || (here == 8 && es == f.from_)) || s.isSource x p then s
  else
    let counted := if p.rec_.flood then (match p.rec_.svc with
      | some v => s.bump .svcFloodCopies v
      | none => s) else s
    let toQueue (q : Nat) (portId : Option Nat) : State :=
      if !counted.swUp (queuePort q) then counted.portDownCount q else counted.copyTo es q p m portId
    if x.kind = 0 then
      match s.bindingQueue x.value c with
      | some q => toQueue q none
      | none => s.bump .xNoEgress es
    else if x.value < 192 then toQueue (qBc (8 * x.value + c)) (some x.portId)
    else if x.value < 256 then toQueue (s.portQueue x.value c) none
    else if x.value = hostPort then counted.hostForward f.from_ p
    else if x.value = mgmtPort then counted.mgmtForward p
    else s.bump .slcInvalidDestinationPort es

/-- RESIDUE_ENQUEUE: the first residue copy of a queue that is ready (R268). -/
def State.residueEnqueue (s : State) (es q : Nat) : State :=
  match (s.residueOf es).find? (fun r => r.queue == q) with
  | none => s
  | some r =>
    if !s.queueReady q then s
    else
      let s1 := s.setResidue es ((s.residueOf es).erase r)
      if r.epoch ≠ (s.swPort r.port).epoch then s1.portDownCount q
      else s1.queueAdmit q r.pkt { yellow := r.yellow, ylim := r.ylim } r.portId

/-- MC_RESIDUE: copies that have waited RESIDUE_TIME are dropped (R268). -/
def State.residueAge (s : State) (es : Nat) : State :=
  let limit := min 10000 (s.fld Reg.swMc 15 0) * usU
  let old := (s.residueOf es).filter (fun r => decide (r.since + limit ≤ s.time.now))
  let s1 := (s.setResidue es ((s.residueOf es).filter (fun r => decide (s.time.now < r.since + limit)))).bump .slcMcResidue es old.length
  old.foldl (fun (s : State) r => s.bump .xMcResidue r.port) s1

/-! ## Records, cells and resequencing (R260, R271) -/

/-- A record is read from its stream in egress slice es (R271, R277). One whose binding has gone to another port since its lookup
is not dropped for that (R194). -/
def State.egressRecord (s : State) (es : Nat) (f0 : VFrame) : State :=
  let f := { f0 with pkt := { f0.pkt with rec_ := { f0.pkt.rec_ with
    tag := f0.pkt.rec_.tag.map (fun g => { g with xbar := some s.time.now }) } } }
  if f.dk = 2 then
    let m := s.meterRun es f.pkt.rec_.meter f.pkt.rec_.len
    if m.2.drop then m.1
    else (List.range f.run.2).foldl (fun s i => s.memberCopy es f m.2 (s.member (f.run.1 + i))) m.1
  else
    match s.destQueue f with
    | none => (s.bump .xNoEgress es).dropPkt f.pkt 0xFFFF 0
    | some q =>
      let port := queuePort q
      if f.port = port ∧ f.epoch ≠ (s.swPort port).epoch then
        (s.portDownCount q).dropPkt f.pkt port 6
      else
        let m := s.meterRun es f.pkt.rec_.meter f.pkt.rec_.len
        if m.2.drop then m.1.dropPkt f.pkt port 0 else m.1.queueAdmit q (f.pkt.marked m.2) m.2 f.pkt.rec_.portId

def State.reseq (s : State) (k : Nat) : Reseq := s.sw.reseq.get (fun _ => {}) k
def State.setReseq (s : State) (k : Nat) (r : Reseq) : State :=
  { s with sw := { s.sw with reseq := s.sw.reseq.set (fun _ => {}) k r } }

/-- Reads the pieces of one cell: a record is complete with its last byte; what overlaps a lost cell is skipped. -/
def State.readPieces (s : State) (es k : Nat) : List Piece → State
  | [] => s
  | p :: ps =>
    let r := s.reseq k
    let fits := p.off == 0 || r.part == some p.off
    let finished := decide (p.off + p.len = p.frame.bytes)
    let s1 := s.setReseq k { r with part := if !fits then none else if finished then some 0 else some (p.off + p.len) }
    let s2 := if fits && finished then s1.egressRecord es p.frame else s1
    s2.readPieces es k ps

/-- A lost cell's place in its stream is passed: what overlaps it is skipped up to the next FIRST_REC (R260). -/
def State.skipCell (s : State) (k : Nat) : State :=
  let r := s.reseq k
  s.setReseq k { r with next := (r.next + 1) % 2 ^ 24, part := none, lost := r.lost.filter (fun n => n != r.next) }

/-- Reads the cells that are in order; `n` bounds their number. -/
def State.drainCells (es k : Nat) : Nat → State → State
  | 0, s => s
  | n + 1, s =>
    let r := s.reseq k
    if r.lost.contains r.next then State.drainCells es k n (s.skipCell k)
    else
      match r.held.find? (fun c => c.1.seq == r.next) with
      | none => s
      | some c =>
        let s1 := s.setReseq k { r with next := (r.next + 1) % 2 ^ 24, held := r.held.filter (fun d => d.1.seq != r.next) }
        State.drainCells es k n (s1.readPieces es k c.1.pieces)

/-- Drains what a stream holds. -/
def State.drainAll (s : State) (k : Nat) : State :=
  let r := s.reseq k
  State.drainCells (k / 16 % 8) k (r.held.length + r.lost.length + 1) s

/-- A cell of a stream is declared lost (R260): counted and reported. -/
def State.cellLoss (s : State) (k : Nat) : State :=
  let es := k / 16 % 8
  ((s.bump .slcCellLost es).report { cls := 3, cause := .cellLost, site := siteSlice es, obj := k }).raise (6 + es) 7

/-- The cell that a stream waits for is lost. -/
def State.loseCell (s : State) (k : Nat) : State := ((s.cellLoss k).skipCell k).drainAll k

/-- A SEQ lies behind the one that its stream waits for: the cell was declared lost before. -/
def Reseq.behind (r : Reseq) (seq : Nat) : Bool := decide (2 ^ 23 ≤ (seq + 2 ^ 24 - r.next) % 2 ^ 24)

/-- EGRESS_CELL: a cell in flight reaches its egress slice (R260). One whose CRC fails is a lost cell; one that comes after it was
declared lost is discarded. -/
def State.egressCell (s : State) (k seq : Nat) (crcOk : Bool) : State :=
  let es := k / 16 % 8
  match s.sw.cells.find? (fun c => c.voq == k && c.seq == seq) with
  | none => s
  | some c =>
    if (s.slice es).unit != .running then s.wakeSlice es
    else
      let s1 := { s with sw := { s.sw with cells := s.sw.cells.erase c } }
      let r := s1.reseq k
      if r.behind seq then s1
      else if !crcOk then ((s1.setReseq k { r with lost := r.lost ++ [seq] }).cellLoss k).drainAll k
      else (s1.setReseq k { r with held := r.held ++ [(c, s.time.now)] }).drainAll k

/-- CELL_LOST: the next SEQ is missing 64 core cycles after a higher one has arrived (R260). -/
def State.cellLost (s : State) (k : Nat) : State :=
  let r := s.reseq k
  if r.held.any (fun c => decide (c.2 + 64 * cycleU ≤ s.time.now)) then s.loseCell k else s

/-! ## The Hub (R263, R264) -/

/-- The queues of an egress slice that the head frames of the VOQs toward it would enter: of a group, its members in that slice
(R264; log entry 30). -/
def State.headQueues (s : State) (es : Nat) : List Nat :=
  (s.sw.voqs.filter (fun v => v.1 / 16 % 8 == es)).flatMap (fun v =>
    match v.2.frames with
    | [] => []
    | f :: _ =>
      if f.dk = 2 then
        (List.range f.run.2).flatMap (fun i =>
          let m := s.member (f.run.1 + i)
          if s.memberSlice m != es then []
          else if m.valid && m.kind == 0 then (s.bindingQueue m.value f.pkt.rec_.tc).toList
          else if m.valid && m.kind == 1 && decide (m.value < 256) then [s.portQueue m.value f.pkt.rec_.tc]
          else [])
      else (s.destQueue f).toList)

/-- An egress slice withholds itself below 256 free cells where no queue that would take cells can spill, until 512 are
free (R264). -/
def State.withholdUpdate (s0 : State) (es : Nat) : State :=
  let s := s0.spillNow es
  let was := s.sw.withhold.get (fun _ => false) es
  let free := s.freeCells es
  let now := if was then decide (free < 512) else decide (free < 256) && (s.headQueues es).all (fun q => !s.canSpill q)
  { s with sw := { s.sw with withhold := s.sw.withhold.set (fun _ => false) es now } }

/-- The class of request (i, e): the highest with a sendable cell, of a slice that does not withhold. -/
def State.hubRequest (s : State) (i e : Nat) : Option Nat :=
  if s.sw.withhold.get (fun _ => false) e then none
  else ((List.range 8).map (7 - ·)).find? (fun c =>
    (s.voq (voqKey i e c false)).sendable s.time.now || (s.voq (voqKey i e c true)).sendable s.time.now)

/-- Pointer keys: g of (plane, egress slice, class) and a of (plane, ingress slice, class). -/
def hubG (plane e c : Nat) : Nat := 2 * (64 * plane + 8 * e + c)
def hubA (plane i c : Nat) : Nat := 2 * (64 * plane + 8 * i + c) + 1

/-- The first of eight, from a pointer on, that a test selects. -/
def firstFrom (start : Nat) (p : Nat → Bool) : Option Nat := ((List.range 8).map (fun j => (start + j) % 8)).find? p

/-- The highest of the classes listed. -/
def topClass (l : List Nat) : Nat := l.foldl max 0

/-- A match under construction: (ingress, egress, class) triples and the pointers. -/
structure HubMatch where
  pairs : List (Nat × Nat × Nat) := []
  ptr : Tab Nat := []
  deriving DecidableEq, Repr

/-- The grant of egress slice e, among the requests of unmatched ingress slices. -/
def HubMatch.grant (m : HubMatch) (req : List (Nat × Nat × Nat)) (plane e : Nat) : Option (Nat × Nat × Nat) :=
  if m.pairs.any (fun p => p.2.1 == e) then none
  else
    let rs := req.filter (fun r => r.2.1 == e && !m.pairs.any (fun p => p.1 == r.1))
    if rs.isEmpty then none
    else
      let c := topClass (rs.map (·.2.2))
      (firstFrom (m.ptr.get (fun _ => 0) (hubG plane e c)) (fun i => rs.any (fun r => r.1 == i && r.2.2 == c))).map (fun i => (i, e, c))

/-- The acceptance of ingress slice i, among its grants. -/
def hubAccept (ptr : Tab Nat) (grants : List (Nat × Nat × Nat)) (plane i : Nat) : Option (Nat × Nat × Nat) :=
  let gs := grants.filter (fun g => g.1 == i)
  if gs.isEmpty then none
  else
    let c := topClass (gs.map (·.2.2))
    (firstFrom (ptr.get (fun _ => 0) (hubA plane i c)) (fun e => gs.any (fun g => g.2.1 == e && g.2.2 == c))).map (fun e => (i, e, c))

/-- One iteration; pointers move only in iteration 1. -/
def HubMatch.iterate (m : HubMatch) (req : List (Nat × Nat × Nat)) (plane : Nat) (first : Bool) : HubMatch :=
  let grants := (List.range 8).filterMap (m.grant req plane)
  let accepts := (List.range 8).filterMap (hubAccept m.ptr grants plane)
  let ptr := if first then
      accepts.foldl (fun t p => (t.set (fun _ => 0) (hubG plane p.2.1 p.2.2) ((p.1 + 1) % 8)).set (fun _ => 0)
        (hubA plane p.1 p.2.2) ((p.2.1 + 1) % 8)) m.ptr
    else m.ptr
  { pairs := m.pairs ++ accepts, ptr := ptr }

/-- The requests of a slot. -/
def State.hubRequests (s : State) : List (Nat × Nat × Nat) :=
  (List.range 64).filterMap (fun x => (s.hubRequest (x / 8) (x % 8)).map (fun c => (x / 8, x % 8, c)))

/-- One matched pair sends a cell: unicast and multicast VOQs alternate at equal class. -/
def State.hubSend (s : State) (p : Nat × Nat × Nat) : State :=
  let u := voqKey p.1 p.2.1 p.2.2 false
  let m := voqKey p.1 p.2.1 p.2.2 true
  let key := 8 * p.1 + p.2.1
  let last := s.sw.altern.get (fun _ => false) key
  let useM := (s.voq m).sendable s.time.now && (!(s.voq u).sendable s.time.now || !last)
  let s1 := { s with sw := { s.sw with altern := s.sw.altern.set (fun _ => false) key useM } }
  s1.voqSend (if useM then m else u)

/-- HUB_SLOT: one slot of a plane (R263); where the two matchers disagree its matches are discarded and no pointer moves
(R492). -/
def State.hubSlot (s : State) (plane : Nat) (mismatch : Bool) : State :=
  let s := (List.range 8).foldl State.withholdUpdate s
  if mismatch then s.report { cls := 3, cause := .hubMismatch, site := siteHub, obj := plane }
  else
    let req := s.hubRequests
    let m0 : HubMatch := { ptr := s.sw.ptr }
    let m := ((m0.iterate req plane true).iterate req plane false).iterate req plane false
    m.pairs.foldl State.hubSend { s with sw := { s.sw with ptr := m.ptr } }

/-! ## Commands (09 Table 4) -/

/-- The queue of a kind and number, where it lies in a slice. -/
def State.profQueue (s : State) (kind n sl : Nat) : Option Nat :=
  match kind with
  | 0 => if n < 393216 ∧ n / 2048 / 24 = sl then some n else none
  | 1 => if n < 2048 ∧ s.portSlice (n / 32) = sl then some (qUp n) else none
  | 2 => if n < 1536 ∧ n / 8 / 24 = sl then some (qBc n) else none
  | _ => none

/-- SW_QPROF (R276). -/
def opSwQprof (x : Slot) (s : State) : Turn :=
  withLen x 16 s fun b =>
    let kind := byteAt b 0
    let first := leAt b 4 4
    let n := leAt b 8 4
    if n = 0 then s.ok
    else if n > 393216 then s.fails Status.queueRange
    else
      checks [((List.range n).any (fun i => (s.profQueue kind (first + i) x.spec).isNone), Status.queueRange)] s fun _ =>
        ((List.range n).foldl (fun s i =>
          match s.profQueue kind (first + i) x.spec with
          | some q => s.setQueue q { s.queue q with profile := byteAt b 12 % 16 }
          | none => s) s).ok

/-- MC_GROUP_SET (R269, R276). -/
def opMcGroupSet (x : Slot) (s : State) : Turn :=
  withLen x 8 s fun b =>
    let g := leAt b 0 2
    let base := leAt b 2 3
    let count := leAt b 5 2
    checks [(decide (base + count > 131072) || decide (g > 16383) || decide (count > 4096), Status.mcRange)] s fun _ =>
      let v : McGroup := { base := base, count := count, valid := bufBit b 7 0, slices := s.runSlices base count }
      (s.ctxWrite (fun c => { c with groups := c.groups.set (fun _ => {}) g v })).ok

/-- Member entry i of an MC_MEMBER_WRITE buffer (09 Table 3). -/
def memberOf (b : List Byte) (i : Nat) : McMember :=
  let o := 4 + 8 * i
  { value := leAt b o 4, kind := bits (byteAt b (o + 4)) 1 0, valid := bufBit b (o + 4) 2, portId := leAt b (o + 6) 2 }

/-- MC_MEMBER_WRITE (R269). -/
def opMcMemberWrite (x : Slot) (s : State) : Turn :=
  withBuf x (fun l => decide (4 ≤ l) && (l - 4) % 8 == 0) s fun b =>
    let first := leAt b 0 4
    let n := (x.len - 4) / 8
    if n = 0 then s.ok
    else
      checks [(decide (first + n > 131072), Status.mcRange)] s fun _ =>
        ((List.range n).foldl (fun s i =>
          s.ctxWrite (fun c => { c with members := c.members.set (fun _ => {}) (first + i) (memberOf b i) })) s).ok

/-! ## Any frame in the block -/

/-- Some frame that the block holds satisfies a test: in the loops, VOQs, cells, queues, residue and cipher subsystem. -/
def State.anyFrame (s : State) (p : Pkt → Bool) : Bool :=
  s.slices.any (fun x => x.2.chain.any p || x.2.ingress.any (fun f => p f.2))
    || s.sw.voqs.any (fun v => v.2.frames.any (fun f => p f.pkt))
    || s.sw.cells.any (fun c => c.pieces.any (fun f => p f.frame.pkt))
    || s.sw.reseq.any (fun r => r.2.held.any (fun c => c.1.pieces.any (fun f => p f.frame.pkt)))
    || s.sw.queues.any (fun q => q.2.frames.any (fun f => p f.pkt))
    || s.sw.residue.any (fun r => r.2.any (fun x => p x.pkt))
    || s.cph.reqs.any (fun r => p r.pkt)

end Sys2Proof.Machine
end

