-- ==== Sys2Proof/Machine/Keys.lean ====
section
/-! DEFINITION. Machine/Keys.lean: the key store (11, R307 to R317, R497): users of slots, KEK,
KEY_QUERY, PON_KEY_SET, and requests that fail. The commands that change a slot stand in Machine/KeyStore.lean. -/

namespace Sys2Proof.Machine

/-! ## Users (R307) -/

def SealSec.names (x : SealSec) (k : Nat) : Bool := x.valid && (x.slot0 == k || x.slot1 == k)
def SealEp.names (x : SealEp) (k : Nat) : Bool := x.valid && (x.rx0 == k || x.rx1 == k)

/-- How many transmitting users name a slot: seal sections, and SAs of enabled MACsec transmit SCs (log entry 31). -/
def CtxTables.txUsers (c : CtxTables) (k : Nat) : Nat :=
  (c.services.filter (fun e => e.2.sec.names k)).length
    + (c.msecTx.map (fun e => if e.2.en then (e.2.slots.filter (· == k)).length else 0)).sum

/-- Does a receiving user name a slot? -/
def CtxTables.rxUser (c : CtxTables) (k : Nat) : Bool :=
  c.endpoints.any (fun e => e.2.names k) || c.msecRx.any (fun e => e.2.valid && e.2.slots.contains k)

/-- R307 does not hold of a slot of TYPE 3 to 5. -/
def CtxTables.slotShared (c : CtxTables) (k : Nat) : Bool := decide (1 < c.txUsers k) || (decide (0 < c.txUsers k) && c.rxUser k)

def sealType (t : Nat) : Bool := decide (3 ≤ t) && decide (t ≤ 5)

/-- Would a change of the tables break R307 for one of the slots it names? -/
def State.sharedAfter (s : State) (f : CtxTables → CtxTables) (slots : List Nat) : Bool :=
  slots.any (fun k => sealType (s.keySlot k).cur.type && (f s.ctx).slotShared k)

/-! ## Material -/

/-- The material of a generation of a slot that a request is bound to. -/
def State.material (s : State) (k gen : Nat) : KeyMat :=
  let x := s.keySlot k
  if x.cur.gen = gen then x.cur else x.retired.getD {}

/-- A request that still uses material: queued, waiting or running. -/
def CphReq.live (r : CphReq) : Bool := r.phase != .complete

/-- A request bound to a slot, in any generation or in one. -/
def CphReq.boundTo (r : CphReq) (k : Nat) (gen : Option Nat) : Bool :=
  r.live && ((match r.rx with
    | some (x, g) => x == k && (gen.isNone || gen == some g)
    | none => false) ||
    (match r.tx with
     | some (x, g, _) => x == k && (gen.isNone || gen == some g)
     | none => false))

/-- The retired generation of a slot is still in use (R314). -/
def State.retiredInUse (s : State) (k : Nat) : Bool := (s.keySlot k).retired.isSome

/-- The generation that a write or an erase ends: kept while a request is bound to it, zeroised otherwise (R311). -/
def State.retire (s : State) (k : Nat) : Option KeyMat :=
  let c := (s.keySlot k).cur
  if c.type != 0 && s.cph.reqs.any (fun r => r.boundTo k (some c.gen)) then some c else none

/-- The next order number of a key write or phase switch (R326). -/
def State.nextOrder (s : State) : State := { s with cph := { s.cph with order := s.cph.order + 1 } }

/-! ## Requests that fail -/

/-- What the framer has planned for a failed request is dropped, with the rest of its SDU (R318). -/
def PonCh.dropPlanned (p : PonCh) (id : Nat) : PonCh :=
  match p.planned.find? (fun x => x.req == id) with
  | none => p
  | some x =>
    { p with planned := p.planned.filter (fun y => y.req != id),
             pend := if x.last then p.pend
               else (match p.pend with
                 | f :: fs => if f.queue = x.queue then fs else f :: fs
                 | [] => []) }

/-- A request fails: it leaves the subsystem, and what it served is dropped (R304, R305, R313, R318). A keystream of an
upstream burst is then never ready. -/
def State.failReq (s : State) (r : CphReq) : State :=
  let gone (c : Cluster) : Cluster := { c with lane0 := c.lane0.filter (· != r.id), lane1 := c.lane1.filter (· != r.id) }
  let s1 := { s with cph := { s.cph with
    reqs := s.cph.reqs.filter (fun x => x.id != r.id),
    clusters := s.cph.clusters.mapVals (fun _ => {}) (fun _ c => gone c) } }
  match r.user with
  | .pass port _ _ => s1.dropPkt r.pkt port 29
  | .dsKs c => (s1.updCh c (·.dropPlanned r.id)).bump .xKsFail c
  | .upKs _ _ _ _ => s1
  | .mic _ => s1

/-- A port is down: the frames that the cipher subsystem holds for it are dropped as PORT_DOWN (R271). -/
def State.dropPasses (s : State) (sp : Nat) : State :=
  let ours (r : CphReq) : Bool := match r.user with
    | .pass port _ _ => port == sp
    | _ => false
  let gone := s.cph.reqs.filter ours
  let out (l : List Nat) : List Nat := l.filter (fun i => !gone.any (fun r => r.id == i))
  let s1 := { s with cph := { s.cph with
    reqs := s.cph.reqs.filter (fun r => !ours r),
    clusters := s.cph.clusters.mapVals (fun _ => {}) (fun _ c => { c with lane0 := out c.lane0, lane1 := out c.lane1 }) } }
  gone.foldl (fun (s : State) (r : CphReq) =>
    (if 192 ≤ sp then s.bump .uplPortDownDrops (sp - 192) else s.bump .xPortDown sp).dropPkt r.pkt sp 6) s1

/-- The cluster that holds a request. -/
def CphReq.cluster (r : CphReq) : Option Nat :=
  match r.phase with
  | .placed n _ => some n
  | _ => none

/-- A request runs in its lane: it is not merely waiting there. -/
def State.reqRuns (s : State) (r : CphReq) : Bool :=
  match r.phase with
  | .placed n _ =>
    let c := s.cph.clusters.get (fun _ => {}) n
    c.lane0.head? == some r.id || c.lane1.head? == some r.id
  | _ => false

/-! ## KEK and slots -/

/-- KEK_SET (R310). -/
def opKekSet (x : Slot) (s : State) : Turn :=
  withLen x 64 s fun b =>
    checks [(s.cph.kekLock, Status.kekLocked)] s fun _ =>
      ({ s with cph := { s.cph with kek := some (cut b 16 32), kekLock := bufBit b 0 0 } }).ok

/-- Key bytes that a TYPE requires (R309). -/
def keyLength (type : Nat) : Nat := if type ≤ 2 then 16 else 32

/-- The material of a KEY_WRITE buffer; none where its blob does not unwrap (R309). -/
def keyOf (kek : Option (List Byte)) (b : List Byte) : Option KeyMat :=
  let type := byteAt b 4 % 8
  let n := byteAt b 5
  let of (raw : List Byte) (salt ssci : Nat) : KeyMat :=
    { type := type, key := cut raw 0 n, salt := cut raw salt 12, ssci := leAt raw ssci 4 }
  if bufBit b 4 3 then (Config.keyUnwrap (kek.getD []) (cut b 16 (n + 24))).map (fun raw => of raw n (n + 12))
  else some { (of (b.drop 16) 32 44) with key := cut b 16 n }

/-- USE of a slot (11 Table 2). -/
def State.keyUse (s : State) (k : Nat) : Nat :=
  if s.ctx.txUsers k > 0 then 1 else if s.ctx.rxUser k then 2 else 0

/-- KEY_QUERY: TYPE, USE, GEN, retired flag and LAST_PN in 16 bytes, one byte each but GEN (2) and LAST_PN (8, last): DESIGN CHOICE
(log entry 83). -/
def opKeyQuery (x : Slot) (s : State) : Turn :=
  withLen x 4 s fun b =>
    let k := leAt b 0 4
    checks [(decide (k > 131071), Status.keyRange)] s fun _ =>
      let y := s.keySlot k
      s.returns x Status.ok 16 (toLe 1 y.cur.type ++ toLe 1 (s.keyUse k) ++ toLe 2 y.cur.gen ++ toLe 1 (b2n y.retired.isSome)
        ++ toLe 3 0 ++ toLe 8 y.cur.lastPn)

/-! ## PON line keys (R315, R317) -/

/-- A slot field of PON_KEY_SET: all ones for none. -/
def slotField (b : List Byte) (o : Nat) : Option Nat := let v := leAt b o 4; if v = 0xFFFFFFFF then none else some v

def State.slotBad (s : State) (type : Nat) : Option Nat → Bool
  | none => false
  | some k => (s.keySlot k).cur.type != type

/-- PON_KEY_SET (R315, R317); one for a context or channel that does not exist changes nothing: DESIGN CHOICE (log entry 83). -/
def opPonKeySet (x : Slot) (s : State) : Turn :=
  withLen x 20 s fun b =>
    let n := leAt b 0 4
    let bcast := bufBit b 4 0
    let k1 := slotField b 8
    let k2 := slotField b 12
    let kp := if bcast then none else slotField b 16
    checks [([k1, k2, kp].any (fun k => decide (k.getD 0 > 131071)), Status.keyRange),
      (s.slotBad 1 k1 || s.slotBad 1 k2 || s.slotBad 2 kp, Status.keyType)] s fun _ =>
      if bcast then
        if n < 192 then (s.updCh n (fun c => { c with bcast1 := k1, bcast2 := k2, bcastTx := byteAt b 5 })).ok else s.ok
      else if n < 49152 then
        (s.updTerm (n / 256) (n % 256) (fun y => { y with key1 := k1, key2 := k2, plKey := kp, txIndex := byteAt b 5 })).ok
      else s.ok

end Sys2Proof.Machine
end

