-- ==== Sys2Proof/Machine/Cipher.lean ====
section
/-! DEFINITION. Machine/Cipher.lean: cipher requests (R301 to R306), passes over sealed and MACsec frames (R319 to R335),
and the commands of the sealed services and MACsec (11 Table 9). -/

namespace Sys2Proof.Machine

/-- Bytes in their first n positions, exclusive-ored with a stream. -/
def xorStream (f : Nat → Byte) : Nat → List Byte → List Byte
  | _, [] => []
  | i, b :: bs => (b ^^^ f i) :: xorStream f (i + 1) bs

/-- The AES-128-CTR keystream of a mode from a position of an FS frame or FS burst on: counted in 16-byte blocks from its first byte
(R52, R85). DEDUCED (log entry 5): byte p is under byte p mod 16 of block p div 16, as the worked example of 03 places it. -/
def lineStream (mode : Nat) (key : List Byte) (up : Bool) (sfc pos i : Nat) : Byte :=
  Config.lineByte mode key up sfc ((pos + i) / 16) ((pos + i) % 16)

/-- Exclusive or of two byte strings. -/
def xorBytes (a b : List Byte) : List Byte := List.zipWith (fun x y => x ^^^ y) a b

/-- AES-256-GCM sealing: ciphertext and tag. -/
def gcmSeal (key iv aad pt : List Byte) : List Byte :=
  let ct := xorStream (Config.gcmByte key iv) 0 pt
  ct ++ toBe 16 (Config.gcmTag key iv aad ct).toNat

/-- AES-256-GCM opening of ciphertext and tag; none where the tag does not verify. -/
def gcmOpen (key iv aad body : List Byte) : Option (List Byte) :=
  let ct := body.take (body.length - 16)
  if body.length ≥ 16 ∧ toBe 16 (Config.gcmTag key iv aad ct).toNat = body.drop (body.length - 16) then
    some (xorStream (Config.gcmByte key iv) 0 ct)
  else none

/-! ## Packet numbers (R322, R328) -/

/-- Bits of a packet number by TYPE. -/
def pnBits (type : Nat) : Nat := match type with | 3 => 48 | 4 => 32 | _ => 64

/-- A key event: REKEY 0x50 or PN_EXHAUSTED 0x51, with user, slot, GEN and PN (log entry 32). -/
def State.keyEvent (s : State) (code user k gen pn : Nat) : State :=
  (s.event code user (toLe 4 k ++ toLe 2 gen ++ toLe 8 pn)).raise 14 (2 + (code - 0x50))

/-- Takes the next packet number of a transmitting slot (R304, R327, R328); none: exhausted. `user` is the service, or
65,536 + the logical port. -/
def State.takePn (s : State) (sl k user : Nat) : State × Option Nat :=
  let x := s.keySlot k
  let m := x.cur
  let top := 2 ^ pnBits m.type
  if m.lastPn ≥ top - 1 then
    let s1 := s.bump .slcPnExhausted sl
    if m.exhausted then (s1, none)
    else ((s1.setKeySlot k { x with cur := { m with exhausted := true } }).keyEvent 0x51 user k m.gen m.lastPn, none)
  else
    let pn := m.lastPn + 1
    let due := decide (top - 256 * s.fld Reg.cphExh 23 0 ≤ pn) && !m.rekeyed && s.fld Reg.cphExh 23 0 != 0
    let s1 := s.setKeySlot k { x with cur := { m with lastPn := pn, rekeyed := m.rekeyed || due } }
    (if due then (s1.keyEvent 0x50 user k m.gen pn).bump .keyRekeyEvents k else s1, some pn)

/-! ## Forms (R323, R334) -/

/-- Where the SecTAG's EtherType stands: after the addresses and up to two tags in clear; none where it is not 0x88E5. -/
def secTagAt (sl : State) (slice : Nat) (f : List Byte) : Option Nat :=
  let c := sl.parseCfg slice
  let o1 := if isTpid c (beAt f 12 2) then 16 else 12
  let o2 := if o1 = 16 ∧ isTpid c (beAt f 16 2) then 20 else o1
  if beAt f o2 2 = 0x88E5 then some o2 else none

/-- The seal section of a frame's service. -/
def State.sealOf (s : State) (p : Pkt) : SealSec :=
  match p.rec_.svc with
  | some v => (s.service v).sec
  | none => {}

def State.inputForm (s : State) (sl : Nat) (p : Pkt) : Form :=
  if (s.sealOf p).valid && (match p.rec_.src with
    | some (0, _) => true
    | _ => false) then .sealed
  else if decide (192 ≤ p.rec_.inPort) && decide (p.rec_.inPort < 256) && (secTagAt s sl p.data).isSome then .macsec
  else .clear

def State.msecTxOf (s : State) (p : Nat) : MsecTx := s.ctx.msecTx.get (fun _ => {}) p

/-- The output form toward a queue: a PON binding under a sealed service, or an uplink port whose transmit SC has EN. -/
def State.outputForm (s : State) (q : Nat) (p : Pkt) : Form :=
  if q < 0x80000 then (if (s.sealOf p).valid then .sealed else .clear)
  else if q < 0xC0000 then (if (s.msecTxOf (queuePort q - 192)).en then .macsec else .clear)
  else .clear

/-- The binding of the terminal whose queue set holds a queue. -/
def State.queueBinding (s : State) (q : Nat) : Option Nat :=
  if q < 0x80000 then (s.terms.get (fun _ => {}) (q / 8)).binding else none

/-! ## Seal endpoints (11 Table 6) -/

/-- The ways of the set of (binding, service). -/
def epWays (b v : Nat) : List Nat := (List.range 4).map (fun w => 4 * (Config.endpointSet b v % 16384) + w)
def State.ep (s : State) (k : Nat) : SealEp := s.ctx.endpoints.get (fun _ => {}) k
def State.setEp (s : State) (k : Nat) (e : SealEp) : State :=
  { s with ctx := { s.ctx with endpoints := s.ctx.endpoints.set (fun _ => {}) k e } }

/-- The valid endpoint of (binding, service). -/
def State.epFind (s : State) (b v : Nat) : Option Nat :=
  (epWays b v).find? (fun k => (s.ep k).valid && (s.ep k).binding == b && (s.ep k).svc == v)

def SealEp.slot (e : SealEp) (phase : Nat) : Nat := if phase = 0 then e.rx0 else e.rx1
def SealEp.h (e : SealEp) (phase gen : Nat) : Nat :=
  if phase = 0 then (if e.g0 = gen then e.h0 else 0) else (if e.g1 = gen then e.h1 else 0)
def SealEp.setH (e : SealEp) (phase gen pn : Nat) : SealEp :=
  if phase = 0 then { e with h0 := pn, g0 := gen } else { e with h1 := pn, g1 := gen }

/-- The learning-source binding of a frame. -/
def Pkt.srcBinding (p : Pkt) : Nat := match p.rec_.src with
  | some (0, b) => b
  | _ => 0

/-! ## MACsec receive SCs (R331, R332) -/

/-- The SecTAG of a frame: TCI and AN, SL, PN, SCI where it is known, and its length from the EtherType on. -/
structure SecTag where
  tci : Nat
  sl : Nat
  pn : Nat
  sci : List Byte
  len : Nat
  deriving DecidableEq, Repr

def SecTag.an (g : SecTag) : Nat := g.tci % 4

/-- The SecTAG at an offset; without SC and with ES the SCI is the source address and 0x0001. -/
def secTagOf (f : List Byte) (o : Nat) : SecTag :=
  let tci := byteAt f (o + 2)
  let sc := bit tci 5
  { tci := tci, sl := byteAt f (o + 3), pn := beAt f (o + 4) 4,
    sci := if sc then cut f (o + 8) 8 else cut f 6 6 ++ toBe 2 1, len := if sc then 16 else 8 }

/-- The secure data and ICV of a frame, behind its SecTAG: all that follows, or as many bytes of secure data as SL gives where SL is
not 0 (R331, IEEE 802.1AE); none where they are not there, or where SL is 48 or above. -/
def SecTag.body (g : SecTag) (rest : List Byte) : Option (List Byte) :=
  let n := if g.sl = 0 then rest.length else g.sl + 16
  if 48 ≤ g.sl ∨ rest.length < n ∨ n < 16 then none else some (rest.take n)

/-- MSEC_BAD (R331): V 1, E or C 0, or neither SC nor ES. -/
def SecTag.bad (g : SecTag) : Bool := bit g.tci 7 || !bit g.tci 3 || !bit g.tci 2 || (!bit g.tci 5 && !bit g.tci 6)

def State.msecRxOf (s : State) (n : Nat) : MsecRx := s.ctx.msecRx.get (fun _ => {}) n
/-- The valid receive SC that holds an SCI. -/
def State.scFind (s : State) (sci : List Byte) : Option Nat :=
  (s.ctx.msecRx.find? (fun e => e.2.valid && e.2.sci == sci)).map (·.1)

def State.rxPnOf (s : State) (n an : Nat) : MsecPn := s.cph.rxPn.get (fun _ => {}) (4 * n + an)
def State.setRxPn (s : State) (n an : Nat) (v : MsecPn) : State :=
  { s with cph := { s.cph with rxPn := s.cph.rxPn.set (fun _ => {}) (4 * n + an) v } }

/-- The whole PN of an XPN frame (IEEE 802.1AE; log entry 33). -/
def fullPn (type low pn : Nat) : Nat :=
  if type = 5 then
    let hi := low / 2 ^ 32
    if low % 2 ^ 32 ≥ 2 ^ 31 ∧ pn < 2 ^ 31 then (hi + 1) * 2 ^ 32 + pn else hi * 2 ^ 32 + pn
  else pn

/-- The IV of a MACsec frame (R332). -/
def msecIv (m : KeyMat) (sci : List Byte) (pn : Nat) : List Byte :=
  if m.type = 5 then xorBytes (toBe 4 m.ssci ++ toBe 8 pn) m.salt else sci ++ toBe 4 (pn % 2 ^ 32)

/-! ## Binding (R304) -/

/-- The slot and generation of a slot now. -/
def State.bindSlot (s : State) (k : Nat) : Nat × Nat := (k, (s.keySlot k).cur.gen)

/-- The receive material that a frame's pass binds to. -/
def State.bindRx (s : State) (sl : Nat) (form : Form) (p : Pkt) : Option (Nat × Nat) :=
  match form with
  | .clear => none
  | .sealed =>
    (s.epFind p.srcBinding (p.rec_.svc.getD 0)).map (fun e => s.bindSlot ((s.ep e).slot (byteAt p.data 8 / 128)))
  | .macsec =>
    match secTagAt s sl p.data with
    | none => none
    | some o =>
      let g := secTagOf p.data o
      match s.scFind g.sci with
      | none => none
      | some n => ((s.msecRxOf n).slots.drop g.an).head?.map s.bindSlot

/-- The slot under which a pass seals, with the user number and the TYPEs it may have; none: a clear output. -/
def State.txSlot (s : State) (form : Form) (q : Nat) (p : Pkt) : Option (Nat × Nat × List Nat) :=
  match form with
  | .clear => none
  | .sealed =>
    let x := s.sealOf p
    some (if x.txPhase = 0 then x.slot0 else x.slot1, p.rec_.svc.getD 0, [3])
  | .macsec =>
    let port := queuePort q - 192
    let x := s.msecTxOf port
    some ((x.slots.drop x.an).headD 131072, 65536 + port, [4, 5])

/-- Counts a drop of KEY_EMPTY of a pass toward a queue (R327, R333). -/
def State.txKeyEmpty (s : State) (form : Form) (q k : Nat) (p : Pkt) : State :=
  match form with
  | .macsec => (s.bump .uplMsecKeyEmpty (queuePort q - 192)).bump .keyKeyEmpty k
  | _ =>
    match (s.queueBinding q).bind (fun b => s.epFind b (p.rec_.svc.getD 0)) with
    | some e => (s.bump .epKeyEmpty e).bump .keyKeyEmpty k
    | none => s.bump .keyKeyEmpty k

/-- Requests of a slice's frame queue and of its keystream queue that no cluster has taken (R303). -/
def CphReq.isFrame (r : CphReq) : Bool := match r.user with
  | .pass _ _ _ => true
  | _ => false
def State.queuedReqs (s : State) (sl : Nat) (frame : Bool) : List CphReq :=
  s.cph.reqs.filter (fun r => r.slice == sl && r.phase == .queued && r.isFrame == frame)
def State.frameQueueFull (s : State) (sl : Nat) : Bool := decide (1024 ≤ (s.queuedReqs sl true).length)
def State.ksQueueFull (s : State) (sl : Nat) : Bool := decide (512 ≤ (s.queuedReqs sl false).length)

/-- A request is queued, bound as given. -/
def State.queueReq (s : State) (r : CphReq) : State :=
  let id := s.cph.nextReq
  let count (b : Option Nat) (s : State) : State := match b with
    | some k => s.bump .keyRequestsBound k
    | none => s
  count (r.rx.map (·.1)) (count (r.tx.map (·.1))
    { s with cph := { s.cph with reqs := s.cph.reqs ++ [{ r with id := id, queuedAt := s.time.now }], nextReq := id + 1 } })

/-- A port has picked a frame that needs a pass: it takes its PN and is queued, or is dropped (R304, R327, R328, R333). -/
def State.queuePass (s : State) (q : Nat) (input output : Form) (p : Pkt) (portId : Nat) : State :=
  let port := queuePort q
  let sl := s.swSlice port
  let r : CphReq :=
  { id := 0, user := .pass port input output, slice := sl, queuedAt := 0, rx := s.bindRx sl input p,
    binding := s.queueBinding q, len := p.data.length, pkt := p, queue := q,
    portId := if output = .sealed then (s.sealOf p).txPhase else portId }
  match s.txSlot output q p with
  | none => s.queueReq r
  | some (k, user, types) =>
    if !types.contains (s.keySlot k).cur.type then (s.txKeyEmpty output q k p).dropPkt p port 6
    else
      let t := s.takePn sl k user
      match t.2 with
      | none => t.1.dropPkt p port 30
      | some pn => t.1.queueReq { r with tx := some (k, (s.keySlot k).cur.gen, pn) }

/-- A request for the keystream queue that nothing defers: where the queue is full it waits for room, and is queued then (R303;
DESIGN CHOICE, log entry 81). -/
def State.offerReq (s : State) (r : CphReq) : State :=
  if s.ksQueueFull r.slice then { s with cph := { s.cph with waiting := s.cph.waiting ++ [r] } } else s.queueReq r

/-- Requests that waited for room are queued, in their order, as far as there is room; each binds now (R304). -/
def State.queueWaiting (s : State) : State :=
  s.cph.waiting.foldl (fun (s : State) r => s.offerReq { r with rx := r.rx.map (fun x => s.bindSlot x.1) })
    { s with cph := { s.cph with waiting := [] } }

/-- The MIC of one PLOAM message of a channel is requested (R303). -/
def State.queueMic (s : State) (c : Nat) (slot : Option Nat) : State :=
  s.offerReq { id := 0, user := .mic c, slice := c / 24, queuedAt := 0, rx := slot.map s.bindSlot, len := 48 }

/-! ## Clusters (R301 to R303, R306) -/

def State.cluster (s : State) (n : Nat) : Cluster := s.cph.clusters.get (fun _ => {}) n
def State.setCluster (s : State) (n : Nat) (c : Cluster) : State :=
  { s with cph := { s.cph with clusters := s.cph.clusters.set (fun _ => {}) n c } }

/-- The dispatcher may use a cluster: EN, and not fenced (R503). -/
def State.clusterUsable (s : State) (n : Nat) : Bool := s.flg Reg.cphCclCtrl 0 n && !s.flt.fenced.contains n

/-- Room: fewer than 4 requests wait for each of its lanes (R303). -/
def Cluster.room (c : Cluster) : Bool := decide (c.lane0.length - 1 < 4) && decide (c.lane1.length - 1 < 4)
def Cluster.idle (c : Cluster) : Bool := c.lane0.isEmpty && c.lane1.isEmpty

/-- Lane time in core cycles (11 Table 1). -/
def CphReq.laneTime (r : CphReq) : Nat :=
  match r.user with
  | .mic _ => 16
  | .pass _ a b => if a != .clear && b != .clear then 12 + cdiv r.len 32 else 12 + cdiv r.len 64
  | _ => 4 + cdiv (cdiv r.len 16) 4

/-- A request begins to run. -/
def State.startReq (s : State) (id : Option Nat) : State :=
  match id with
  | none => s
  | some id =>
    { s with cph := { s.cph with reqs := s.cph.reqs.map (fun r =>
        if r.id = id then { r with endsAt := some (s.time.now + r.laneTime * cycleU) } else r) } }

/-- Counts a request at the cluster that takes it. -/
def State.countReq (s : State) (n : Nat) (r : CphReq) : State :=
  match r.user with
  | .mic _ => s.bump .cphMicRequests n
  | .pass _ .clear _ => s.bump .cphSeal n
  | .pass _ _ .clear => s.bump .cphOpen n
  | .pass _ _ _ => s.bump .cphReseal n
  | _ => s.bump .cphKsRequests n

/-- A cluster takes a request, in the lane with the shorter queue. -/
def State.place (s : State) (n : Nat) (r : CphReq) : State :=
  let c := s.cluster n
  let one := decide (c.lane1.length < c.lane0.length)
  let c1 := if one then { c with lane1 := c.lane1 ++ [r.id] } else { c with lane0 := c.lane0 ++ [r.id] }
  let s1 := (s.setCluster n c1).countReq n r
  let s2 := { s1 with cph := { s1.cph with reqs := s1.cph.reqs.map (fun x =>
    if x.id = r.id then { x with phase := .placed n (b2n one) } else x) } }
  if (if one then c.lane1 else c.lane0).isEmpty then s2.startReq (some r.id) else s2

/-- CIPHER_DISPATCH (R33, R303): the next queued request, keystream queues before frame queues, the slices in rotation; it
goes to a running cluster with room, or wakes a gated one; one that has gated in this core cycle stays running (R28). -/
def State.dispatch (s0 : State) : State :=
  let s := s0.queueWaiting
  let order := (List.range 8).map (fun i => (s.cph.rot + 1 + i) % 8)
  let pick (frame : Bool) := order.findSome? (fun sl => (s.queuedReqs sl frame).head?)
  match (pick false).orElse (fun _ => pick true) with
  | none => s
  | some r =>
    match (List.range 32).find? (fun n => s.clusterUsable n && (s.cluster n).unit == .running && (s.cluster n).room) with
    | some n => ({ s with cph := { s.cph with rot := r.slice } }).place n r
    | none =>
      if (List.range 32).any (fun n => (s.cluster n).unit == .waking) then s
      else
        match (List.range 32).find? (fun n => s.clusterUsable n && (s.cluster n).unit == .stopped) with
        | none => s
        | some n =>
          let c := s.cluster n
          if s.thisCycle c.stoppedAt then
            (({ s with cph := { s.cph with rot := r.slice } }).setCluster n { c with unit := .running }).place n r
          else (s.setCluster n { c with unit := .waking }).bump .cphWakes n

/-- CLUSTER_WAKE_DONE. -/
def State.clusterWake (s : State) (n : Nat) : State :=
  if (s.cluster n).unit == .waking then s.setCluster n { s.cluster n with unit := .running, idleSince := s.time.now } else s

/-- CLUSTER_GATE (R306). -/
def State.clusterGate (s : State) (n : Nat) : State :=
  let c := s.cluster n
  if s.flg Reg.cphCfg 0 && c.unit == .running && c.idle && decide (c.idleSince + 10 * usU ≤ s.time.now) then
    s.setCluster n { c with unit := .stopped, stoppedAt := some s.time.now }
  else s

/-- The lane of a placed request is free: the next one starts. -/
def State.leaveLane (s : State) (r : CphReq) : State :=
  match r.phase with
  | .placed n l =>
    let c := s.cluster n
    let q := ((if l = 0 then c.lane0 else c.lane1).filter (· != r.id))
    let c1 := if l = 0 then { c with lane0 := q } else { c with lane1 := q }
    let c2 := if c1.idle then { c1 with idleSince := s.time.now } else c1
    ((s.setCluster n c2).bump .cphBytesProcessed n r.len).startReq q.head?
  | _ => s

/-! ## Passes (R320, R325 to R327, R331 to R335) -/

/-- What a pass gives: its output, or the drop that its state has counted. -/
abbrev PassOut := State × Option (List Byte)

/-- Is a frame of a phase under a generation acceptable, and is it a switch (R325 check 5, R326)? -/
def SealEp.switches (e : SealEp) (phase : Nat) (m : KeyMat) : Bool := phase != e.act && decide (e.switched < m.written)
def SealEp.overlaps (e : SealEp) (phase now : Nat) : Bool :=
  phase != e.act && (match e.oldUntil with
    | some u => decide (now < u)
    | none => false)

/-- Opens a sealed frame: the checks of R325 in order, then the replay and phase state (R326). -/
def State.openSealed (s : State) (r : CphReq) : PassOut :=
  let d := r.pkt.data
  let v := r.pkt.rec_.svc.getD 0
  let phase := byteAt d 8 / 128
  let pn := beAt d 10 6
  match s.epFind r.pkt.srcBinding v with
  | none => (if d.length < 33 then s.bump .xSealShort r.slice else s.bump .slcSealNoEp r.slice, none)
  | some k =>
    let e := s.ep k
    let m := match r.rx with
      | some (x, g) => s.material x g
      | none => {}
    if d.length < 33 then (s.bump .epSealShortAndSealLong k, none)
    else if beAt d 8 2 % 32768 ≠ (s.sealOf r.pkt).stag then (s.bump .epSealTag k, none)
    else if m.type ≠ 3 then ((s.bump .epKeyEmpty k).bump .keyKeyEmpty (e.slot phase), none)
    else if phase ≠ e.act ∧ !e.overlaps phase s.time.now ∧ !e.switches phase m then (s.bump .epPhaseOld k, none)
    else if pn = 0 ∨ pn + e.replay ≤ e.h phase m.gen then (s.bump .epReplay k, none)
    else
      match gcmOpen m.key (m.salt.take 4 ++ toBe 2 0 ++ toBe 6 pn) (cut d 0 5 ++ cut d 8 8) (d.drop 16) with
      | none => (s.bump .epIcvFail k, none)
      | some pt =>
        let e1 := e.setH phase m.gen (max (e.h phase m.gen) pn)
        let s1 := if e.switches phase m then
            let s0 := s.nextOrder
            s0.setEp k { e1 with act := phase, switched := s0.cph.order,
                                 oldUntil := if e.overlap = 0 then none else some (s.time.now + e.overlap * msU) }
          else s.setEp k e1
        (s1.bump .epFramesOpened k, some pt)

/-- Opens a MACsec frame (R331, R332). -/
def State.openMacsec (s : State) (r : CphReq) : PassOut :=
  let d := r.pkt.data
  let port := r.pkt.rec_.inPort - 192
  match secTagAt s r.slice d with
  | none => (s.bump .uplMsecBad port, none)
  | some o =>
    let g := secTagOf d o
    match g.body (d.drop (o + g.len)) with
    | none => (s.bump .xMsecOpen port, none)
    | some body =>
      if g.bad then (s.bump .uplMsecBad port, none)
      else
      match s.scFind g.sci with
      | none => (s.bump .uplMsecNoSc port, none)
      | some n =>
        let m := match r.rx with
          | some (x, gen) => s.material x gen
          | none => {}
        let pv := s.rxPnOf n g.an
        let pn := fullPn m.type pv.low g.pn
        if m.type ≠ 4 ∧ m.type ≠ 5 then (s.bump .uplMsecKeyEmpty port, none)
        else if pn < pv.low then (s.bump .uplReplayDrops port, none)
        else
          match gcmOpen m.key (msecIv m g.sci pn) (cut d 0 12 ++ cut d o g.len) body with
          | none => (s.bump .uplIcvFail port, none)
          | some pt =>
            let next := max pv.next (pn + 1)
            (s.setRxPn n g.an { low := max pv.low (next - (s.msecRxOf n).replay), next := next }, some (d.take o ++ pt))

/-- Bytes written over a frame at an offset. -/
def putAt (f : List Byte) (off : Nat) (b : List Byte) : List Byte := f.take off ++ b ++ f.drop (off + b.length)

/-- DEI marking of a frame that a meter marked yellow under YACT 1: its outer tag, or counted (R281). -/
def State.markDei (s : State) (sl : Nat) (yellow : Bool) (f : List Byte) : State × List Byte :=
  if !yellow then (s, f)
  else if (parseFrame (s.parseCfg sl) f).tcis.isEmpty then (s.bump .slcDeiNotMarked sl, f)
  else
    let b := byteAt f 14
    (s, putAt f 14 (toBe 1 (if bit b 4 then b else b + 16)))

/-- The edit of a frame inside the cluster (R335): EDIT 1 to 5 on the plaintext, then DEI (R281); EDIT 6 and SET_DSCP are
counted. -/
def State.editOpened (s : State) (r : CphReq) (pt : List Byte) : State × List Byte :=
  let x := r.pkt.rec_
  let s1 := if x.edit = 6 ∨ x.dscp.isSome then s.bump .slcEditsNotApplied r.slice else s
  let e :=
    if 1 ≤ x.edit ∧ x.edit ≤ 5 then
      let f := applyEdit (parseFrame (s.parseCfg r.slice) pt) x.edit x.vid x.tc pt
      (if f.2 then s1.bump .slcEditAnomalies r.slice else s1, f.1)
    else (s1, pt)
  e.1.markDei r.slice x.yellow e.2

/-- The plaintext of a pass. -/
def State.openPass (s : State) (r : CphReq) (input : Form) : PassOut :=
  let opened := match input with
    | .clear => (s, some r.pkt.data)
    | .sealed => s.openSealed r
    | .macsec => s.openMacsec r
  match input, opened.2 with
  | .clear, _ => opened
  | _, some pt => let e := opened.1.editOpened r pt; (e.1, some e.2)
  | _, none => opened

/-- Seals toward a PON binding (R319, R320, R327). -/
def State.sealPon (s : State) (r : CphReq) (pt : List Byte) : PassOut :=
  let x := s.sealOf r.pkt
  match r.binding.bind (fun b => s.epFind b (r.pkt.rec_.svc.getD 0)), r.tx with
  | some k, some (slot, gen, pn) =>
    let m := s.material slot gen
    if pt.length + 24 > 16383 then (s.bump .epSealShortAndSealLong k, none)
    else
      let tag := toBe 2 (r.portId % 2 * 32768 + x.stag) ++ toBe 6 pn
      let aad := toBe 2 (s.ep k).dsPort ++ toBe 3 0 ++ tag
      (s.bump .epFramesSealedToward k, some (tag ++ gcmSeal m.key (m.salt.take 4 ++ toBe 2 0 ++ toBe 6 pn) aad pt))
  | _, _ => (s.bump .slcSealNoEp r.slice, none)

/-- Seals toward an uplink (R331, R333): at most one tag in clear, of TPID 0x88A8 and the frame's class (log entry 34). -/
def State.sealUplink (s : State) (r : CphReq) (port : Nat) (pt : List Byte) : PassOut :=
  match r.tx with
  | none => (s, none)
  | some (slot, gen, pn) =>
    let m := s.material slot gen
    let x := s.msecTxOf port
    let secure := pt.drop 12
    let clear := if x.clearVid = 0 then [] else toBe 2 0x88A8 ++ toBe 2 (r.pkt.rec_.tc * 8192 + x.clearVid % 4096)
    let tci := 64 * b2n x.es + 32 * b2n x.sc + 12 + r.portId % 4
    let tag := toBe 2 0x88E5 ++ toBe 1 tci ++ toBe 1 (if secure.length < 48 then secure.length else 0) ++ toBe 4 (pn % 2 ^ 32)
      ++ (if x.sc then x.sci else [])
    (s, some (pt.take 12 ++ clear ++ tag ++ gcmSeal m.key (msecIv m x.sci pn) (pt.take 12 ++ tag) secure))

/-- The output of a pass, or its drop (R325, R327, R331 to R335). -/
def State.runPass (s : State) (r : CphReq) (port : Nat) (input output : Form) : PassOut :=
  let o := s.openPass r input
  match o.2 with
  | none => o
  | some pt =>
    match output with
    | .clear => (o.1, some pt)
    | .sealed => o.1.sealPon r pt
    | .macsec => o.1.sealUplink r (port - 192) pt

/-- Growth of a pass, as the output's length less the frame's LEN (R283). -/
def State.passGrowth (s : State) (sl q : Nat) (input output : Form) (p : Pkt) : Int :=
  let inLess : Int := match input with
    | .clear => 0
    | .sealed => 32
    | .macsec => (match secTagAt s sl p.data with
      | some o => ((secTagOf p.data o).len : Int) + 16
      | none => 0)
  let outMore : Int := match output with
    | .clear => 0
    | .sealed => 24
    | .macsec =>
      let x := s.msecTxOf (queuePort q - 192)
      (if x.clearVid = 0 then 0 else 4) + (if x.sc then 16 else 8) + 16
  outMore - inLess

/-! ## Overlap (R326) -/

/-- OVERLAP_EXPIRY: the old phase is refused from now on. -/
def State.overlapEnd (s : State) (k : Nat) : State :=
  match (s.ep k).oldUntil with
  | some u => if u ≤ s.time.now then s.setEp k { s.ep k with oldUntil := none } else s
  | none => s

/-! ## Commands (11 Table 9) -/

def sealSecOf (b : List Byte) : SealSec :=
  { valid := bufBit b 0 0, txPhase := b2n (bufBit b 0 1), stag := leAt b 2 2 % 32768, slot0 := leAt b 4 4, slot1 := leAt b 8 4 }

/-- Frames of a service that carry a carrier word (R324). -/
def State.carriers (s : State) (v : Nat) : Bool := s.anyFrame (fun p => p.rec_.carrier && p.rec_.svc == some v)

/-- SEAL_SET (R307, R324, 11 Table 5). -/
def opSealSet (x : Slot) (s : State) : Turn :=
  withLen x 16 s fun b =>
    let v := x.spec
    let n := sealSecOf b
    let f (c : CtxTables) : CtxTables := { c with services := c.services.upd (fun _ => {}) v (fun y => { y with sec := n }) }
    checks [(decide (n.slot0 > 131071) || decide (n.slot1 > 131071), Status.sealBad),
      (n.valid && s.sharedAfter f [n.slot0, n.slot1], Status.keyShared),
      (!n.valid && (s.service v).sec.valid && (s.carriers v || s.ctx.endpoints.any (fun e => e.2.valid && e.2.svc == v)),
        Status.sealInUse)] s fun _ => (s.ctxWrite f).ok

/-- SEAL_PHASE (R329). -/
def opSealPhase (x : Slot) (s : State) : Turn :=
  withLen x 4 s fun b =>
    let v := x.spec
    let sec := (s.service v).sec
    let phase := byteAt b 0 % 2
    checks [((s.keySlot (if phase = 0 then sec.slot0 else sec.slot1)).cur.type != 3, Status.keyEmpty)] s fun _ =>
      (s.ctxWrite (fun c => { c with services := c.services.upd (fun _ => {}) v (fun y =>
        { y with sec := { y.sec with txPhase := phase } }) })).ok

/-- An endpoint from its buffer (11 Table 6). -/
def epOf (b : List Byte) : SealEp :=
  { valid := bufBit b 4 0, binding := leAt b 0 2, svc := leAt b 2 2, act := b2n (bufBit b 4 1), dsPort := leAt b 6 2,
    rx0 := leAt b 8 4 % 2 ^ 17, rx1 := leAt b 12 4 % 2 ^ 17, replay := leAt b 16 2, overlap := leAt b 18 2 }

/-- The replay and phase state of a rewritten endpoint: kept for a slot that stays (log entry 35). -/
def SealEp.keep (old n : SealEp) (g0 g1 : Nat) : SealEp :=
  let a := if old.rx0 = n.rx0 ∧ old.valid then (old.h0, old.g0) else (0, g0)
  let b := if old.rx1 = n.rx1 ∧ old.valid then (old.h1, old.g1) else (0, g1)
  { n with h0 := a.1, g0 := a.2, h1 := b.1, g1 := b.2, switched := old.switched }

/-- SEAL_EP_SET (11 Table 6, Table 9). -/
def opSealEpSet (x : Slot) (s : State) : Turn :=
  withLen x 24 s fun b =>
    let n := epOf b
    let old := s.epFind n.binding n.svc
    match old.orElse (fun _ => (epWays n.binding n.svc).find? (fun k => !(s.ep k).valid)) with
    | none => s.fails Status.epFull
    | some k =>
      let e := (if old.isSome then s.ep k else {}).keep n (s.keySlot n.rx0).cur.gen (s.keySlot n.rx1).cur.gen
      let f (c : CtxTables) : CtxTables := { c with endpoints := c.endpoints.set (fun _ => {}) k e }
      checks [(n.valid && s.sharedAfter f [n.rx0, n.rx1], Status.keyShared)] s fun _ => (s.ctxWrite f).ok

/-- SEAL_EP_DEL. -/
def opSealEpDel (x : Slot) (s : State) : Turn :=
  withLen x 24 s fun b =>
    match s.epFind (leAt b 0 2) (leAt b 2 2) with
    | none => s.fails Status.epNone
    | some k => (s.ctxWrite (fun c => { c with endpoints := c.endpoints.set (fun _ => {}) k {} })).ok

/-- Four slot fields of 4 bytes from an offset. -/
def fourSlots (b : List Byte) (o : Nat) : List Nat := (List.range 4).map (fun i => leAt b (o + 4 * i) 4 % 2 ^ 17)

/-- The slots mix TYPE 4 and TYPE 5. -/
def State.mixedSuites (s : State) (l : List Nat) : Bool :=
  l.any (fun k => (s.keySlot k).cur.type == 4) && l.any (fun k => (s.keySlot k).cur.type == 5)

/-- MACSEC_TX_SET. -/
def opMacsecTxSet (x : Slot) (s : State) : Turn :=
  withLen x 32 s fun b =>
    let m : MsecTx := { en := bufBit b 1 0, sc := bufBit b 1 1, es := bufBit b 1 2, strict := bufBit b 1 3,
                        an := bits (byteAt b 1) 5 4, clearVid := leAt b 2 2 % 4096, sci := cut b 8 8, slots := fourSlots b 16 }
    let f (c : CtxTables) : CtxTables := { c with msecTx := c.msecTx.set (fun _ => {}) x.spec m }
    checks [(!s.lpExists x.spec || s.mixedSuites m.slots, Status.msecBad),
      (m.en && s.sharedAfter f m.slots, Status.keyShared)] s fun _ => (s.ctxWrite f).ok

/-- MACSEC_RX_SET. -/
def opMacsecRxSet (x : Slot) (s : State) : Turn :=
  withLen x 64 s fun b =>
    let m : MsecRx := { valid := bufBit b 9 0, sci := cut b 0 8, port := byteAt b 8, replay := leAt b 10 4, slots := fourSlots b 16 }
    match (s.scFind m.sci).orElse (fun _ => (List.range 1024).find? (fun n => !(s.msecRxOf n).valid)) with
    | none => s.fails Status.msecFull
    | some n =>
      let f (c : CtxTables) : CtxTables := { c with msecRx := c.msecRx.set (fun _ => {}) n (if m.valid then m else {}) }
      checks [(!s.lpExists m.port || s.mixedSuites m.slots, Status.msecBad),
        (m.valid && s.sharedAfter f m.slots, Status.keyShared)] s fun _ =>
        ((List.range 4).foldl (fun s an =>
          let low := leAt b (32 + 8 * an) 8
          s.setRxPn n an { low := low, next := low }) (s.ctxWrite f)).ok

end Sys2Proof.Machine
end

