-- ==== Sys2Proof/Machine/Fwd.lean ====
section
/-! DEFINITION. Machine/Fwd.lean: the forwarding table (08): hashing, insertion, learning, aging, flushes, compare and the
commands. A row's location is bank × 2^30 + row. -/

namespace Sys2Proof.Machine

/-- Rows per bank (08 Table 1). -/
def State.fwdRows (s : State) : Nat :=
  match s.fld Reg.fwdCfg 2 0 with
  | 0 => 0 | 1 => 65536 | 2 => 131072 | 3 => 262144 | 4 => 524288 | _ => 1048576

/-- The key bytes of the hash: FID, then MAC in wire order (R232). -/
def fwdKeyBytes (fid mac : Nat) : List Byte := toBe 2 fid ++ toBe 6 mac

/-- The row of a key in bank b (R232). -/
def State.fwdHash (s : State) (fid mac b : Nat) : Nat :=
  crc32c (s.reg (Reg.fwdSeed b)).toNat (fwdKeyBytes fid mac) % max 1 s.fwdRows

/-- The bank and row of a key in bank b, as one LOCATION. -/
def State.fwdLoc (s : State) (fid mac b : Nat) : Nat := b * 2 ^ 30 + s.fwdHash fid mac b

/-- The line at a location as lookups take it: one with an uncorrectable error is not valid (R234). -/
def State.fwdRow (s : State) (loc : Nat) : FwdEntry := if s.fwd.bad.contains loc then {} else s.fwd.rows.get (fun _ => {}) loc

/-- Entry line bytes (08 Table 2). -/
def FwdEntry.bytes (e : FwdEntry) : List Byte :=
  toBe 6 e.mac ++ toLe 2 e.fid ++ toLe 1 (b2n e.valid + 2 * b2n e.static_ + 4 * b2n e.learned + 8 * b2n e.drop)
    ++ toLe 1 e.dtype ++ toLe 2 e.dest ++ toLe 4 0

/-- An entry from its line bytes. -/
def FwdEntry.ofBytes (b : List Byte) : FwdEntry :=
  { mac := beAt b 0 6, fid := leAt b 6 2, valid := bufBit b 8 0, static_ := bufBit b 8 1, learned := bufBit b 8 2,
    drop := bufBit b 8 3, dtype := bits (byteAt b 9) 1 0, dest := leAt b 10 2 }

/-- The change that an entry makes to the learned count of its binding (R246). -/
def FwdEntry.counts (e : FwdEntry) : Option Nat := if e.valid && e.learned && e.dtype == 0 then some e.dest else none

def countDown (e : FwdEntry) (t : Tab Nat) : Tab Nat :=
  match e.counts with
  | some b => t.upd (fun _ => 0) b (· - 1)
  | none => t

def countUp (e : FwdEntry) (t : Tab Nat) : Tab Nat :=
  match e.counts with
  | some b => t.upd (fun _ => 0) b (· + 1)
  | none => t

/-- One line of the table is written, with its shadow line, and the learned counts follow (R246, R255). -/
def State.fwdWrite (s : State) (loc : Nat) (e : FwdEntry) : State :=
  let old := s.fwdRow loc
  let f := { s.fwd with
    wrote := loc :: (if s.thisCycle s.fwd.wroteAt then s.fwd.wrote else []), wroteAt := some s.time.now,
    rows := s.fwd.rows.set (fun _ => {}) loc e, bad := s.fwd.bad.filter (fun l => l != loc),
    counts := countUp e (countDown old s.fwd.counts) }
  if s.cxm.link then { s with fwd := { f with shadow := f.shadow.set (fun _ => {}) loc e } }
  else ({ s with fwd := f }).bump .devDeviceMemoryWritesDropped 0

/-- VALID of a line is cleared. -/
def State.fwdClear (s : State) (loc : Nat) : State := s.fwdWrite loc { s.fwdRow loc with valid := false }

def State.fwdHit (s : State) (loc : Nat) : Bool := s.fwd.hit.get (fun _ => false) loc
def State.setFwdHit (s : State) (loc : Nat) (b : Bool) : State :=
  { s with fwd := { s.fwd with hit := s.fwd.hit.set (fun _ => false) loc b } }
def State.setFwdUsed (s : State) (loc : Nat) (b : Bool) : State :=
  { s with fwd := { s.fwd with used := s.fwd.used.set (fun _ => false) loc b } }

/-- Where a key stands: the first bank that holds it (R235); none with no table. -/
def State.fwdFind (s : State) (fid mac : Nat) : Option Nat :=
  if s.fwdRows = 0 then none
  else
    ((List.range 4).map (s.fwdLoc fid mac)).find? (fun l =>
      let e := s.fwdRow l
      e.valid && e.fid == fid && e.mac == mac)

/-! ## Insertion (R237 to R241) -/

/-- Does an entry match a flush selector (08 Table 7)? -/
def State.flushHits (s : State) (f : FlushSel) (e : FwdEntry) : Bool :=
  e.valid && !(f.dynOnly && e.static_) &&
    (match f.kind with
     | 0 => e.dtype == f.dtype && e.dest == f.dest
     | 1 => e.fid == f.fid
     | 2 => e.dtype == f.dtype && e.dest == f.dest && e.fid == f.fid
     | 3 => e.dtype == 0 &&
        (match s.drl.bindings.get (fun _ => none) e.dest with
         | some t => t / 256 == f.ch
         | none => false)
     | _ => true)

/-- A step of the displacement path: the entry, where it stands and where it goes. -/
structure FwdStep where
  entry : FwdEntry
  from_ : Nat
  deriving DecidableEq, Repr

/-- The search for a displacement chain (R237): the path so far (first displaced first) and the free target, or failure.
An entry that a walking flush matches, and that its COUNT still takes, is removed and not moved (R253): its row is the target for
the one before it. -/
def State.fwdSearchPath (s : State) (byLearn : Bool) : Nat → Nat × Nat → Nat → List FwdStep → Option (List FwdStep × Nat × Bool)
  | 0, _, _, _ => none
  | n + 1, (fid, mac), b, path =>
    let loc := s.fwdLoc fid mac b
    let v := s.fwdRow loc
    if s.fwd.flushes.any (fun f => decide (f.removed < f.count) && s.flushHits f.sel v) then some (path, loc, true)
    else if path.any (fun p => p.entry.fid == v.fid && p.entry.mac == v.mac) || (v.static_ && byLearn) then none
    else
      let path' := path ++ [{ entry := v, from_ := loc }]
      match ((List.range 3).map (fun i => s.fwdLoc v.fid v.mac ((b + 1 + i) % 4))).find? (fun l => !(s.fwdRow l).valid) with
      | some t => some (path', t, false)
      | none => s.fwdSearchPath byLearn n (v.fid, v.mac) ((b + 1) % 4) path'

/-- One move of a chain (R240): the new copy first, then the old row cleared; the row's HIT goes with it (log entry 21). -/
def State.fwdMoveOne (s : State) (from_ to_ : Nat) : State :=
  let h := s.fwdHit from_
  let s1 := (s.fwdWrite to_ (s.fwdRow from_)).fwdClear from_
  let s2 := (s1.setFwdHit to_ h).setFwdHit from_ false
  ({ s2 with fwd := { s2.fwd with reloc := (s2.fwd.reloc + 1) % 2 ^ 32 } }).bump .devTableMoves 0

/-- A relocation removes an entry that a walking flush matches: it joins the number that the walk has removed (R253). -/
def State.flushTook (s : State) (e : FwdEntry) : State :=
  match s.fwd.flushes.find? (fun f => decide (f.removed < f.count) && s.flushHits f.sel e) with
  | none => s
  | some w =>
    ({ s with fwd := { s.fwd with flushes := s.fwd.flushes.map (fun (f : Flush) =>
      if f.slot = w.slot then { f with removed := f.removed + 1 } else f) } }).bump .devFlushRemovals 0

/-- Executes a chain from its free end back (R237). -/
def State.fwdMoves : List Nat → Nat → State → State
  | [], _, s => s
  | l :: ls, target, s => State.fwdMoves ls l (s.fwdMoveOne l target)

/-- REHASH_REQUEST (R241): at most 100 a second. -/
def State.rehashEvent (s : State) (e : FwdEntry) (byLearn : Bool) : State :=
  let recent := s.fwd.rehash.filter (fun t => decide (s.time.now < t + secU))
  if recent.length ≥ 100 then ({ s with fwd := { s.fwd with rehash := recent } }).bump .devRehashRequestsSuppressed 0
  else
    ({ s with fwd := { s.fwd with rehash := recent ++ [s.time.now] } }).event 0x30 e.fid
      (toBe 6 e.mac ++ toLe 2 0 ++ (List.range 4).flatMap (fun b => toLe 4 (s.fwdHash e.fid e.mac b)) ++ toLe 1 (b2n byLearn))

/-- Inserts a key that the table does not hold (R237); none: no chain within 8 moves, and nothing is changed but the
insertion counter. -/
def State.fwdInsertNew (s : State) (e : FwdEntry) (byLearn : Bool) : Option State :=
  let start := s.fwd.counter % 4
  let s0 := { s with fwd := { s.fwd with counter := s.fwd.counter + 1 } }
  match ((List.range 4).map (fun i => s.fwdLoc e.fid e.mac ((start + i) % 4))).find? (fun l => !(s.fwdRow l).valid) with
  | some l => some ((s0.fwdWrite l e).setFwdHit l false)
  | none =>
    match s0.fwdSearchPath byLearn 8 (e.fid, e.mac) start [] with
    | none => none
    | some (path, target, removed) =>
      let s1 := if removed then (s0.flushTook (s0.fwdRow target)).fwdClear target else s0
      let s2 := s1.fwdMoves (path.map (·.from_)).reverse target
      let l := s.fwdLoc e.fid e.mac start
      some ((s2.fwdWrite l e).setFwdHit l false)

/-- An insertion, or its failure with the counter moved on and the event raised (R241). -/
def State.fwdInsert (s : State) (e : FwdEntry) (byLearn : Bool) : State × Bool :=
  match s.fwdInsertNew e byLearn with
  | some t => (t, true)
  | none =>
    let s1 := ({ s with fwd := { s.fwd with counter := s.fwd.counter + 1 } }).bump .devInsertionFailures 0
    (s1.rehashEvent e byLearn, false)

/-! ## Learning (R242 to R249) -/

/-- The recent keys of a slice that HOLD still suppresses (R249). -/
def State.notifyHeld (s : State) (sl key : Nat) : Bool :=
  let hold := s.fld Reg.fwdNotify 31 24
  (s.fwd.recent.get (fun _ => []) sl).any (fun k => k.1 == key && decide (s.time.now < k.2 + hold * msU))

/-- A key joins the recent-key list of a slice: 1,024 keys, the least recent replaced (R249). -/
def State.notifyRemember (s : State) (sl key : Nat) : State :=
  let l := ((key, s.time.now) :: (s.fwd.recent.get (fun _ => []) sl).filter (fun k => k.1 != key)).take 1024
  { s with fwd := { s.fwd with recent := s.fwd.recent.set (fun _ => []) sl l } }

/-- A key as one number. -/
def fwdKey (fid mac : Nat) : Nat := fid * 2 ^ 48 + mac

/-- LEARN_NOTIFY (R248, R249): kind 0 NEW, 1 MOVE. -/
def State.learnNotify (s : State) (sl fid mac : Nat) (src : Nat × Nat) (svc kind : Nat) : State :=
  let rate := s.fld Reg.fwdNotify 15 0 * 100
  let burst := s.fld Reg.fwdNotify 23 16
  if s.notifyHeld sl (fwdKey fid mac) then s.bump .devNotificationsSuppressed 0
  else
    let r := (s.fwd.notify.get (fun _ => {}) sl).take rate burst s.time.now
    let s1 := { s with fwd := { s.fwd with notify := s.fwd.notify.set (fun _ => {}) sl r.2 } }
    if rate = 0 ∨ !r.1 then s1.bump .devNotificationsSuppressed 0
    else
      (s1.notifyRemember sl (fwdKey fid mac)).event 0x31 fid
        (toBe 6 mac ++ toLe 2 0 ++ toLe 1 src.1 ++ toLe 2 src.2 ++ toLe 2 svc ++ toLe 1 sl ++ toLe 1 kind)

/-- The learning mode of a service as it acts (08 Table 4, R242). -/
def State.learnMode (s : State) (c : SvcCtx) : Nat :=
  if !c.lValid then 0
  else
    match c.mode with
    | 1 => if s.fld Reg.fwdCfg 2 0 > 3 then 2 else 1
    | 2 => 2
    | _ => 0

/-- A learn of a source for a service would be excess (R246). -/
def State.learnExcess (s : State) (c : SvcCtx) (src : Nat × Nat) : Bool :=
  src.1 == 0 && decide (c.limit ≤ s.fwd.counts.get (fun _ => 0) src.2)

/-- A learn request joins its slice's queue: merged with one of its key, or discarded when the queue is full (R245). -/
def State.learnQueue (s : State) (sl : Nat) (r : LearnReq) : State :=
  let q := s.fwd.queues.get (fun _ => []) sl
  let merge (x : LearnReq) : LearnReq := if x.mac == r.mac && x.fid == r.fid then r else x
  let put (l : List LearnReq) : State := { s with fwd := { s.fwd with queues := s.fwd.queues.set (fun _ => []) sl l } }
  if q.any (fun x => x.mac == r.mac && x.fid == r.fid) then put (q.map merge)
  else if q.length ≥ 512 then s.bump .slcLearnQueueFull sl
  else put (q ++ [r])

/-- The source lookup of a frame (R243, R245, R246, R248): the state, and whether the frame is dropped as excess. Every hit sets
HIT, whatever its destination (R233). -/
def State.sourceLookup (s : State) (sl svc mac : Nat) (src : Nat × Nat) : State × Bool :=
  let c := s.service svc
  let s := if c.lValid && c.mode == 3 then s.bump .xLearnMode3 svc
    else if c.lValid && c.mode == 1 && decide (s.fld Reg.fwdCfg 2 0 > 3) then s.bump .xLearnModeBig svc else s
  let found := s.fwdFind c.fid mac
  match s.learnMode c with
  | 1 =>
    match found with
    | some l =>
      let e := s.fwdRow l
      let s := s.setFwdHit l true
      if e.dtype == src.1 && e.dest == src.2 then (s, false)
      else if e.static_ then (s.bump .svcStaticConflict svc, false)
      else if s.learnExcess c src then (s.bump .svcLearnExcess svc, !c.excess)
      else (s.learnQueue sl { mac := mac, fid := c.fid, dtype := src.1, dest := src.2, svc := svc }, false)
    | none =>
      if s.learnExcess c src then (s.bump .svcLearnExcess svc, !c.excess)
      else if s.notifyHeld sl (fwdKey c.fid mac) then (s, false)
      else (s.learnQueue sl { mac := mac, fid := c.fid, dtype := src.1, dest := src.2, svc := svc }, false)
  | 2 =>
    match found with
    | some l =>
      let e := s.fwdRow l
      let s := s.setFwdHit l true
      if e.dtype == src.1 && e.dest == src.2 then (s, false)
      else (s.learnNotify sl c.fid mac src svc 1, false)
    | none => (s.learnNotify sl c.fid mac src svc 0, false)
  | _ => (s, false)

/-- The update unit carries out a learn request of a slice (R245, R246, R252). -/
def State.learnDo (s : State) (sl : Nat) (r : LearnReq) : State :=
  let c := s.service r.svc
  match s.fwdFind r.fid r.mac with
  | some l =>
    let e := s.fwdRow l
    if e.static_ || (e.dtype == r.dtype && e.dest == r.dest) then s
    else if s.learnExcess c (r.dtype, r.dest) then s.bump .slcLearnExcessAtUpdate sl
    else s.fwdWrite l { e with dtype := r.dtype, dest := r.dest }
  | none =>
    if s.fwdRows = 0 then s
    else if s.learnExcess c (r.dtype, r.dest) then s.bump .slcLearnExcessAtUpdate sl
    else
      let e : FwdEntry := { mac := r.mac, fid := r.fid, valid := true, learned := true, dtype := r.dtype, dest := r.dest }
      let x := s.fwdInsert e true
      if x.2 then x.1 else x.1.notifyRemember sl (fwdKey r.fid r.mac)

/-- LEARN_REQUEST: the next request, by rotation over the eight queues (R245). -/
def State.learnTake (s : State) : State :=
  let order := (List.range 8).map (fun i => (s.fwd.lastQueue + 1 + i) % 8)
  match order.find? (fun q => !(s.fwd.queues.get (fun _ => []) q).isEmpty) with
  | none => s
  | some q =>
    match s.fwd.queues.get (fun _ => []) q with
    | [] => s
    | r :: rest =>
      let s1 := { s with fwd := { s.fwd with queues := s.fwd.queues.set (fun _ => []) q rest, lastQueue := q } }
      s1.learnDo q r

/-! ## Removals, aging and compare -/

/-- Removes the entries of a list of locations, each counted. -/
def State.fwdRemove (s : State) (locs : List Nat) (c : Ctr) : State :=
  locs.foldl (fun s l => (s.fwdClear l).bump c 0) s

/-- The valid locations in (bank, row) order. -/
def State.fwdValid (s : State) : List (Nat × FwdEntry) := s.fwd.rows.filter (fun e => e.2.valid && !s.fwd.bad.contains e.1)

/-- Every entry that names a binding is removed, STATIC entries included (R247). -/
def State.fwdDropBinding (s : State) (b : Nat) : State :=
  s.fwdRemove ((s.fwdValid.filter (fun e => e.2.dtype == 0 && e.2.dest == b)).map (·.1)) .devFlushRemovals

/-- Does a FID belong to a service in notify mode (R250)? -/
def State.notifyFid (s : State) (fid : Nat) : Bool :=
  s.ctx.services.any (fun e => e.2.valid && e.2.fid == fid && s.learnMode e.2 == 2)

/-- AGE_SWEEP (R250): TIME seconds after the last one; a row that comes earlier does nothing. -/
def State.ageSweepDo (s : State) : State :=
  let time := s.fld Reg.fwdAge 15 0
  if time = 0 ∨ s.time.now < s.fwd.agedAt + time * secU then s
  else
    let old := s.fwdValid.filter (fun e => !e.2.static_ && !s.fwdHit e.1)
    let s1 := old.foldl (fun s e =>
      let s2 := s.fwdClear e.1
      if s.notifyFid e.2.fid then
        s2.event 0x32 e.2.fid (toBe 6 e.2.mac ++ toLe 2 0 ++ toLe 1 e.2.dtype ++ toLe 2 e.2.dest)
      else s2.bump .devAgedEntries 0) s
    { s1 with fwd := { s1.fwd with hit := [], agedAt := s.time.now } }

/-- The unit that reports table repairs. -/
def fwdReport (cause : Cause) (loc : Nat) (recovered : Bool) : Report :=
  { cls := 2, cause := cause, site := siteUpdate, obj := loc, recovered := recovered }

/-- A table line is rewritten from its shadow (R256): FWD_REPAIR, and REPAIR_USED where a lookup used the row. -/
def State.fwdFromShadow (s : State) (loc : Nat) : State :=
  if s.thisCycle s.fwd.wroteAt && s.fwd.wrote.contains loc then s
  else
  let u := s.fwd.used.get (fun _ => false) loc
  let s1 := (s.fwdWrite loc (s.fwd.shadow.get (fun _ => {}) loc)).bump .devFwdRepair 0
  (if u then s1.bump .devRepairUsed 0 else s1).report (fwdReport .fwdRepair loc true)

/-- A table line has an uncorrectable error (R234): repaired at once where device memory holds its shadow, else not valid until
then. -/
def State.fwdLost (s : State) (loc : Nat) : State :=
  if s.cxm.link && !s.cxm.staleFwd then s.fwdFromShadow loc
  else if s.fwd.bad.contains loc then s
  else
    ({ s with fwd := { s.fwd with bad := s.fwd.bad ++ [loc], counts := countDown (s.fwdRow loc) s.fwd.counts } }).report
      { cls := 1, cause := .memUncorrectable, site := siteUpdate, obj := loc }

/-- The entry of a row is lost with both of its lines (R257). -/
def State.fwdGone (s : State) (loc : Nat) : State := ((s.fwdClear loc).bump .devFwdLostEntry 0).report (fwdReport .fwdLostEntry loc false)

/-- One finding of the compare sweep (R256, R257). -/
def State.fwdRepair (s : State) (found : List FwdFault) : FwdFault → State
  | .differs loc => s.fwdFromShadow loc
  | .uncorrectable loc => if found.contains (.shadowLost loc) then s.fwdGone loc else s.fwdFromShadow loc
  | .shadowLost loc =>
    if found.contains (.uncorrectable loc) then s
    else (s.fwdWrite loc (s.fwdRow loc)).report (fwdReport .fwdRepair loc true)

/-- The rows whose table line differs from its shadow line, beside those of a list. -/
def State.fwdDiffer (s : State) (found : List FwdFault) : List Nat :=
  ((s.fwd.rows.map (·.1) ++ s.fwd.shadow.map (·.1)).eraseDups).filter (fun l =>
    !(s.fwd.rows.get (fun _ => {}) l == s.fwd.shadow.get (fun _ => {}) l)
      && !found.any (fun f => f == .differs l || f == .uncorrectable l || f == .shadowLost l))

/-- Every shadow line is written from the table (R399); an entry whose table line is lost too is gone (R257). -/
def State.fwdRebuild (s : State) : State :=
  let s1 := s.fwd.bad.foldl State.fwdGone s
  ({ s1 with fwd := { s1.fwd with shadow := s1.fwd.rows, used := [] }, cxm := { s1.cxm with staleFwd := false } }).report
    { cls := 11, cause := .shadowRebuilt, site := siteCxl, recovered := true }

/-- COMPARE_SWEEP (R256, R398, R399): 64 ms after the last one; paused without device memory; a stale shadow is rebuilt and not
compared. What the sweep finds is what a soft error has changed, which the row names, and what differs in the model's own lines. -/
def State.compareSweepDo (s : State) (found : List FwdFault) : State :=
  if !s.flg Reg.fwdCfg 8 || !s.cxm.link then s
  else if s.cxm.staleFwd then (s.fwdRebuild).raise 5 6
  else if s.time.now < s.fwd.comparedAt + 64 * msU then s
  else
    let s1 := found.foldl (fun s f => s.fwdRepair found f) s
    let s2 := (s.fwdDiffer found).foldl State.fwdFromShadow s1
    { s2 with fwd := { s2.fwd with used := [], comparedAt := s.time.now } }

/-! ## Commands (R251 to R254) -/

/-- DEST is in range for DTYPE (08 Table 2, Table 6). -/
def FwdEntry.destOk (e : FwdEntry) : Bool :=
  match e.dtype with
  | 0 => decide (e.dest ≤ 49151)
  | 1 => decide (e.dest ≤ 271)
  | 2 => decide (e.dest ≤ 63)
  | _ => decide (e.dest ≤ 16383)

def opFwdInsert (x : Slot) (s : State) : Turn :=
  withLen x 16 s fun b =>
    let e := { FwdEntry.ofBytes b with learned := false }
    checks [(s.fwdRows == 0, Status.tblOff), (!e.valid || !e.destOk, Status.fwdBad)] s fun _ =>
      match s.fwdFind e.fid e.mac with
      | some l => (s.fwdWrite l e).ok
      | none =>
        let r := s.fwdInsert e false
        if r.2 then r.1.ok else (r.1, .done Status.fwdFull 0)

/-- The location that the key of an 8-byte buffer names. -/
def State.fwdNamed (s : State) (b : List Byte) : Option Nat := s.fwdFind (leAt b 6 2) (beAt b 0 6)

def opFwdDelete (x : Slot) (s : State) : Turn :=
  withLen x 8 s fun b =>
    match s.fwdNamed b with
    | none => s.fails Status.fwdNone
    | some l => (s.fwdClear l).ok

def opFwdSearch (x : Slot) (s : State) : Turn :=
  withLen x 8 s fun b =>
    match s.fwdNamed b with
    | none => s.fails Status.fwdNone
    | some l => s.returns x Status.ok 20 ((s.fwdRow l).bytes ++ toLe 4 l)

def opFwdMove (x : Slot) (s : State) : Turn :=
  withLen x 16 s fun b =>
    match s.fwdNamed b with
    | none => s.fails Status.fwdNone
    | some l =>
      let t := s.fwdLoc (leAt b 6 2) (beAt b 0 6) (byteAt b 8 % 4)
      if t = l then s.ok
      else if (s.fwdRow t).valid then s.fails Status.fwdOccupied
      else (s.fwdMoveOne l t).ok

def opFwdNext (x : Slot) (s : State) : Turn :=
  withLen x 16 s fun b =>
    let n := leAt b 4 2
    if n = 0 then s.ok
    else
      let l := (s.fwdValid.filter (fun e => decide (leAt b 0 4 ≤ e.1) && (!bufBit b 8 0 || e.2.fid == leAt b 6 2))).take n
      let next := if l.length < n then 0xFFFFFFFF else (l.getLast?.map (fun e => e.1 + 1)).getD 0xFFFFFFFF
      s.returns x Status.ok l.length (l.flatMap (fun e => e.2.bytes ++ toLe 4 e.1) ++ toLe 4 next ++ toLe 4 s.fwd.reloc)

/-- A flush selector from its buffer. -/
def flushSelOf (b : List Byte) : FlushSel :=
  { kind := bits (byteAt b 0) 2 0, dynOnly := bufBit b 0 3, ch := byteAt b 1, fid := leAt b 2 2, dtype := bits (byteAt b 4) 1 0,
    dest := leAt b 6 2 }

/-- FWD_FLUSH (R253): at most four walk at once; the matching entries go when the walk starts (log entry 22), and the
completion comes when it ends. -/
def opFwdFlush (x : Slot) (s : State) : Turn :=
  withLen x 16 s fun b =>
    let f := flushSelOf b
    let count := leAt b 8 4
    if count = 0 then s.ok
    else checks [(decide (f.kind > 4), Status.flushBad)] s fun _ =>
      if s.fwd.flushes.length ≥ 4 then (s, .wait)
      else
        let hits := s.fwdValid.filter (fun e => decide (leAt b 12 4 ≤ e.1) && s.flushHits f e.2)
        let s1 := s.fwdRemove ((hits.take count).map (·.1)) .devFlushRemovals
        let w : Flush := { slot := x.id, sel := f, removed := min count hits.length, count := count, more := ((hits.drop count).head?).map (·.1) }
        ({ s1 with fwd := { s1.fwd with flushes := s1.fwd.flushes ++ [w] } }, .pend)

/-- FLUSH_WALK_DONE: the walk of a command ends; OK with the number removed, or FLUSH_MORE with the cursor to go on from. -/
def State.flushDone (s : State) (slot : Nat) : State :=
  match s.fwd.flushes.find? (fun w => w.slot == slot) with
  | none => s
  | some w =>
    let s1 := { s with fwd := { s.fwd with flushes := s.fwd.flushes.filter (fun w => w.slot != slot) } }
    match w.more with
    | none => s1.finish slot Status.ok w.removed
    | some cur =>
      match s1.host.slots.find? (fun x => x.id == slot) with
      | none => s1
      | some x =>
        let r := s1.returns x Status.flushMore w.removed (toLe 4 cur)
        match r.2 with
        | .done st n => r.1.finish slot st n
        | _ => r.1

end Sys2Proof.Machine
end

