-- ==== Sys2Proof/Machine/Cxm.lean ====
section
/-! DEFINITION. Machine/Cxm.lean: the CXL memory port, device memory (14, R396 to R401), and the compare of context and rule
lines with their shadows (R494). -/

namespace Sys2Proof.Machine

/-- Every shadow is marked stale (R399). -/
def State.markStale (s : State) : State := ({ s with cxm := { s.cxm with staleFwd := true, staleCtx := true } }).raise 5 5

/-- The port's checks of the expander (R397): 0 or the ERR code. A capacity above 1 TiB gives the decoder's code (log entry
36). -/
def expanderErr (type3 decoder : Bool) (gib : Nat) : Nat :=
  if !type3 then 1 else if gib < 16 then 2 else if !decoder || decide (1024 < gib) then 3 else 0

/-- CXM_LINK_UP (R397, R399, R400): the directory is read; where it is not valid a new one is written, and the terminal
records and the accumulators start afresh. The log's copy resumes (R468). -/
def State.cxmUp (s : State) (type3 decoder : Bool) (gib : Nat) (directory : Bool) : State :=
  if !s.flg Reg.cxmCtrl 0 || s.cxm.link then s
  else
    let err := expanderErr type3 decoder gib
    if err != 0 then { s with cxm := { s.cxm with err := err } }
    else
      let s1 := { s with
        cxm := { s.cxm with link := true, cap := gib, err := 0, directory := true }
        mgt := { s.mgt with logCopied := s.mgt.logSeq } }
      let s2 := if directory then s1
        else ({ s1 with records := s1.records.mapVals (fun _ => {}) (fun _ r => { r with valid := false }),
                        cnt := { s1.cnt with acc := [] } }).report
              { cls := 11, cause := .accRestart, site := siteCxl, recovered := true }
      (s2.raise 5 4).markStale

/-- CXM_DOWN (R398). -/
def State.cxmDown (s : State) : State :=
  if !s.cxm.link then s
  else
    (({ s with cxm := { s.cxm with link := false, cap := 0 } }).report { cls := 11, cause := .cxmDown, site := siteCxl }).raise 5 3

/-- CXM_TRAINING_FAILED (R397). -/
def State.cxmFailed (s : State) : State :=
  if !s.flg Reg.cxmCtrl 0 || s.cxm.link then s else { s with cxm := { s.cxm with err := 4 } }

/-- Start of the host region (14 Table 4). -/
def State.hostRegion (s : State) : Nat := 2 ^ 32 + s.traceGiB * 2 ^ 30

/-- BAR2_WRITE (R401, 21 Table 1): the host region takes it; below that region and beyond the device it is dropped and
counted, and in standby and before BAR0 is open too (R511, R523). -/
def State.bar2Write (s : State) (off : Nat) (data : List Byte) : State :=
  if !s.life.opened || s.life.pwr != .running || s.host.inReset then s.bump .xBar2Drop 0
  else if !s.cxm.link then s.bump .devDeviceMemoryWritesDropped 0
  else if off < s.hostRegion ∨ off + data.length > s.cxm.cap * 2 ^ 30 then s.bump .xBar2Drop 0
  else
    { s with cxm := { s.cxm with mem := (data.foldl (fun (a : Tab Byte × Nat) b => (a.1.set (fun _ => 0) a.2 b, a.2 + 1))
      (s.cxm.mem, off)).1 } }

/-! ## The compare of contexts and rules (R494) -/

/-- An endpoint's static fields from another line, its replay and phase state kept. -/
def SealEp.restatic (live sh : SealEp) : SealEp :=
  { live with valid := sh.valid, binding := sh.binding, svc := sh.svc, dsPort := sh.dsPort, rx0 := sh.rx0, rx1 := sh.rx1,
              replay := sh.replay, overlap := sh.overlap }

/-- An OAM endpoint's record from another line, its timers and defects kept where it names the same remotes. -/
def Mep.restatic (live sh : Mep) : Mep :=
  let same := live.remotes.map (·.mepid) == sh.remotes.map (·.mepid)
  { sh with remotes := if same then live.remotes else sh.remotes, lof := live.lof, lofLast := live.lofLast, ais := live.ais,
            aisLast := live.aisLast, aisRxPer := live.aisRxPer, seq := live.seq, ccmAt := live.ccmAt, checkAt := live.checkAt,
            aisAt := live.aisAt, aisTermLast := live.aisTermLast, aisNetLast := live.aisNetLast }

/-- A table with line k as another has it. -/
def Tab.copyLine {α : Type} [DecidableEq α] (d : Nat → α) (from_ to_ : Tab α) (k : Nat) : Tab α := to_.set d k (from_.get d k)

/-- The tables with line k of one of them as others have it. -/
def CtxTables.copyLine (from_ to_ : CtxTables) (k : Nat) : CtxTable → CtxTables
  | .rules => { to_ with rules := Tab.copyLine (fun _ => {}) from_.rules to_.rules k }
  | .mapUp => { to_ with mapUp := Tab.copyLine (fun _ => {}) from_.mapUp to_.mapUp k }
  | .xgem => { to_ with xgem := Tab.copyLine (fun _ => {}) from_.xgem to_.xgem k }
  | .sla => { to_ with sla := Tab.copyLine (fun _ => {}) from_.sla to_.sla k }
  | .meters => { to_ with meters := Tab.copyLine (fun _ => {}) from_.meters to_.meters k }
  | .services => { to_ with services := Tab.copyLine (fun _ => {}) from_.services to_.services k }
  | .matches_ => { to_ with matches_ := Tab.copyLine (fun _ => {}) from_.matches_ to_.matches_ k }
  | .shapers => { to_ with shapers := Tab.copyLine (fun _ => {}) from_.shapers to_.shapers k }
  | .endpoints => { to_ with endpoints := to_.endpoints.upd (fun _ => {}) k (fun e => e.restatic (from_.endpoints.get (fun _ => {}) k)) }
  | .groups => { to_ with groups := Tab.copyLine (fun _ => {}) from_.groups to_.groups k }
  | .members => { to_ with members := Tab.copyLine (fun _ => {}) from_.members to_.members k }
  | .megs => { to_ with megs := Tab.copyLine (fun _ => {}) from_.megs to_.megs k }
  | .meps => { to_ with meps := to_.meps.upd (fun _ => {}) k (fun m => m.restatic (from_.meps.get (fun _ => {}) k)) }
  | .allow => { to_ with allow := Tab.copyLine (fun _ => {}) from_.allow to_.allow k }
  | .ruleSets => { to_ with ruleSets := Tab.copyLine (fun _ => {}) from_.ruleSets to_.ruleSets k }
  | .indir => { to_ with indir := Tab.copyLine (fun _ => 0) from_.indir to_.indir k }
  | .gcls => { to_ with gcls := Tab.copyLine (fun _ => {}) from_.gcls to_.gcls k }
  | .msecTx => { to_ with msecTx := Tab.copyLine (fun _ => {}) from_.msecTx to_.msecTx k }
  | .msecRx => { to_ with msecRx := Tab.copyLine (fun _ => {}) from_.msecRx to_.msecRx k }

/-- The place of a table in 19 Table 2, from 0. -/
def ctxTableNo : CtxTable → Nat
  | .rules => 0 | .mapUp => 1 | .xgem => 2 | .sla => 3 | .meters => 4 | .services => 5 | .matches_ => 6 | .shapers => 7
  | .endpoints => 8 | .groups => 9 | .members => 9 | .megs => 10 | .meps => 10 | .allow => 11 | .ruleSets => 12 | .indir => 12
  | .gcls => 13 | .msecTx => 13 | .msecRx => 13

/-- The report of a line: table and line. -/
def ctxReport (cause : Cause) (tb : CtxTable) (k : Nat) (recovered : Bool) : Report :=
  { cls := 2, cause := cause, site := siteUpdate, obj := ctxTableNo tb, obj2 := k, recovered := recovered }

/-- A line is rewritten from its shadow. Whether a lookup used it since the last sweep, and so whether REPAIR_USED counts,
is a free value (log entry 37). -/
def State.ctxFromShadow (s : State) (tb : CtxTable) (k : Nat) : State :=
  let x := s.takeFree
  let s1 := ({ x.2 with ctx := x.2.ctxShadow.copyLine x.2.ctx k tb }).report (ctxReport .contextRepair tb k true)
  if x.1 % 2 = 1 then s1.bump .devRepairUsed 0 else s1

/-- One finding of the sweep (R494, R256, R257): where both lines are lost the line is made not valid. -/
def State.ctxRepair (s : State) (found : List CtxFault) : CtxFault → State
  | .differs tb k => s.ctxFromShadow tb k
  | .uncorrectable tb k =>
    if found.contains (.shadowLost tb k) then
      ({ s with ctx := ({} : CtxTables).copyLine s.ctx k tb, ctxShadow := ({} : CtxTables).copyLine s.ctxShadow k tb }).report
        (ctxReport .contextLoss tb k false)
    else s.ctxFromShadow tb k
  | .shadowLost tb k =>
    if found.contains (.uncorrectable tb k) then s
    else ({ s with ctxShadow := s.ctx.copyLine s.ctxShadow k tb }).report (ctxReport .contextRepair tb k true)

/-- CONTEXT_COMPARE_SWEEP (R398, R399, R494): 64 ms after the last one. A line that a command writes in the same core cycle
does not differ when the sweep reads it, and no finding names it (R495). -/
def State.ctxSweep (s : State) (found : List CtxFault) : State :=
  if !s.flg Reg.fwdCfg 8 || !s.cxm.link then s
  else if s.cxm.staleCtx then
    (({ s with ctxShadow := s.ctx, cxm := { s.cxm with staleCtx := false } }).report
      { cls := 11, cause := .shadowRebuilt, site := siteCxl, recovered := true }).raise 5 6
  else if s.time.now < s.cxm.ctxComparedAt + 64 * msU then s
  else
    let s1 := found.foldl (fun s f => s.ctxRepair found f) s
    { s1 with cxm := { s1.cxm with ctxComparedAt := s.time.now } }

end Sys2Proof.Machine
end

