-- ==== Sys2Proof/Machine/PonLine.lean ====
section
/-! DEFINITION. Machine/PonLine.lean: figures of the channel modes (02 Table 1, 05 Table 2), burst overhead (R164), the
timelines of a channel, PLOAM queues (R132), and the table lookups of the PON line. -/

namespace Sys2Proof.Machine

/-! ## Modes -/

def State.mode (s : State) (c : Nat) : Nat := s.fld Reg.pchCfg 1 0 c
def State.usRate (s : State) (c : Nat) : Nat := s.fld Reg.pchCfg 6 4 c

/-- The combinations of 02 Table 1. -/
def modeOk (mode rate : Nat) : Bool :=
  match mode with
  | 0 => rate == 0
  | 1 => rate == 1 || rate == 2 || rate == 3
  | 2 => rate == 3 || rate == 4
  | _ => false

/-- W of R49. -/
def State.wordBytes (s : State) (c : Nat) : Nat := if s.mode c = 0 then 4 else 8
/-- A time unit in model units: 3.215 ns or 2.572 ns (05 Table 2). -/
def State.unitU (s : State) (c : Nat) : Nat := if s.mode c = 0 then 6250 else 5000
/-- Time units per upstream frame. -/
def State.frameUnits (s : State) (c : Nat) : Nat := if s.mode c = 0 then 38880 else 48600
/-- UI (symbols of the preamble's line) in a time unit. -/
def State.uiPerUnit (s : State) (c : Nat) : Nat := match s.usRate c with | 0 => 32 | 1 => 32 | 2 => 64 | _ => 128
/-- A duration in UI, and UI as a duration. -/
def State.toUi (s : State) (c : Nat) (u : Int) : Int := u * (s.uiPerUnit c : Int) / (s.unitU c : Int)
def State.uiDur (s : State) (c n : Nat) : Nat := n * s.unitU c / s.uiPerUnit c
/-- Grant unit in bytes, which is also the bytes of a time unit. -/
def State.grantUnit (s : State) (c : Nat) : Nat :=
  match s.usRate c with | 0 => 4 | 1 => 4 | 2 => 8 | 3 => 16 | _ => 32
/-- Upstream bytes per frame. -/
def State.usFrameBytes (s : State) (c : Nat) : Nat := s.frameUnits c * s.grantUnit c
/-- Bytes of framing-sublayer data in a PHY frame (02 Table 5, R84). -/
def State.fsBytes (s : State) (c : Nat) : Nat :=
  match s.mode c with | 0 => 135432 | 1 => Config.f50FsBytes | _ => 1313248
/-- PSync (02 Table 5, R79). -/
def State.psync (s : State) (c : Nat) : Nat :=
  match s.mode c with
  | 0 => 0xC5E51840FD59BB49
  | 1 => Config.f50PSync
  | _ => if s.usRate c = 3 then 0x9A3D6E15C2B748F1 else 0x6B1EF04CA95327D8

/-- The mode and rate whose Ranging_Time unit a channel uses: a D100 channel that of F50 at 49.7664 Gbit/s (R117). -/
def eqdUnitOf (mode rate : Nat) : Nat × Nat := if mode = 2 then (1, 3) else (mode, rate)
/-- EqD rounded to the nearest Ranging_Time unit of a channel, and in that unit (R117). -/
def State.roundEqd (s : State) (c e : Nat) : Nat :=
  Config.roundEqd (eqdUnitOf (s.mode c) (s.usRate c)).1 (eqdUnitOf (s.mode c) (s.usRate c)).2 e
def State.eqdField (s : State) (c e : Nat) : Nat :=
  Config.eqdField (eqdUnitOf (s.mode c) (s.usRate c)).1 (eqdUnitOf (s.mode c) (s.usRate c)).2 e

/-! ## Timelines -/

/-- A PHY frame and Teqd, in units (R45, R102). -/
def frameU : Nat := 19440 * tickU
def teqdU : Nat := 97200 * tickU
/-- A duration in drift units of 1/1,024 tick, to the nearest one, as the worked example of 04 rounds (assumption 45). -/
def toDrift (u : Nat) : Nat := (u * 1024 + tickU / 2) / tickU
def driftU (d : Nat) : Nat := d * tickU / 1024
/-- The tick timeline in units. -/
def State.tu (s : State) : Nat := s.time.tick * tickU + s.time.tickFrac
/-- The PHY frame that the present instant lies in. -/
def State.frameNo (s : State) : Nat := s.time.tick / 19440
/-- The instant of the present in another count of the tick timeline: `now` at a tick-timeline instant not before it. -/
def State.nowAt (s : State) (tu : Nat) : Nat := s.time.now + (tu - s.tu)

/-- Unit n of upstream frame k of a channel as an absolute time unit (R139), and as an instant of the tick timeline. -/
def State.absUnit (s : State) (c k n : Nat) : Nat := k * s.frameUnits c + n
def State.absToTu (s : State) (c a : Nat) : Nat := a * s.unitU c + teqdU
/-- The first absolute unit at or after an instant. -/
def State.tuToAbs (s : State) (c tu : Nat) : Nat := cdiv (tu - teqdU) (s.unitU c)

/-! ## Profiles and bursts (R54, R153, R164) -/

def State.bp (s : State) (c n hi lo : Nat) : Nat := s.fld (Reg.pchBpCtl n) hi lo c
def State.bpValid (s : State) (c n : Nat) : Bool := s.flg (Reg.pchBpCtl n) 21 c

/-- Bytes of preamble and delimiter. -/
def State.preBytes (s : State) (c n : Nat) : Nat := s.bp c n 3 0 * s.bp c n 15 8 + s.bp c n 19 16

/-- Bytes per time unit of the preamble and delimiter: NRZ at 49.7664 Gbit/s before a PAM4 burst (R75). -/
def State.preUnit (s : State) (c : Nat) : Nat := if s.usRate c = 4 then 16 else s.grantUnit c

/-- O_pre (R164): the LTF lasts as long as 8 bytes at 49.7664 Gbit/s. -/
def State.oPre (s : State) (c n : Nat) : Nat :=
  let un := s.preUnit c
  let ltf := if s.usRate c = 4 then 8 else 0
  cdiv (s.bp c n 31 24 * 1215 * un + (s.preBytes c n + ltf) * s.unitU c) (s.unitU c * un)

/-- Bytes on the line of a burst's content (R164, 05 Table 6). -/
def State.lineBytes (s : State) (c n b : Nat) : Nat :=
  if !s.flg (Reg.pchBpCtl n) 20 c then b
  else if s.mode c = 0 then b + 16 * cdiv b 232
  else b + 336 * cdiv b 1824

/-- Time units of a burst's content. -/
def State.bodyUnits (s : State) (c n b : Nat) : Nat := cdiv (s.lineBytes c n b) (s.grantUnit c)
def State.burstUnits (s : State) (c n b : Nat) : Nat := s.oPre c n + s.bodyUnits c n b
/-- Bsn: a profile-0 burst of header, one PLOAMu and trailer (R104). -/
def State.bsn (s : State) (c : Nat) : Nat := s.burstUnits c 0 56

/-- The profile of a terminal's in-service bursts (R153). -/
def State.profileOf (s : State) (c i : Nat) : Nat :=
  let p := (s.term c i).profile.getD (s.fld Reg.gntCfg 25 24 c)
  if s.bpValid c p then p else 0

/-! ## Valid bursts, LOSi and CH_LOS (R57, R62, R64, R67) -/

/-- A BRST pulse of a channel that begins at an instant of the tick timeline (R67); none where WIDTH is 0. -/
def State.brstAt (s : State) (c tu : Nat) : State :=
  let width := s.fld Reg.pchBrst 7 0 c * cycleU
  if width = 0 then s else s.emit (.brst c (s.nowAt tu) (s.nowAt tu + width))

/-- Entry to or exit from a terminal's LOSi is reported (R62, R63): interrupt source 2 and a report of class 6. -/
def State.losiReport (s : State) (c i : Nat) (exit_ : Bool) : State :=
  let cause := if (s.term c i).losiGasp then Cause.losiGasp else Cause.losi
  (s.report { cls := 6, cause := cause, site := siteChannel c, obj := ctxNo c i, exit_ := exit_ }).raise (chanGroup c) 2

/-- Entry to or exit from CH_LOS is reported. -/
def State.chLosReport (s : State) (c : Nat) (exit_ : Bool) : State :=
  (s.report { cls := 6, cause := .chLos, site := siteChannel c, obj := c, exit_ := exit_ }).raise (chanGroup c) 1

/-- A valid burst of a channel is received: it is counted and ends CH_LOS; then every other terminal still in LOSi is reported
(R62, R64). `from_` is the terminal that sent it, which leaves LOSi by the same burst. -/
def State.validBurst (s : State) (c : Nat) (from_ : Option Nat) : State :=
  let los := (s.ch c).chLos
  let s1 := (s.bump .chValidBursts c).updCh c (fun p => { p with frameValid := true, losFrames := 0, chLos := false })
  if !los then s1
  else
    let hidden := ((s.terms.filter (fun e => e.1 / 256 == c && e.2.losi && e.2.losiHidden)).map (fun e => e.1 % 256)).filter
      (fun i => some i != from_)
    hidden.foldl (fun (s : State) (i : Nat) => (s.losiReport c i false).updTerm c i (fun t => { t with losiHidden := false }))
      (s1.chLosReport c true)

/-! ## Contexts of a channel -/

/-- The listed terminal contexts of a channel, by index. -/
def State.termsOf (s : State) (c : Nat) : List (Nat × Term) :=
  (s.terms.filter (fun e => e.1 / 256 == c)).map (fun e => (e.1 % 256, e.2))

def TermState.active : TermState → Bool
  | .assigned | .ranging | .operation => true
  | _ => false

/-- The device-wide context that holds a serial number in an active state. -/
def State.activeSn (s : State) (sn : Nat) : Option Nat := (s.terms.find? (fun e => e.2.state.active && e.2.sn == sn)).map (·.1)

/-- The move of a terminal in progress: from its source context. -/
def State.moveFrom (s : State) (c i : Nat) : Option Move := s.drl.moves.find? (fun m => m.src == c && m.i == i)
/-- The move that has reserved an index of a target. -/
def State.moveTo (s : State) (c i : Nat) : Option Move := s.drl.moves.find? (fun m => m.tgt == c && m.i' == some i)

/-- The context whose record serves a terminal on a channel: on the target of a move before its arrival point, that of the
source (R179, R192). -/
def State.holder (s : State) (c i : Nat) : Nat × Nat :=
  match s.moveTo c i with
  | some m => if m.arrived then (c, i) else (m.src, m.i)
  | none => (c, i)

/-- FREE, and not reserved by a move (R113, R178). -/
def State.idxFree (s : State) (c i : Nat) : Bool := (s.term c i).state == .free && (s.moveTo c i).isNone

/-- The ONU-ID of a terminal that a move has attached to a channel and that has not arrived there yet, with its index (R187). -/
def State.coming (s : State) (c : Nat) : List (Nat × Nat) :=
  s.drl.moves.filterMap (fun m => if m.tgt == c && !m.arrived then m.i'.map (fun i => (i, (s.term m.src m.i).onuId)) else none)

/-- An ONU-ID that no context of the channel holds and that is not in quarantine (R113, R114, R187). -/
def State.onuFree (s : State) (c id : Nat) : Bool :=
  !(s.termsOf c).any (fun e => e.2.state.active && e.2.onuId == id) && !(s.ch c).quarantine.any (fun q => q.1 == id)
    && !(s.coming c).any (fun e => e.2 == id)

/-- The OMCC port context of a terminal, and the valid contexts of a terminal. -/
def State.portsOf (s : State) (c i : Nat) : List (Nat × XgemPort) :=
  s.ctx.xgem.filter (fun e => e.1 / 4096 == c && e.2.valid && e.2.term == i)
def State.omccOf (s : State) (c i : Nat) : Option (Nat × XgemPort) := (s.portsOf c i).find? (fun e => e.2.omcc)
/-- The valid context of a channel that holds a port-ID. -/
def State.xgemFind (s : State) (c portId : Nat) : Option (Nat × XgemPort) :=
  s.ctx.xgem.find? (fun e => e.1 / 4096 == c && e.2.valid && e.2.portId == portId)

/-- The valid allocation contexts of a channel, and of one terminal. -/
def State.slasOf (s : State) (c : Nat) : List (Nat × Sla) :=
  (s.ctx.sla.filter (fun e => e.1 / 1024 == c && e.2.valid)).map (fun e => (e.1 % 1024, e.2))

/-! ## PLOAM (R132, R134) -/

/-- A hardware message joins a channel's queue; a Ranging_Time message replaces one of its terminal that still waits. -/
def State.ploamQueue (s : State) (c : Nat) (m : PloamMsg) : State :=
  s.updCh c (fun p => { p with ploamHw := p.ploamHw ++ [m] })

/-- A message to a terminal. -/
def State.ploamTo (s : State) (c i : Nat) (b : PloamBody) (copies : Nat := 1) : State :=
  s.ploamQueue c { ctx := some i, onuId := (s.term c i).onuId, sn := (s.term c i).sn, body := b, copies := copies }

/-- The class of a hardware message (R132). -/
def PloamBody.rank : PloamBody → Nat
  | .deactivate | .disableSn _ => 1
  | .rangingTime _ => 2
  | .assignOnuId => 3
  | .burstProfile _ => 4
  | .requestRegistration => 5
  | .host _ => 6

/-- The integrity slot that PON_KEY_SET has named for a terminal. -/
def State.ploamSlot (s : State) (c : Nat) (i : Option Nat) : Option Nat := i.bind (fun i => (s.term c i).plKey)

/-- The integrity key of a terminal: of its named slot, or the mode's default key (R134, R315); none: the named slot has been emptied,
or rewritten with another TYPE (R312). -/
def State.ploamKey (s : State) (c : Nat) (i : Option Nat) : Option (List Byte) :=
  match s.ploamSlot c i with
  | some k => if (s.keySlot k).cur.type = 2 then some (s.keySlot k).cur.key else none
  | none => some (Config.ploamDefaultKey (s.mode c))

/-- A MIC request of a message: one that names an emptied slot fails with KEY_EMPTY, and is counted (R312). -/
def State.ploamRequest (s : State) (c : Nat) (i : Option Nat) : State :=
  match s.ploamKey c i, s.ploamSlot c i with
  | none, some k => s.bump .keyKeyEmpty k
  | _, k => s.queueMic c k

/-- Does the MIC of an upstream message verify? -/
def State.ploamMicGood (s : State) (c : Nat) (i : Option Nat) (msg : List Byte) : Bool :=
  (s.ploamKey c i).any (fun key => Config.ploamMicOk key msg)

/-- The MIC check of an upstream message; the check takes a MIC request (R134, R303). -/
def State.ploamCheck (s : State) (c : Nat) (i : Option Nat) (msg : List Byte) : State × Bool :=
  (s.ploamRequest c i, s.ploamMicGood c i msg)

/-- A 64-bit pattern register pair of a channel. -/
def State.pattern (s : State) (c lo hi : Nat) : Nat := (s.reg hi c).toNat * 2 ^ 32 + (s.reg lo c).toNat

/-- The value of a field of a message of a channel (R54, R117). -/
def State.ploamField (s : State) (c seq n : Nat) (m : PloamMsg) : PloamField → Nat
  | .const v => v
  | .onuId => m.onuId
  | .seq => seq
  | .serial => m.sn
  | .eqd => match m.body with | .rangingTime e => s.eqdField c e | _ => 0
  | .profile => match m.body with | .burstProfile p => p | _ => 0
  | .control => match m.body with | .burstProfile p => (s.reg (Reg.pchBpCtl p) c).toNat | _ => 0
  | .preamble => match m.body with | .burstProfile p => s.pattern c (Reg.pchBpPreLo p) (Reg.pchBpPreHi p) | _ => 0
  | .delimiter => match m.body with | .burstProfile p => s.pattern c (Reg.pchBpDlmLo p) (Reg.pchBpDlmHi p) | _ => 0
  | .bar => match m.body with | .disableSn b => b2n b | _ => 0
  | .host at_ => match m.body with | .host b => be b / 2 ^ (8 * b.length - at_ - n) | _ => 0

/-- The 40 bytes of a message before its MIC: its fields in the order of the Recommendation, each most significant bit first (R5). -/
def State.ploamBytes (s : State) (c seq : Nat) (m : PloamMsg) : List Byte :=
  let l := Config.ploamLayout (s.mode c) m.body.kind
  let v := l.foldl (fun v f => v * 2 ^ f.2 + s.ploamField c seq f.2 m f.1 % 2 ^ f.2) 0
  toBe 40 (v * 2 ^ (320 - (l.map (·.2)).sum))

/-- A message with its MIC under a key (R134). -/
def State.ploamSealed (s : State) (c seq : Nat) (m : PloamMsg) (key : List Byte) : List Byte :=
  let b := s.ploamBytes c seq m
  b ++ toBe 8 (Config.ploamMic key b).toNat

/-- A downstream message as sent, with its sequence number; that of a broadcast message is a free value (log entry 38). One whose MIC
request fails does not go (R312; what its sending would begin goes on, as where the terminal does not hear it: log entry 81). -/
def State.ploamSend (s : State) (c : Nat) (m : PloamMsg) : State × Option (List Byte) :=
  let x := match m.ctx with
    | some i =>
      let t := s.term c i
      let n := (t.plSeq + 1) % 256
      (n, s.setTerm c i { t with plSeq := n })
    | none => let x := s.takeFree; (x.1 % 256, x.2)
  (x.2.ploamRequest c m.ctx, (s.ploamKey c m.ctx).map (s.ploamSealed c x.1 m))

/-! ## The allow-list (04 Table 4) -/

def snBytes (sn : Nat) : List Byte := toBe 8 sn
def allowWays (sn : Nat) : List Nat := (List.range 8).map (fun w => 8 * (crc32c 0 (snBytes sn) % 8192) + w)
def State.allowOf (s : State) (k : Nat) : AllowEntry := s.ctx.allow.get (fun _ => {}) k
def State.allowFind (s : State) (sn : Nat) : Option Nat :=
  (allowWays sn).find? (fun k => (s.allowOf k).valid && (s.allowOf k).sn == sn)
def State.recordOf (s : State) (k : Nat) : TermRec := s.records.get (fun _ => {}) k

/-- VALID of a record is cleared. -/
def State.recordClear (s : State) (k : Nat) : State :=
  if s.cxm.link then { s with records := s.records.upd (fun _ => {}) k (fun r => { r with valid := false }) }
  else s.bump .devDeviceMemoryWritesDropped 0

/-- The record of a terminal is written (R128): what held at its last ranging. -/
def State.recordWrite (s : State) (c i : Nat) : State :=
  let t := s.term c i
  match t.entry with
  | none => s
  | some k =>
    let e := s.allowOf k
    if !(e.valid && e.sn == t.sn) || s.forgotten.contains t.sn then s
    else if !s.cxm.link then s.bump .devDeviceMemoryWritesDropped 0
    else
      let r : TermRec :=
      { sn := t.sn, valid := true, tree := c / 4, wl := c % 4, onuId := t.rangedAs, ctx := i, mode := s.mode c, tag := e.tag,
        rtd := t.rtd, seen := s.time.tick % 2 ^ 64 }
      { s with records := s.records.set (fun _ => {}) k r }

end Sys2Proof.Machine
end

