-- ==== Sys2Proof/Machine/Activation.lean ====
section
/-! DEFINITION. Machine/Activation.lean: terminal activation and ranging (04): the allow-list, admission, discovery,
ranging, acknowledgements, drift corrections, loss and deactivation, remembered attempts. -/

namespace Sys2Proof.Machine

/-- Instants and delays of the activation unit. -/
def us (n : Nat) : Nat := n * usU
/-- Distance in 0.1 km as a round-trip delay: 9.80 µs a km, 0.98 µs a tenth (R101). -/
def reachU (n : Nat) : Nat := n * 98 * usU / 100

/-! ## Contexts that change state (R98, R99, R116, R126, R127) -/

/-- An ONU-ID goes into quarantine for `ACT_LOST.QUAR` ms (R114). -/
def State.quarantineId (s : State) (c id : Nat) : State :=
  s.updCh c (fun p => { p with quarantine := p.quarantine.filter (fun q => q.1 != id)
    ++ [(id, s.time.now + s.fld Reg.actLost 31 24 c * msU)] })

/-- A context becomes FREE: its binding is freed, and forwarding entries that name the binding go (R180, R247). -/
def State.freeTerm (s : State) (c i : Nat) : State :=
  let t := s.term c i
  let s1 := match t.binding with
    | some b =>
      let s0 := (s.fwdDropBinding b).bindingUp (some b)
      { s0 with drl := { s0.drl with bindings := s0.drl.bindings.set (fun _ => none) b none } }
    | none => s
  (s1.setTerm c i {}).keepTermSet (ctxNo c i)

/-- TERM_LOST with its cause: 0 LOSI, 1 DYING_GASP, 2 RANGE_OUT, 3 CH_DISABLED, 4 COMMAND. -/
def State.termLostEvent (s : State) (c i cause : Nat) : State := s.event 0x14 (ctxNo c i) (toLe 1 cause)

/-- What a context that leaves the line keeps: identity, profile, keys and binding; its conditions start afresh. -/
def Term.parked (t : Term) (st : TermState) : Term :=
  { state := st, sn := t.sn, tag := t.tag, entry := t.entry, rtd := t.rtd, eqd := t.eqd, profile := t.profile, plKey := t.plKey, rangedAs := t.rangedAs,
    key1 := t.key1, key2 := t.key2, txIndex := t.txIndex, binding := t.binding, txn := t.txn, holdUntil := t.holdUntil,
    plSeq := t.plSeq }

/-- A context enters LOST: its queue set is held for `SW_HOLD.TIME`, or flushed at once where that is 0 (R272); its shapers
stand still (R289); its binding's terminal is unavailable. -/
def State.toLost (s : State) (c i : Nat) (hold : Bool) : State :=
  let t := s.term c i
  let n := ctxNo c i
  let time := s.fld Reg.swHold 15 0
  let s1 := (s.setTerm c i { t.parked .lost with holdUntil := if hold && time != 0 then some (s.time.now + time * msU) else t.holdUntil }).bindingDown t.binding
  if !hold then s1 else if time = 0 then s1.loseTermSet n else s1.holdShapers n

/-- A terminal in OPERATION becomes LOST (R126, R127, R99): ONU-ID released, record written, TERM_LOST. -/
def State.loseTerm (s : State) (c i cause : Nat) (deactivate : Nat) : State :=
  let t := s.term c i
  let s1 := if deactivate = 0 then s else s.ploamTo c i .deactivate deactivate
  let s2 := if cause = 3 then s1 else s1.recordWrite c i
  (((s2.toLost c i true).quarantineId c t.onuId)).termLostEvent c i cause

/-- A context in activation returns to FREE, or to LOST if it was LOST before (R116, R119). -/
def State.returnTerm (s : State) (c i : Nat) (quarantine : Bool) : State :=
  let t := s.term c i
  let s1 := if quarantine then s.quarantineId c t.onuId else s
  if t.wasLost then (s1.setTerm c i (t.parked .lost)).recordWrite c i else s1.freeTerm c i

/-- RANGE_OUT (R116, R121, R125): Deactivate_ONU-ID, the event, and the context returns or becomes LOST. -/
def State.rangeOut (s : State) (c i rtd : Nat) : State :=
  let s1 := s.event 0x15 (ctxNo c i) (toLe 4 rtd)
  if (s.term c i).state == .operation then s1.loseTerm c i 2 1
  else (s1.ploamTo c i .deactivate).returnTerm c i true

/-- HOLD_EXPIRY (R272). -/
def State.holdEnd (s : State) (c i : Nat) : State :=
  let t := s.term c i
  match t.holdUntil with
  | some u =>
    if t.state != .operation && decide (u ≤ s.time.now) then
      (s.setTerm c i { t with holdUntil := none }).loseTermSet (ctxNo c i)
    else s
  | none => s

/-- LOST_TIME_EXPIRY (R126): LOSi has stood for `ACT_LOST.TIME`. -/
def State.lostTime (s : State) (c i : Nat) : State :=
  let t := s.term c i
  if t.state == .operation && t.losi && !t.detached && decide (t.losiAt + s.fld Reg.actLost 15 0 c * msU ≤ s.time.now) then
    s.loseTerm c i (b2n t.losiGasp) 3
  else s

/-- QUARANTINE_EXPIRY (R114). -/
def State.quarantineEnd (s : State) (c id : Nat) : State :=
  s.updCh c (fun p => { p with quarantine := p.quarantine.filter (fun q => !(q.1 == id && decide (q.2 ≤ s.time.now))) })

/-! ## Admission (R113, R180) -/

/-- The lowest binding that no terminal holds. -/
def State.lowBinding (s : State) : Option Nat := (List.range 49152).find? (fun b => (s.bindingCtx b).isNone)

/-- The context index of an admission (R113). -/
def State.admitIndex (s : State) (c sn : Nat) (pin : Option Nat) : Option Nat :=
  match pin with
  | some i => if s.idxFree c i || ((s.term c i).state == .lost && (s.term c i).sn == sn) then some i else none
  | none =>
    match (s.termsOf c).find? (fun e => e.2.state == .lost && e.2.sn == sn) with
    | some e => some e.1
    | none => (List.range 256).find? (s.idxFree c)

/-- The ONU-ID of an admission (R113): pinned; the record's, where it is free; the lowest free. -/
def State.admitOnu (s : State) (c : Nat) (pin rec_ : Option Nat) : Option Nat :=
  match pin with
  | some id => if s.onuFree c id then some id else none
  | none =>
    match rec_ with
    | some id => if s.onuFree c id then some id else (List.range 1023).find? (s.onuFree c)
    | none => (List.range 1023).find? (s.onuFree c)

/-- ID_CONFLICT: channel, serial number, pinned index or ONU-ID. DESIGN CHOICE (log entry 68): the index where both are pinned, and
0xFFFF where neither is; 04 Table 12 says neither. -/
def State.idConflict (s : State) (c sn : Nat) (pinCtx pinId : Option Nat) : State :=
  (s.bump .xIdConflict c).event 0x12 c (snBytes sn ++ toLe 2 ((pinCtx.orElse (fun _ => pinId)).getD 0xFFFF))

/-- A serial number is admitted on a channel (R113, R118 step 1): under an allow-list entry, or without. -/
def State.admitSn (s : State) (c sn : Nat) (entry : Option Nat) (remembered : Bool) (t0 : Nat) (base : Int) : State × Bool :=
  let e := match entry with
    | some k => s.allowOf k
    | none => {}
  let r := match entry with
    | some k => if (s.recordOf k).valid && (s.recordOf k).sn == sn && s.cxm.link then some (s.recordOf k).onuId else none
    | none => none
  match s.admitIndex c sn e.pinCtx, s.admitOnu c e.pinId r with
  | some i, some id =>
    let old := s.term c i
    let lost := old.state == .lost
    match (if lost then old.binding else s.lowBinding) with
    | none => (s.idConflict c sn e.pinCtx e.pinId, false)
    | some b =>
      let base_ := if lost then old.parked .assigned else ({ state := .assigned } : Term)
      let t := { base_ with sn := sn, onuId := id, tag := e.tag, entry := entry, wasLost := lost, remembered := remembered,
                            step := .admitted, t0 := t0, turn := (s.ch c).admitted, rtdBase := base, binding := some b,
                            retries := 0, txn := 0 }
      let s1 := (s.setTerm c i t).updCh c (fun p => { p with admitted := p.admitted + 1 })
      let s2 := { s1 with drl := { s1.drl with bindings := s1.drl.bindings.set (fun _ => none) b (some (ctxNo c i)) },
                          forgotten := s1.forgotten.filter (· != sn) }
      (if lost then s2 else s2.bindingDown (some b), true)
  | _, _ => (s.idConflict c sn e.pinCtx e.pinId, false)

/-! ## Discovery (R104 to R112, R196) -/

/-- The burst header checks that R57 and R90 make: what fails first (0 delimiter, 1 LTF, 2 HEC, 3 ONU-ID); none: valid.
`slack` is the half-width of the delimiter search in UI. -/
def State.headFault (s : State) (c profile : Nat) (slack : Int) (onuId : Nat) (h : BurstHead) : Option Nat :=
  let err := s.fld Reg.pchUs 11 8 c
  let most := if s.bp c profile 19 16 = 4 then min err 1 else err
  let delimOk := match h.delim with
    | some (off, n) => decide (-slack ≤ off) && decide (off ≤ slack) && decide (n ≤ most)
    | none => false
  let span := h.levels.getLastD 0 - h.levels.headD 0
  let apart (a b : Int) : Bool := decide (a < b) && decide (span ≤ 8 * (b - a))
  let ltfOk := s.usRate c != 4 || (match h.levels with
    | [a, b, x, y] => apart a b && apart b x && apart x y
    | _ => false)
  if !delimOk then some 0 else if !ltfOk then some 1 else if h.hecErrs > 2 then some 2 else if h.onuId ≠ onuId then some 3 else none

/-- Counts a failing header (02 R57, R90); an LTF failure is reported too. -/
def State.countHead (s : State) (c : Nat) : Nat → State
  | 0 => s.bump .chBurstsWithoutDelimiter c
  | 1 => (s.bump .chLtfFailures c).report { cls := 6, cause := .ltfFail, site := siteChannel c, obj := c }
  | 2 => s.bump .chBurstHeaderHecFailures c
  | _ => s.bump .chOnuIdMismatches c

/-- The referral budget of a channel (R111): one event, or a deferral. -/
def State.refer (s : State) (c : Nat) (k : State → State) : State :=
  let r := (s.ch c).refTokens.take 2000 32 s.time.now
  let s1 := s.updCh c (fun p => { p with refTokens := r.2 })
  if r.1 then k s1 else s1.bump .chReferralDeferrals c

/-- SN_UNKNOWN, not again within `ACT_GCFG.REF_HOLD` ms (R111, R112). -/
def State.snUnknown (s : State) (c sn : Nat) : State :=
  let hold := s.fld Reg.actGcfg 31 16 * msU
  if (s.ch c).referred.any (fun r => r.1 == sn && decide (s.time.now < r.2)) then s.bump .xSnHeld c
  else
    s.refer c (fun s =>
      (s.updCh c (fun p => { p with referred := p.referred.filter (fun r => decide (s.time.now < r.2)) ++ [(sn, s.time.now + hold)] })).event
        0x10 c (snBytes sn))

/-- One admission of a discovery window, within `ACT_DISC.PER_WIN` (R107). -/
def State.admitFromWindow (s : State) (c sn : Nat) (entry : Option Nat) (w : DiscWin) (base : Int) : State :=
  if w.admitted ≥ s.fld Reg.actDisc 15 8 c then s.bump .chCapDeferrals c
  else
    let r := s.admitSn c sn entry false w.closes base
    if !r.2 then r.1
    else r.1.updCh c (fun p => { p with disc := p.disc.map (fun (x : DiscWin) =>
      if x.opens = w.opens then { x with admitted := x.admitted + 1 } else x) })

/-- A move of a terminal is in progress whose tree is this channel's (R196). -/
def State.movingSn (s : State) (c sn : Nat) : Bool :=
  s.drl.moves.any (fun m => m.src / 4 == c / 4 && (s.term m.src m.i).sn == sn)

/-- The first rule of 04 Table 5 that holds of an accepted response. -/
def State.judgeSn (s : State) (c sn : Nat) (w : DiscWin) (base : Int) : State :=
  if (s.termsOf c).any (fun e => e.2.state == .disabled && e.2.sn == sn) then s.bump .xSnBarred c
  else if s.movingSn c sn then s.bump .xSnMoving c
  else
    match s.activeSn sn with
    | some n => s.refer c (fun s => s.event 0x11 c (snBytes sn ++ toLe 4 n))
    | none =>
      match s.allowFind sn with
      | some k =>
        let e := s.allowOf k
        if e.deny || (!e.treeAny && e.tree != c / 4) then s.bump .xSnDenied c else s.admitFromWindow c sn (some k) w base
      | none =>
        match s.fld Reg.actGcfg 9 8 with
        | 0 => s.snUnknown c sn
        | 2 => s.admitFromWindow c sn none w base
        | _ => s.bump .xSnDenied c

/-- SERIAL_NUMBER_ONU (R106, R110): a response in a discovery window; one that overlaps the last accepted burst is a
collision. Arrivals are instants of the tick timeline in units. -/
def State.snResponse (s : State) (c : Nat) (r : SnResp) : State :=
  match (s.ch c).disc.find? (fun w => decide (s.nowAt w.opens ≤ s.nowAt r.arrival) && decide (w.opens ≤ r.arrival) && decide (r.arrival ≤ w.closes)) with
  | none => s
  | some w =>
    let bsn := s.bsn c * s.unitU c
    let hit := match w.last with
      | some a => decide (r.arrival < a + bsn)
      | none => false
    if hit || r.collided then s.bump .chDiscoveryCollisions c
    else
      match s.headFault c 0 0x7FFFFFFF (Config.broadcastOnuId (s.mode c)) r.head with
      | some n => s.countHead c n
      | none =>
        let w1 := { w with last := some r.arrival }
        let s0 := (s.validBurst c none).brstAt c (r.arrival + s.bodyUnits c 0 56 * s.unitU c)
        let s1 := s0.updCh c (fun p => { p with disc := p.disc.map (fun (x : DiscWin) => if x.opens = w.opens then w1 else x) })
        let m := s1.ploamCheck c none r.msg
        if !m.2 then m.1.bump .xPloamMic c
        else m.1.judgeSn c r.sn w1 ((r.arrival : Int) + teqdU - us 48 - w.grant)

/-- DISCOVERY_WINDOW_CLOSE (R106): a window whose end has come. -/
def State.discClose (s : State) (c : Nat) : State :=
  s.updCh c (fun p => { p with disc := p.disc.filter (fun w => decide (s.tu < w.closes)) })

/-! ## Ranging (R115 to R119) -/

/-- A ranging response is measured (R116, R117): Ranging_Time is queued for the next PHY frame, or RANGE_OUT. -/
def State.ranged (s : State) (c i grant arrival : Nat) : State :=
  let rtd := toDrift (arrival + teqdU - grant)
  if rtd > toDrift teqdU then s.rangeOut c i rtd
  else
    let eqd := s.roundEqd c (toDrift teqdU - rtd)
    (s.updTerm c i (fun t => { t with rtd := rtd, eqd := eqd, step := .measured })).ploamTo c i (.rangingTime eqd)

/-- RANGING_RESPONSE (R57, R90, R116): an answer with the terminal's serial number inside its window or slot, whose header is
checked as any burst's; one that its context's state does not name is counted (R98). -/
def State.rangingResponse (s : State) (c i sn arrival : Nat) (head : BurstHead) : State :=
  let t := s.term c i
  match t.step with
  | .window opens closes grant =>
    if t.state == .ranging && t.sn == sn && decide (opens ≤ arrival) && decide (arrival ≤ closes) then
      match s.headFault c 0 0x7FFFFFFF t.onuId head with
      | some n => s.countHead c n
      | none =>
        let s1 := s.validBurst c (some i)
        (if t.remembered then s1 else s1.brstAt c (arrival + s.bodyUnits c 0 56 * s.unitU c)).ranged c i grant arrival
    else s
  | _ => s.bump .xTermEvent (ctxNo c i)

/-- The attempts of a terminal go on or are exhausted (R119); a remembered attempt ends without retry or message (R129). -/
def State.rangingMissed (s : State) (c i : Nat) : State :=
  let t := s.term c i
  if t.remembered then s.returnTerm c i false
  else if t.retries < s.fld Reg.actLost 23 16 c then
    s.setTerm c i { t with step := .assigned (s.frameNo - 2), retries := t.retries + 1 }
  else ((s.ploamTo c i .deactivate).bump .chRangingFailures c).returnTerm c i true

/-- RANGING_WINDOW_CLOSE (R119). -/
def State.rangingClose (s : State) (c i : Nat) : State :=
  let t := s.term c i
  match t.step with
  | .window _ closes _ => if t.state == .ranging && decide (closes ≤ s.tu) then s.rangingMissed c i else s
  | _ => s

/-! ## Ranging_Time in service (R121 to R125) -/

/-- A Ranging_Time message goes to a terminal in OPERATION (R121, R123, R125): RERANGED is reported for DOWi. -/
def State.rerange (s : State) (c i : Nat) (eqd : Int) (cause : RtCause) : State :=
  let t := s.term c i
  if eqd < 0 then s.rangeOut c i (toDrift teqdU + (-eqd).toNat)
  else
    let e := s.roundEqd c eqd.toNat
    let s1 := (s.setTerm c i { t with pending := some { eqd := e, cause := cause } }).ploamTo c i (.rangingTime e)
    if cause == .dowi then s1.event 0x16 (ctxNo c i) (toLe 4 t.eqd ++ toLe 4 e) else s1

/-- A new EqD is acknowledged (R121, R122, R123, R128). -/
def State.ackRerange (s : State) (c i : Nat) (p : PendingRt) : State :=
  let t := s.term c i
  let next := (s.tu + frameU - 1 - 15552 * tickU) / frameU + 1
  let t1 := { t with eqd := p.eqd, oldEqd := t.eqd, rtd := toDrift teqdU - p.eqd, avg := 0, pending := none, newFrom := next,
                     dowFrom := if t.dowi then some next else t.dowFrom }
  (s.setTerm c i t1).recordWrite c i

/-- Entry to OPERATION (R118 step 7): TERM_UP, Request_Registration, the record, and the queue set (R272). -/
def State.enterOperation (s : State) (c i : Nat) : State :=
  let t := s.term c i
  let n := ctxNo c i
  let t1 := { t with state := .operation, step := .none, rangedAs := t.onuId, avg := 0, pending := none, holdUntil := none, remembered := false,
                     wasLost := false, newFrom := 0 }
  let s1 := (((s.setTerm c i t1).keepTermSet n).resumeShapers n).bindingUp t.binding
  ((s1.recordWrite c i).event 0x13 n (toLe 2 t.onuId ++ snBytes t.sn ++ toLe 2 t.tag ++ toLe 4 t.rtd)).ploamTo c i .requestRegistration

/-- ACKNOWLEDGEMENT (R118 step 7, R122): of the Ranging_Time of an activation, or of one in service. -/
def State.ackMessage (s : State) (c i : Nat) (msg : List Byte) : State :=
  let t := s.term c i
  let m := s.ploamCheck c (some i) msg
  if !m.2 then m.1.bump .termPloamMicFailures (ctxNo c i)
  else
    match t.state, t.step, t.pending with
    | .ranging, .ackDue _, _ => m.1.enterOperation c i
    | .operation, _, some p => m.1.ackRerange c i p
    | _, _, _ => m.1.bump .xTermEvent (ctxNo c i)

/-- REGISTRATION: the registration ID goes to the host (04 Table 11). -/
def State.registrationMessage (s : State) (c i : Nat) (msg : List Byte) : State :=
  let m := s.ploamCheck c (some i) msg
  if !m.2 then m.1.bump .termPloamMicFailures (ctxNo c i)
  else m.1.event 0x17 (ctxNo c i) (Config.registrationId msg)

/-- PLOAM_RX: any other upstream message goes to the host with the result of its MIC check (R134, R445). -/
def State.ploamRxMessage (s : State) (c i : Nat) (msg : List Byte) : State :=
  let m := s.ploamCheck c (some i) msg
  m.1.event 0x18 (ctxNo c i) (msg.take 48 ++ toLe 1 (b2n m.2))

/-! ## Remembered attempts (R129 to R131) -/

/-- Record k is eligible on a channel. -/
def State.recordEligible (s : State) (c k : Nat) : Bool :=
  let r := s.recordOf k
  let e := s.allowOf k
  s.cxm.link && r.valid && e.valid && e.sn == r.sn && !e.deny && (e.treeAny || e.tree == c / 4) && r.tree == c / 4 && r.wl == c % 4
    && (s.activeSn r.sn).isNone && !(s.termsOf c).any (fun t => t.2.state == .disabled && t.2.sn == r.sn)

/-- The records of a channel that a round may take, in record order from a cursor. -/
def State.eligibleFrom (s : State) (c cursor : Nat) : List Nat :=
  ((s.records.map (·.1)).filter (fun k => decide (cursor ≤ k) && s.recordEligible c k))

/-- An attempt of a round is complete when its response is measured or missing: 6 frames after its step 2 at most (R129;
assumption 46). -/
def ActStep.awaited : ActStep → Bool
  | .admitted | .assigned _ | .window _ _ _ => true
  | .none | .measured | .told _ | .ackDue _ => false

/-- Attempts of remembered records that are not over. -/
def State.attemptsOpen (s : State) (c : Nat) : Bool :=
  (s.termsOf c).any (fun e => e.2.remembered && (e.2.state == .assigned || e.2.state == .ranging) && e.2.step.awaited)

/-- Takes up to n records into attempts, in record order; a record that cannot be admitted is passed over. -/
def State.takeRecords (s : State) (c t0 : Nat) : List Nat → State
  | [] => s
  | k :: ks =>
    let r := s.recordOf k
    ((s.admitSn c r.sn (some k) true t0 (driftU r.rtd)).1).takeRecords c t0 ks

/-- A round begins, or all are over (R129, R131). DESIGN CHOICE (log entry 46): with TRIES or PER_FRAME 0 there is no first round, and
the spec does not say when discovery may open; here it waits for SETTLE frames as where the first round ends at once. -/
def State.startRound (s : State) (c n : Nat) : State :=
  let tries := s.fld Reg.actMem 19 16 c
  let per := s.fld Reg.actMem 7 0 c
  if n > tries ∨ per = 0 then s.updCh c (fun p => { p with rounds := .ended, firstDone := true })
  else s.updCh c (fun p => { p with rounds := .running n 0 })

/-- A round that has no record left and no attempt open ends, and the next one starts (R129); one that found no record at all is
the last, since those after it would find none either (R131). -/
def State.endRound (s : State) (c : Nat) : State :=
  match (s.ch c).rounds with
  | .running n cursor =>
    if (s.eligibleFrom c cursor).isEmpty && !s.attemptsOpen c then
      (s.updCh c (fun p => { p with firstDone := true })).startRound c (if cursor = 0 then 256 else n + 1)
    else s
  | _ => s

/-- The records of the frame that starts; t0 is its start (R118, R129). Attempts beyond the tree cap are deferred by R137 where
they are started. -/
def State.takeRound (s : State) (c : Nat) : State :=
  match (s.ch c).rounds with
  | .running n cursor =>
    let take := (s.eligibleFrom c cursor).take (s.fld Reg.actMem 7 0 c)
    if take.isEmpty then s
    else (s.updCh c (fun p => { p with rounds := .running n (take.getLastD 0 + 1) })).takeRecords c s.tu take
  | _ => s

/-- The first round is due, SETTLE frames after the first frame. -/
def State.settled (s : State) (c : Nat) : Bool :=
  match (s.ch c).rounds with
  | .settling first => decide (first + s.fld Reg.actMem 15 8 c ≤ s.frameNo)
  | _ => false

/-- REMEMBERED_ROUND_START (R129): the round that is due begins; its records are taken at frame starts. -/
def State.roundDue (s : State) (c : Nat) : State :=
  let s1 := if s.settled c then s.startRound c 1 else s
  (s1.endRound c).endRound c

/-- The rounds at the start of a PHY frame of a channel (R129). -/
def State.roundFrame (s : State) (c : Nat) : State :=
  let s1 := match (s.ch c).rounds with
    | .idle => s.updCh c (fun p => { p with rounds := .settling s.frameNo })
    | _ => s
  (s1.roundDue c).takeRound c

/-! ## The allow-list commands (R108, R128) -/

/-- An allow-list entry from its buffer (04 Table 4). -/
def allowOfBuf (b : List Byte) : AllowEntry :=
  { sn := beAt b 0 8, valid := bufBit b 8 0, deny := bufBit b 8 1, treeAny := bufBit b 8 2, tree := byteAt b 9 % 64,
    pinCtx := if bufBit b 9 6 then some (byteAt b 10) else none, pinId := if bufBit b 9 7 then some (leAt b 11 2 % 1024) else none,
    tag := leAt b 14 2 }

/-- ALLOW_WRITE (R108). -/
def opAllowWrite (x : Slot) (s : State) : Turn :=
  withLen x 16 s fun b =>
    let e := allowOfBuf b
    checks [(!e.valid || decide (e.tree > 47) || decide (e.pinId.getD 0 > 1022), Status.allowBad)] s fun _ =>
      match (s.allowFind e.sn).orElse (fun _ => (allowWays e.sn).find? (fun k => !(s.allowOf k).valid)) with
      | none => s.fails Status.allowFull
      | some k => (s.ctxWrite (fun c => { c with allow := c.allow.set (fun _ => {}) k e })).ok

/-- ALLOW_ERASE (R128). -/
def opAllowErase (x : Slot) (s : State) : Turn :=
  withLen x 8 s fun b =>
    match s.allowFind (beAt b 0 8) with
    | none => s.fails Status.allowNone
    | some k =>
      ((s.ctxWrite (fun c => { c with allow := c.allow.upd (fun _ => {}) k (fun e => { e with valid := false }) })).recordClear k).ok

/-- RECORD_FORGET (R128). -/
def opRecordForget (x : Slot) (s : State) : Turn :=
  withLen x 8 s fun b =>
    let sn := beAt b 0 8
    match s.allowFind sn with
    | none => s.fails Status.allowNone
    | some k => (({ s with forgotten := s.forgotten.filter (· != sn) ++ [sn] }).recordClear k).ok

end Sys2Proof.Machine
end

