-- ==== Sys2Proof/Machine/Reserve.lean ====
section
/-! DEFINITION. Machine/Reserve.lean: reservations and committed slots of the grant engine (05 R167, R168, Table 7): discovery
windows, arrival, recovery, ranging and directed slots, committed at the snapshot of the frame in which they open. -/

namespace Sys2Proof.Machine

/-- Time units of the channel that a duration takes, rounded up. -/
def State.unitsUp (s : State) (c dur : Nat) : Nat := cdiv dur (s.unitU c)
/-- `ACT_MEM.TOL` in units of the model. -/
def State.tolDur (s : State) (c : Nat) : Nat := s.fld Reg.actMem 31 24 c * usU / 10
/-- How far a response may lie from its predicted arrival in a slot: TOL, or `PCH_US.WIN` where TOL is 0 (04 Table 10). -/
def State.slackDur (s : State) (c : Nat) : Nat :=
  if s.fld Reg.actMem 31 24 c = 0 then s.uiDur c (s.fld Reg.pchUs 7 0 c) else s.tolDur c
/-- Duration of a profile-0 burst Bsn (R104). -/
def State.bsnDur (s : State) (c : Nat) : Nat := s.bsn c * s.unitU c

/-- Insertion in ascending order of a key. -/
def insertBy {α : Type} (key : α → Nat) (x : α) : List α → List α
  | [] => [x]
  | y :: ys => if key x < key y then x :: y :: ys else y :: insertBy key x ys
/-- A list in ascending order of a key; equals keep their order. -/
def sortBy {α : Type} (key : α → Nat) : List α → List α
  | [] => []
  | x :: xs =>
    let rec go : List α → List α → List α
      | acc, [] => acc
      | acc, y :: ys => go (insertBy key y acc) ys
    go [x] xs

/-! ## Free intervals -/

/-- What is left of a list of rising intervals when one more is taken out. -/
def cutOut (a b : Nat) : List (Nat × Nat) → List (Nat × Nat)
  | [] => []
  | (x, y) :: t =>
    if b ≤ x ∨ y ≤ a then (x, y) :: cutOut a b t
    else (if x < a then [(x, a)] else []) ++ (if b < y then [(b, y)] else []) ++ cutOut a b t

/-- The reservation of frame k as offsets in the frame. -/
def Reserve.within (r : Reserve) (fu k : Nat) : Nat × Nat := (r.from_ - k * fu, min fu (r.to_ - k * fu))

/-- The free intervals of upstream frame k: its units outside every reservation (R167). -/
def State.freeIn (s : State) (c k : Nat) : List (Nat × Nat) :=
  let fu := s.frameUnits c
  (s.gntCh c).reserves.foldl (fun (l : List (Nat × Nat)) (r : Reserve) =>
    if k * fu < r.to_ ∧ r.from_ < (k + 1) * fu then cutOut (r.within fu k).1 (r.within fu k).2 l else l) [(0, fu)]

/-- The earliest unit, not before `a`, at which `width` units lie in a free interval. -/
def firstFit (width a : Nat) : List (Nat × Nat) → Option Nat
  | [] => none
  | (x, y) :: t => if max x a + width ≤ y then some (max x a) else firstFit width a t

def State.addReserve (s : State) (c : Nat) (r : Reserve) : State := s.updGnt c (fun g => { g with reserves := g.reserves ++ [r] })
def State.addCommit (s : State) (c : Nat) (r : Commit) : State := s.updGnt c (fun g => { g with commits := g.commits ++ [r] })

/-- A grant whose StartTime alone counts: no burst lies there (R168). -/
def pointGrant (kind : BurstKind) (term : Option Nat) (allocId start : Nat) : GBurst :=
  { kind := kind, term := term, first := start, start := start, stop := start, profile := 0, ploamu := true,
    structs := [{ ctx := none, allocId := allocId, dbru := false }] }

/-! ## Discovery windows (R104, R105, R131, R187) -/

/-- The window of frame k: the absolute unit of its grant S, and its opening and close on the tick timeline. -/
def State.discSpan (s : State) (c k : Nat) : Nat × Nat × Nat :=
  let lo := reachU (s.fld Reg.actReach 9 0 c)
  let hi := reachU (s.fld Reg.actReach 9 0 c + s.fld Reg.actReach 25 16 c)
  let grant := s.tuToAbs c (s.absToTu c (k * s.frameUnits c) + teqdU - (lo + us 34))
  let g := s.absToTu c grant
  (grant, g + lo + us 34 - teqdU, g + hi + us 84 + s.bsnDur c - teqdU)

/-- A window is due in frame k (R105): EN, the channel's place in the cycle, and the first round over. -/
def State.discDue (s : State) (c k : Nat) : Bool :=
  let period := s.fld Reg.actDisc 7 1 c
  s.flg Reg.actDisc 0 c && decide (period ≠ 0) && decide (k % period = c % 4 * period / 4) && (s.ch c).firstDone

/-- A move has attached at the channel and its arrival is awaited (R187). -/
def State.arrivalsDue (s : State) (c : Nat) : List Move :=
  sortBy (fun m => m.g) (s.drl.moves.filter (fun m => m.tgt == c && m.i'.isSome && !m.arrived))

/-- The discovery window of frame k is reserved, and its serial-number grant committed. -/
def State.reserveDisc (s : State) (c k : Nat) : State :=
  if !s.discDue c k then s
  else if !(s.arrivalsDue c).isEmpty then s.bump .xWinWaits c
  else
    let w := s.discSpan c k
    let fu := s.frameUnits c
    let s1 := s.addReserve c { kind := .serialNumber, term := none, from_ := k * fu, to_ := s.tuToAbs c w.2.2 }
    let s2 := s1.addCommit c
      { frame := w.1 / fu, burst := pointGrant .serialNumber none (Config.serialAllocId (s.mode c)) (w.1 % fu) }
    s2.updCh c (fun p => { p with disc := p.disc ++ [{ opens := w.2.1, closes := w.2.2, grant := s.absToTu c w.1 }] })

/-! ## Arrival and recovery slots (R125, R188) -/

/-- A slot with a burst of its own: `tol` units each side of a profile-0 burst. -/
def State.reserveSlot (s : State) (c k at_ : Nat) (kind : BurstKind) (i content : Nat) (ploamu : Bool) (x : AStruct) : State :=
  let fu := s.frameUnits c
  let tol := s.unitsUp c (s.tolDur c)
  let len := s.burstUnits c 0 content
  let s1 := s.addReserve c { kind := kind, term := some i, from_ := k * fu + at_, to_ := k * fu + at_ + 2 * tol + len }
  let b : GBurst :=
  { kind := kind, term := some i, first := at_ + tol, start := at_ + tol + s.oPre c 0, stop := at_ + tol + len, profile := 0,
    ploamu := ploamu, structs := [x] }
  s1.addCommit c { frame := k, burst := b }

/-- Grant units of an arrival slot: an XGEM header and one message (R188). -/
def State.arrivalSize (s : State) (c : Nat) : Nat := cdiv 56 (s.grantUnit c)

/-- The arrival slots of frame k, in order of attach, after what was reserved before the attach. -/
def State.reserveArrivals (k c : Nat) : List Move → Nat → State → State
  | [], _, s => s
  | m :: ms, a, s =>
    let size := s.arrivalSize c
    let content := 8 + size * s.grantUnit c
    let width := 2 * s.unitsUp c (s.tolDur c) + s.burstUnits c 0 content
    match m.i', firstFit width a (s.freeIn c k) with
    | some i, some x =>
      let id := (s.term m.src m.i).onuId
      State.reserveArrivals k c ms (x + width)
        (s.reserveSlot c k x .arrival i content false { ctx := none, allocId := id, dbru := false, size := size })
    | _, _ => State.reserveArrivals k c ms a (s.bump .xSlotMoved c)

/-- The default allocation of a terminal: its context, where one has its ONU-ID as Alloc-ID (R154). -/
def State.defaultAlloc (s : State) (c i : Nat) : Option Nat :=
  ((s.slasOf c).find? (fun e => e.2.term == i && e.2.allocId == (s.term c i).onuId)).map (·.1)

/-- A report-only allocation of a terminal's default allocation (R147, R154). DESIGN CHOICE (log entry 74): it asks for a DBRu also
where the record of the default context has DBRU 0, since R147 builds no other; the report then counts as that context's demand. -/
def State.reportOnly (s : State) (c i : Nat) : AStruct := { ctx := s.defaultAlloc c i, allocId := (s.term c i).onuId, dbru := true }

/-- A PLOAMu is wanted in the terminal's next burst (R158): of a terminal that is granted (R172, R174), or in activation. -/
def Term.ploamuDue (t : Term) : Bool :=
  (t.state == .operation && !t.detached && (t.wantPloamu || t.pending.isSome)) || (match t.step with | .told _ => t.state == .ranging | _ => false)

/-- A terminal in LOSi whose recovery slot is due in frame k. -/
def Term.recoveryDue (t : Term) (k : Nat) : Bool :=
  t.state == .operation && t.losi && !t.detached && (match t.recFrame with | some f => decide (f + 8 ≤ k) | none => true)

/-- The recovery ranging slots of frame k. -/
def State.reserveRecovery (k c : Nat) : List (Nat × Term) → State → State
  | [], s => s
  | (i, t) :: ts, s =>
    if !t.recoveryDue k then State.reserveRecovery k c ts s
    else
      let content := 12 + 48 * b2n t.ploamuDue
      let width := 2 * s.unitsUp c (s.tolDur c) + s.burstUnits c 0 content
      match firstFit width 0 (s.freeIn c k) with
      | some x =>
        let s1 := s.reserveSlot c k x .recovery i content t.ploamuDue (s.reportOnly c i)
        State.reserveRecovery k c ts (s1.updTerm c i (fun t => { t with recFrame := some k, wantPloamu := false }))
      | none => State.reserveRecovery k c ts (s.bump .xSlotMoved c)

/-! ## Ranging windows and directed slots (R115, R129) -/

/-! What starts in the next frame is known at a snapshot, since t0 lies 125 µs before it (R118, R137). -/

/-- Contexts of a channel whose Assign_ONU-ID may be sent in a frame that starts at `at_` (R118 step 2), in the order of their
admission: those beyond a cap keep their places (R132, R137). -/
def State.assignWaits (s : State) (c at_ : Nat) : List (Nat × Term) :=
  sortBy (fun e => e.2.turn) ((s.termsOf c).filter (fun e => e.2.step == .admitted && e.2.state == .assigned && decide (e.2.t0 + us 125 ≤ at_)))

/-- A queued message still has its purpose. -/
def State.ploamStands (s : State) (c : Nat) (m : PloamMsg) : Bool :=
  match m.body, m.ctx with
  | .rangingTime e, some i =>
    let t := s.term c i
    t.sn == m.sn && (t.state == .ranging && t.eqd == e || t.state == .operation && (t.pending.map (·.eqd) == some e))
  | .requestRegistration, some i => (s.term c i).state == .operation
  | _, _ => true

/-- Places that remain for Assign_ONU-ID messages of a channel in this frame. -/
def State.assignRoom (s : State) (c : Nat) : Nat :=
  let hw := (s.ch c).ploamHw.countP (fun m => s.ploamStands c m && decide (m.body.rank < 3))
  8 - min 2 (s.ch c).ploamHost.length - hw

/-- Deals activations of a tree to its channels, one at a time, from the pointer on (R137): channels by wavelength with what
they ask; answers what each gets, and the first served. -/
def dealOut : Nat → Nat → Nat → List Nat → List Nat → Option Nat → List Nat × Option Nat
  | 0, _, _, _, got, first => (got, first)
  | n + 1, cap, at_, ask, got, first =>
    if cap = 0 then (got, first)
    else if (got.drop at_).headD 0 < (ask.drop at_).headD 0 then
      dealOut n (cap - 1) ((at_ + 1) % 4) ask (got.set at_ ((got.drop at_).headD 0 + 1)) (first.orElse (fun _ => some at_))
    else dealOut n cap ((at_ + 1) % 4) ask got first

/-- A channel frames in the PHY frame that starts now (R45). -/
def State.frames (s : State) (c : Nat) : Bool :=
  (s.ch c).unit == .running && s.flg Reg.pchCtrl 0 c && (s.ch c).resetting.isNone && !(s.ch c).stopping

/-- The activations that each channel of a tree may start in a frame that starts at `at_`; the pointer moves behind the first served. -/
def State.dealTree (s : State) (tree at_ : Nat) : State × List Nat :=
  let ask := (List.range 4).map (fun w =>
    let c := 4 * tree + w
    if s.frames c then min (s.assignWaits c at_).length (s.assignRoom c) else 0)
  let r := dealOut 128 (s.fld Reg.actGcfg 7 0) (s.treeRot.get (fun _ => 0) tree) ask [0, 0, 0, 0] none
  match r.2 with
  | some w => ({ s with treeRot := s.treeRot.set (fun _ => 0) tree ((w + 1) % 4) }, r.1)
  | none => (s, r.1)

/-- The terminals of a channel whose Assign_ONU-ID goes in the next PHY frame. -/
def State.startsNext (s : State) (c : Nat) : List Nat :=
  let at_ := (s.frameNo + 1) * frameU
  let quota := ((s.dealTree (c / 4) at_).2.drop (c % 4)).headD 0
  ((s.assignWaits c at_).take quota).map (·.1)

/-- A terminal of a channel that waits for a ranging grant, with the frame of its Assign_ONU-ID (R115; assumption 48). -/
def State.rangingWaits (s : State) (c : Nat) (next : List Nat) (t : Nat × Term) : Option Nat :=
  if (s.gntCh c).commits.any (fun x => x.burst.term == some t.1) then none
  else
    match t.2.step with
    | .assigned f => if t.2.state == .assigned || t.2.state == .ranging then some f else none
    | .admitted => if next.contains t.1 then some (s.frameNo + 1) else none
    | _ => none

/-- A ranging window from unit a of frame k, where it is free: the grant, the opening and the close. -/
def State.rangingAt (s : State) (c k f a : Nat) (base : Int) : Option (Nat × Nat × Nat × Nat) :=
  let fu := s.frameUnits c
  let lead : Int := (teqdU : Int) - (base - us 1)
  let grant := s.tuToAbs c ((s.absToTu c (k * fu + a) : Int) + lead).toNat
  let opens := ((s.absToTu c grant : Int) - lead).toNat
  let closes := opens + us 50 + s.bsnDur c
  let end_ := s.tuToAbs c closes - k * fu
  if decide (f + 2 ≤ grant / fu) && decide (k ≤ grant / fu) && (s.freeIn c k).any (fun x => decide (x.1 ≤ a) && decide (end_ ≤ x.2)) then
    some (grant, opens, closes, k * fu + end_)
  else none

/-- A window of R115 from unit a of frame k has room there, whatever its grant (R167). -/
def State.rangingRoom (s : State) (c k a : Nat) : Bool :=
  let need := s.unitsUp c (us 50 + s.bsnDur c) + 1
  (s.freeIn c k).any (fun x => decide (x.1 ≤ a) && decide (a + need ≤ x.2))

/-- A directed slot in frame k, as early as it fits (05 Table 7). -/
def State.directedAt (s : State) (c k f base : Nat) : Option (Nat × Nat × Nat × Nat) :=
  let fu := s.frameUnits c
  let tol := s.tolDur c
  let width := s.unitsUp c (2 * tol + s.bsnDur c) + 1
  match firstFit width 0 (s.freeIn c k) with
  | some a =>
    let grant := s.tuToAbs c (s.absToTu c (k * fu + a) + tol + teqdU - base)
    let p := s.absToTu c grant + base - teqdU
    let slack := s.slackDur c
    if f + 2 ≤ grant / fu ∧ k ≤ grant / fu then some (grant, p - slack, p + s.bsnDur c + slack, k * fu + a + width) else none
  | none => none

/-- Reserves a ranging window or directed slot, and commits its grant. -/
def State.commitRanging (s : State) (c i : Nat) (kind : BurstKind) (a : Nat) (w : Nat × Nat × Nat × Nat) : State :=
  let fu := s.frameUnits c
  let s1 := s.addReserve c { kind := kind, term := some i, from_ := a, to_ := w.2.2.2 }
  s1.addCommit c
    { frame := w.1 / fu, burst := pointGrant kind (some i) (s.term c i).onuId (w.1 % fu), opens := w.2.1, closes := w.2.2.1,
      grant := s.absToTu c w.1 }

/-- Ranging windows that open in frame k. -/
def State.rangingIn (s : State) (c k : Nat) : Nat :=
  let fu := s.frameUnits c
  (s.gntCh c).reserves.countP (fun r => r.kind == .ranging && decide (k * fu ≤ r.from_) && decide (r.from_ < (k + 1) * fu))

/-- The ranging windows and directed slots that open in frame k; what finds no room moves on. -/
def State.reserveRanging (k c : Nat) (next : List Nat) : List (Nat × Term) → State → State
  | [], s => s
  | (i, t) :: ts, s =>
    match s.rangingWaits c next (i, t) with
    | none => State.reserveRanging k c next ts s
    | some f =>
      let fu := s.frameUnits c
      let s1 :=
        if t.remembered then
          match s.directedAt c k f t.rtdBase.toNat, firstFit (s.unitsUp c (2 * s.tolDur c + s.bsnDur c) + 1) 0 (s.freeIn c k) with
          | some w, _ => s.commitRanging c i .directed (w.2.2.2 - (s.unitsUp c (2 * s.tolDur c + s.bsnDur c) + 1)) w
          | none, none => s.bump .xSlotMoved c
          | none, some _ => s
        else if s.rangingIn c k ≥ 2 then s.bump .xSlotMoved c
        else
          match s.rangingAt c k f 0 t.rtdBase, s.rangingAt c k f (fu / 2) t.rtdBase with
          | some w, _ => s.commitRanging c i .ranging (k * fu) w
          | none, some w => s.commitRanging c i .ranging (k * fu + fu / 2) w
          | none, none => if s.rangingRoom c k 0 || s.rangingRoom c k (fu / 2) then s else s.bump .xSlotMoved c
      State.reserveRanging k c next ts s1

/-! ## All of a snapshot -/

/-- A commitment still stands: its terminal is in the state that it serves (R114, R172). -/
def State.commitStands (s : State) (c : Nat) (x : Commit) : Bool :=
  match x.burst.term with
  | none => true
  | some i =>
    let t := s.term c i
    let id := (x.burst.structs.map (·.allocId)).headD 0
    match x.burst.kind with
    | .ranging | .directed => (t.state == .assigned || t.state == .ranging) && t.onuId == id
    | .recovery => t.state == .operation && t.losi && !t.detached
    | .arrival => (s.arrivalsDue c).any (fun m => m.i' == some i)
    | _ => true

/-- Everything reserved and committed at the snapshot of map k (R167): old reservations go, then arrival slots, the discovery
window, recovery slots, and the ranging windows and directed slots. -/
def State.reserveAll (s : State) (c k : Nat) : State :=
  let fu := s.frameUnits c
  let s0 := s.updGnt c (fun g =>
    { g with reserves := g.reserves.filter (fun r => decide (k * fu < r.to_ + 8 * fu)),
             commits := g.commits.filter (fun x => decide (k ≤ x.frame) && s.commitStands c x) })
  let s1 := State.reserveArrivals k c (s0.arrivalsDue c) 0 s0
  let s2 := s1.reserveDisc c k
  let s3 := State.reserveRecovery k c (s2.termsOf c) s2
  State.reserveRanging k c (s3.startsNext c) (s3.termsOf c) s3

/-- The committed bursts of map k that still stand (R98, R114, R127). -/
def State.committed (s : State) (c k : Nat) : List Commit :=
  (s.gntCh c).commits.filter (fun x => x.frame == k && s.commitStands c x)

/-- Grants committed for an Assign_ONU-ID that its frame did not carry are cancelled (R118 step 3). -/
def State.dropUnsent (s : State) (c : Nat) : State :=
  let unsent (x : Commit) : Bool :=
    (x.burst.kind == .ranging || x.burst.kind == .directed) && (x.burst.term.map (fun i => (s.term c i).step == .admitted)).getD false
  s.updGnt c (fun g => { g with commits := g.commits.filter (fun x => !unsent x) })

/-- The committed structures of map k are placed: a ranging grant makes its terminal RANGING (R98, R118 step 3). -/
def State.placeCommitted (s : State) (c : Nat) : List Commit → State
  | [] => s
  | x :: xs =>
    let s1 := match x.burst.kind, x.burst.term with
      | .ranging, some i | .directed, some i =>
        s.updTerm c i (fun t => { t with state := .ranging, step := .window x.opens x.closes x.grant })
      | _, _ => s
    s1.placeCommitted c xs

end Sys2Proof.Machine
end

