-- ==== Sys2Proof/Machine/Grant.lean ====
section
/-! DEFINITION. Machine/Grant.lean: the grant engine (05): the passes over one map, placement of bursts, the map checker, the
fallback map, cooperative announcements, and the commands ALLOC_SET, ALLOC_CLEAR, TERM_PROFILE and COOP_ANNOUNCE. -/

namespace Sys2Proof.Machine

/-! ## Structures under construction -/

/-- The classes of granted bytes, in the order of the passes (R159). -/
inductive Cls where
  | fixed | coop | assured | poll | nonAss | best
  deriving DecidableEq, Repr

def AStruct.of (x : AStruct) : Cls → Nat
  | .fixed => x.fixed | .coop => x.coop | .assured => x.assured | .poll => x.poll | .nonAss => x.nonAss | .best => x.best
def AStruct.put (x : AStruct) (n : Nat) : Cls → AStruct
  | .fixed => { x with fixed := n } | .coop => { x with coop := n } | .assured => { x with assured := n }
  | .poll => { x with poll := n } | .nonAss => { x with nonAss := n } | .best => { x with best := n }

/-- Bytes that the passes gave; bytes that count towards RM. -/
def AStruct.bytes (x : AStruct) : Nat := x.fixed + x.coop + x.assured + x.poll + x.nonAss + x.best
def AStruct.credit (x : AStruct) : Nat := x.assured + x.nonAss + x.best

/-- The last pass that gave bytes: the rounding is charged to its class. -/
def AStruct.lastCls (x : AStruct) : Option Cls :=
  [Cls.best, .nonAss, .poll, .assured, .coop, .fixed].find? (fun c => x.of c != 0)

/-- GrantSize before the clamp, in units: the bytes and a requested DBRu, rounded up once (R144); 0 for a report-only
allocation (R147). -/
def AStruct.units (x : AStruct) (gu : Nat) : Nat := if x.bytes = 0 then 0 else cdiv (x.bytes + 4 * b2n x.dbru) gu

/-- Content bytes of a structure in its burst (R164). -/
def AStruct.content (x : AStruct) (gu : Nat) : Nat := if x.bytes = 0 then 4 else x.units gu * gu

/-- A burst under construction. -/
structure TB where
  term : Nat
  profile : Nat
  ploamu : Bool
  widen : Nat
  structs : List AStruct := []
  /-- START of its first pinned cooperative entry, and that entry's place in the order of entries (R171). -/
  pin : Option Nat := none
  pinAt : Nat := 0
  deriving DecidableEq, Repr

/-- A map under construction: free units left, structures so far. -/
structure Build where
  s : State
  c : Nat
  k : Nat
  /-- First terminal of the rotation order (R165). -/
  first : Nat := 0
  tbs : List TB := []
  room : Nat := 0
  count : Nat := 0

def Build.gu (b : Build) : Nat := b.s.grantUnit b.c

/-- Time units of a burst with its widening (R163, R164, R166). -/
def Build.cost (b : Build) (t : TB) : Nat :=
  2 * t.widen + b.s.burstUnits b.c t.profile (8 + 48 * b2n t.ploamu + ((t.structs.map (fun x => x.content b.gu)).foldl (· + ·) 0))

def Build.tb (b : Build) (i : Nat) : Option TB := b.tbs.find? (fun t => t.term == i)

/-- Idle units on each side of a burst of a terminal in DOWi (R166). -/
def State.widen (s : State) (c i : Nat) : Nat :=
  if (s.term c i).dowi then cdiv (s.fld Reg.pchDow 15 0 c * tickU) (1024 * s.unitU c) else 0

/-- An empty burst of a terminal. -/
def Build.fresh (b : Build) (i : Nat) : TB :=
  { term := i, profile := b.s.profileOf b.c i, ploamu := (b.s.term b.c i).ploamuDue, widen := b.s.widen b.c i }

/-- What the burst of a terminal costs now. -/
def Build.costNow (b : Build) (i : Nat) : Nat :=
  match b.tb i with
  | some t => b.cost t
  | none => 0

/-- The build with a terminal's burst replaced, its growth taken from the room. -/
def Build.setTb (b : Build) (t : TB) : Build :=
  let room := b.room + b.costNow t.term - b.cost t
  { b with room := room, tbs := if (b.tb t.term).isSome then b.tbs.map (fun (x : TB) => if x.term = t.term then t else x) else b.tbs ++ [t] }

/-- The burst with a structure changed or added. -/
def TB.withStruct (t : TB) (x : AStruct) : TB :=
  { t with structs := if t.structs.any (fun y => y.ctx == x.ctx) then t.structs.map (fun (y : AStruct) => if y.ctx = x.ctx then x else y)
                      else t.structs ++ [x] }

/-- The structure of context j in the map under construction. -/
def Build.struct (b : Build) (j : Nat) (sla : Sla) : Option AStruct :=
  (b.tb sla.term).bind (fun t => t.structs.find? (fun x => x.ctx == some j))

/-- The most of `n` that a falling test admits, by bits. -/
def mostBy (ok : Nat → Bool) (n : Nat) : Nat → Nat → Nat
  | 0, m => m
  | bits + 1, m => let m' := m + 2 ^ bits; mostBy ok n bits (if m' ≤ n && ok m' then m' else m)

def Build.bump (b : Build) (x : Ctr) (n : Nat := 1) : Build := { b with s := b.s.bump x b.c n }

/-- A terminal without a burst whose overhead does not fit: the shortfall is counted (R160). -/
def Build.short (b : Build) (i : Nat) : Build :=
  if (b.tb i).isNone && decide (b.room < b.cost (b.fresh i)) then b.bump .chPlacementShortfalls else b

/-- A context that needs a new structure where the map has its 512 (R162). -/
def Build.noStruct (b : Build) (j : Nat) (sla : Sla) : Bool := (b.struct j sla).isNone && decide (512 ≤ b.count)

/-- Gives a context up to n bytes in a class, as far as room and the 512 structures allow (R159, R162); `whole`: all or
nothing. Answers the bytes given. -/
def Build.give (b : Build) (j : Nat) (sla : Sla) (n : Nat) (cls : Cls) (whole : Bool := false) : Build × Nat :=
  let t := (b.tb sla.term).getD (b.fresh sla.term)
  let old := b.struct j sla
  let x := old.getD { ctx := some j, allocId := sla.allocId, dbru := sla.dbru }
  if n = 0 then (b, 0)
  else if b.noStruct j sla then (b.bump .xStructSkip, 0)
  else
    let grown (m : Nat) : TB := t.withStruct ({ x with dbru := sla.dbru, polled := x.polled || cls == Cls.poll }.put (x.of cls + m) cls)
    let fits (m : Nat) : Bool := decide (b.cost (grown m) ≤ b.room + b.costNow sla.term)
    let m := if fits n then n else if whole then 0 else mostBy fits n 24 0
    if m = 0 then (b.short sla.term, 0)
    else ({ b.setTb (grown m) with count := b.count + b2n old.isNone }, m)

/-- Gives a terminal a report-only allocation (R147), where room and structures allow. -/
def Build.report (b : Build) (i : Nat) (x : AStruct) : Build × Bool :=
  let t := ((b.tb i).getD (b.fresh i)).withStruct x
  if b.count ≥ 512 then (b.bump .xStructSkip, false)
  else if b.cost t ≤ b.room + b.costNow i then ({ b.setTb t with count := b.count + 1 }, true)
  else if (b.tb i).isNone then (b.bump .chPlacementShortfalls, false)
  else (b, false)

/-! ## The weighted share (R159, R160) -/

/-- A context in a share: its weight, and what it still wants in this pass. -/
structure Sharer where
  j : Nat
  sla : Sla
  weight : Nat
  want : Nat
  deriving DecidableEq, Repr

/-- Reserves the burst overhead of every sharer's terminal that has no burst; sharers whose terminal is left out go. -/
def Build.overheads (b : Build) : List Sharer → Build × List Sharer
  | [] => (b, [])
  | x :: xs =>
    if (b.tb x.sla.term).isSome then
      let r := b.overheads xs
      (r.1, x :: r.2)
    else
      let t := b.fresh x.sla.term
      if b.cost t ≤ b.room then
        let r := (b.setTb t).overheads xs
        (r.1, x :: r.2)
      else (b.bump .chPlacementShortfalls).overheads xs

/-- One grant unit to each sharer in order, until room runs out. -/
def Build.oneEach (b : Build) (cls : Cls) : List Sharer → Build
  | [] => b
  | x :: xs => if b.room = 0 then b else (b.give x.j x.sla (min b.gu x.want) cls).1.oneEach cls xs

/-- One round: each sharer is given its quota of the room at the round's start, or what it still wants. Answers who goes on; a
context that the 512 structures shut out is counted once, and gets nothing in this pass (R162). -/
def Build.round (b : Build) (cls : Cls) (room total : Nat) : List Sharer → Build × List Sharer
  | [] => (b, [])
  | x :: xs =>
    if b.noStruct x.j x.sla then (b.bump .xStructSkip).round cls room total xs
    else
    let g := b.give x.j x.sla (min (room * x.weight / total * b.gu) x.want) cls
    let r := g.1.round cls room total xs
    (r.1, if g.2 < x.want then { x with want := x.want - g.2 } :: r.2 else r.2)

/-- The rounds of a share: they go on while some sharer still wants bytes and room is left (R159). -/
def Build.rounds (b : Build) (cls : Cls) : Nat → List Sharer → Build
  | 0, _ => b
  | n + 1, xs =>
    let total := (xs.map (·.weight)).foldl (· + ·) 0
    if xs.isEmpty ∨ b.room = 0 ∨ total = 0 then b
    else if xs.all (fun x => decide (b.room * x.weight / total = 0)) then b.oneEach cls xs
    else
      let r := b.round cls b.room total xs
      if r.2 = xs then r.1 else r.1.rounds cls n r.2

/-- Bursts that got no structure go, and their overhead returns to the room. -/
def Build.clean (b : Build) : Build :=
  { b with tbs := b.tbs.filter (fun t => !t.structs.isEmpty),
           room := (b.tbs.filter (fun t => t.structs.isEmpty)).foldl (fun n t => n + b.cost t) b.room }

/-- The share of a pass. -/
def Build.share (b : Build) (cls : Cls) (xs : List Sharer) : Build :=
  let r := b.overheads xs
  (r.1.rounds cls (32 * r.2.length + 64) r.2).clean

/-! ## The passes (R159 to R162) -/

/-- The position of a terminal in rotation order (R165). -/
def Build.rank (b : Build) (i : Nat) : Nat := (i + 256 - b.first) % 256

/-- A terminal is granted: in OPERATION and not detached (R172, R174). -/
def Term.granted (t : Term) : Bool := t.state == .operation && !t.detached

/-- The contexts that the passes serve, in rotation order: valid, of a granted terminal not in LOSi, without a committed
slot in this frame (R163, R172, R173). -/
def Build.served (b : Build) : List (Nat × Sla) :=
  sortBy (fun e => b.rank e.2.term) ((b.s.slasOf b.c).filter (fun e =>
    (b.s.term b.c e.2.term).granted && !(b.s.term b.c e.2.term).losi && !(b.s.committed b.c b.k).any (fun x => x.burst.term == some e.2.term)))

/-- Pass 1: fixed bytes with debt. -/
def Build.fixedPass : List (Nat × Sla) → Build → Build
  | [], b => b
  | (j, sla) :: r, b =>
    if sla.rf = 0 then Build.fixedPass r b
    else
      let d := b.s.alloc b.c j
      let want := sla.rf + d.debt
      let g := b.give j sla want .fixed
      Build.fixedPass r { g.1 with s := g.1.s.setAlloc b.c j { d with debt := want - g.2 } }

/-- A cooperative entry that is due in map k (R169, R170). -/
def CoopEntry.due (e : CoopEntry) (k : Nat) : Bool := !e.target || e.frame == k % 2 ^ 32

/-- COOP_TRIM: context, bytes not granted, TAG (R170). -/
def State.coopTrim (s : State) (c : Nat) (e : CoopEntry) (n : Nat) : State :=
  (s.bump .chCooperativeBytesTrimmed c n).event 0x23 c (toLe 2 e.ctx ++ toLe 4 n ++ toLe 2 e.tag)

/-- An accepted entry is dropped. -/
def State.coopDrop (s : State) (c : Nat) (e : CoopEntry) : State :=
  (s.bump .xCoopDrop c).event 0x23 c (toLe 2 e.ctx ++ toLe 4 e.bytes ++ toLe 2 e.tag)

/-- Pass 2: due cooperative entries in take-effect order; `left` is what the channel may still give. -/
def Build.coopPass (served : List (Nat × Sla)) : List CoopEntry → Nat → Build → Build
  | [], _, b => b
  | e :: es, left, b =>
    match served.find? (fun x => x.1 == e.ctx) with
    | none => Build.coopPass served es left { b with s := b.s.coopDrop b.c e }
    | some (j, sla) =>
      let had := ((b.struct j sla).map (·.coop)).getD 0
      let n := min (min e.bytes (sla.coopMax - had)) left
      let g := b.give j sla n .coop
      let b1 := if g.2 < e.bytes then { g.1 with s := g.1.s.coopTrim b.c e (e.bytes - g.2) } else g.1
      let b2 :=
        if e.pin && g.2 != 0 then
          let n := b1.tbs.countP (fun t => t.pin.isSome)
          { b1 with tbs := b1.tbs.map (fun (t : TB) =>
            if t.term = sla.term && t.pin.isNone then { t with pin := some e.start, pinAt := n } else t) }
        else b1
      Build.coopPass served es (left - g.2) b2

/-- The bytes that a context has in the map so far. -/
def Build.given (b : Build) (j : Nat) (sla : Sla) : AStruct := (b.struct j sla).getD { ctx := some j, allocId := sla.allocId, dbru := sla.dbru }

/-- Gives each sharer its whole want. -/
def Build.giveAll (cls : Cls) : List Sharer → Build → Build
  | [], b => b
  | x :: xs, b => Build.giveAll cls xs (b.give x.j x.sla x.want cls).1

/-- Pass 3: assured. Every want in full where all fit; otherwise shared by RA, and every cut counted. -/
def Build.assuredPass (served : List (Nat × Sla)) (b : Build) : Build :=
  let xs : List Sharer := (served.map (fun e =>
    { j := e.1, sla := e.2, weight := e.2.ra,
      want := min (min (b.s.alloc b.c e.1).demand (b.s.alloc b.c e.1).ca.toNat) e.2.rm })).filter (fun (x : Sharer) => x.want != 0)
  let full := Build.giveAll .assured xs b
  let cut (b : Build) (x : Sharer) : Bool := !b.noStruct x.j x.sla && decide ((b.given x.j x.sla).assured < x.want)
  if !xs.any (cut full) then full
  else
    let sh := b.share .assured xs
    sh.bump .chAssuredCuts (xs.countP (cut sh))

/-- Pass 4, first part: one report-only allocation to each terminal of a list. -/
def Build.reportAll : List Nat → Build → Build
  | [], b => b
  | i :: is, b =>
    let r := b.report i (b.s.reportOnly b.c i)
    Build.reportAll is r.1

/-- A context is due a poll in map k: for how many maps it has been (R157). DESIGN CHOICE (log entry 74): one that has had
no structure since it was written comes before all others; the spec gives it no time at which its poll fell due. -/
def AllocDyn.overdue (d : AllocDyn) (sla : Sla) (k : Nat) : Option Nat :=
  if sla.poll = 0 ∨ !(sla.dbru || sla.tm) then none
  else
    match d.lastMap with
    | none => some (k + 1)
    | some m => if m + sla.poll < k then some (k - (m + sla.poll)) else none

/-- Pass 4, second part: the polls, longest overdue first, up to POLL_MAX. -/
def Build.polls : List (Nat × Sla) → Nat → Build → Build
  | [], _, b => b
  | (j, sla) :: r, left, b =>
    if (b.struct j sla).isSome then Build.polls r left b
    else if left = 0 then Build.polls r left (b.bump .chPollWaits)
    else
      let g :=
        if sla.dbru then b.report sla.term { ctx := some j, allocId := sla.allocId, dbru := true, polled := true }
        else
          let x := b.give j sla 64 .poll true
          (x.1, x.2 != 0)
      if g.2 then Build.polls r (left - 1) g.1 else Build.polls r left (g.1.bump .chPollWaits)

/-- Passes 5 and 6: non-assured and best effort. -/
def Build.sharePass (cls : Cls) (served : List (Nat × Sla)) (b : Build) : Build :=
  let xs : List Sharer := served.map (fun e =>
    let x := b.given e.1 e.2
    let d := b.s.alloc b.c e.1
    let most := min (d.demand - x.bytes) (e.2.rm - x.credit)
    if cls = .nonAss then { j := e.1, sla := e.2, weight := e.2.rna, want := min most d.cn.toNat }
    else { j := e.1, sla := e.2, weight := e.2.weight, want := if e.2.weight = 0 then 0 else most })
  b.share cls (xs.filter (fun x => x.want != 0))

/-- The terminals of a channel that may hold a burst, in rotation order. -/
def Build.order (b : Build) : List (Nat × Term) :=
  sortBy (fun e => b.rank e.1) ((b.s.termsOf b.c).filter (fun e =>
    (e.2.granted || e.2.ploamuDue) && !(b.s.committed b.c b.k).any (fun x => x.burst.term == some e.1 && x.burst.first != x.burst.stop)))

/-- All passes of a map. -/
def Build.passes (b : Build) : Build :=
  let served := b.served
  let b1 := Build.fixedPass served b
  let due := (b1.s.gntCh b.c).coop.filter (fun e => e.due b.k)
  let cap := b.s.usFrameBytes b.c * b.s.fld Reg.gntCfg 15 8 b.c / 64
  let b2 := Build.coopPass served due cap { b1 with s := b1.s.updGnt b.c (fun g => { g with coop := g.coop.filter (fun e => !e.due b.k) }) }
  let b3 := Build.assuredPass served b2
  let order := b.order
  let b4 := Build.reportAll ((order.filter (fun e => e.2.granted && e.2.losi)).map (·.1)) b3
  let ploamu := (order.filter (fun e => e.2.ploamuDue && !(e.2.granted && e.2.losi))).map (·.1)
  let b5 := Build.reportAll (ploamu.filter (fun i => (b4.tb i).isNone)) b4
  let due := served.filterMap (fun e => ((b.s.alloc b.c e.1).overdue e.2 b.k).map (fun n => (n, e)))
  let b6 := Build.polls ((sortBy (fun (x : Nat × Nat × Sla) => 2 ^ 64 - x.1) due).map (·.2)) (b.s.fld Reg.gntCfg 23 16 b.c) b5
  Build.sharePass .best served (Build.sharePass .nonAss served b6)

/-! ## Placement (R163 to R166, R171) -/

/-- Takes bytes of a class from one structure, a grant unit at a time, until the burst costs no more than `limit`. -/
def Build.trimStruct (b : Build) (limit : Nat) (cls : Cls) (t : TB) (x : AStruct) : TB :=
  let have_ := x.of cls
  let less (n : Nat) : TB :=
    let y := x.put (have_ - n * b.gu) cls
    if y.bytes = 0 ∧ !x.dbru then { t with structs := t.structs.filter (fun z => z.ctx != x.ctx) } else t.withStruct y
  let units := cdiv have_ b.gu
  let tooFew (n : Nat) : Bool := decide (limit < b.cost (less (n - 1)))
  if have_ = 0 ∨ b.cost t ≤ limit then t else less (mostBy tooFew units 24 0)

/-- Takes bytes of a class from a burst, its context of highest index first. -/
def Build.trimCls (b : Build) (limit : Nat) (t : TB) (cls : Cls) : TB :=
  (sortBy (fun x => 2048 - (x.ctx.getD 0)) t.structs).foldl (fun t x =>
    match t.structs.find? (fun y => y.ctx == x.ctx) with
    | some y => b.trimStruct limit cls t y
    | none => t) t

/-- A burst that fits no free interval gives up best-effort, non-assured, assured and fixed bytes in turn (R165), then the
bytes of its cooperative entries and polls (log entry 39). -/
def Build.trim (b : Build) (limit : Nat) (t : TB) : TB :=
  let t1 := [Cls.best, .nonAss, .assured, .fixed, .coop, .poll].foldl (b.trimCls limit) t
  if t1.structs.isEmpty && t1.ploamu then t1.withStruct (b.s.reportOnly b.c t1.term) else t1

/-- Fixed bytes of a burst that it lost become debt. -/
def Build.debtFor (b : Build) (old new : TB) : Build :=
  { b with s := old.structs.foldl (fun (s : State) (x : AStruct) =>
      match x.ctx with
      | some j =>
        let now := ((new.structs.find? (fun y => y.ctx == some j)).map (·.fixed)).getD 0
        let d := s.alloc b.c j
        s.setAlloc b.c j { d with debt := d.debt + (x.fixed - now) }
      | none => s) b.s }

/-- The burst at a first unit of its interval. -/
def Build.burstAt (b : Build) (t : TB) (x : Nat) : GBurst :=
  let cmp (a : AStruct) : Nat := match a.ctx with | some j => j + 1 | none => 0
  { kind := .normal, term := some t.term, first := x, start := x + t.widen + b.s.oPre b.c t.profile, stop := x + b.cost t,
    profile := t.profile, ploamu := t.ploamu,
    structs := (sortBy cmp t.structs).map (fun (a : AStruct) => { a with size := min 65535 (a.units b.gu) }) }

/-- The place that a pinned burst asks for, where its whole interval is free (R171). -/
def Build.pinPlace (b : Build) (free : List (Nat × Nat)) (t : TB) : Option Nat :=
  t.pin.bind (fun st =>
    let x := st - (t.widen + b.s.oPre b.c t.profile)
    if decide (t.widen + b.s.oPre b.c t.profile ≤ st) && free.any (fun f => decide (f.1 ≤ x) && decide (x + b.cost t ≤ f.2)) then some x
    else none)

/-- Where a burst goes: pinned where its interval is free, else as early as it fits. -/
def Build.place (b : Build) (free : List (Nat × Nat)) (t : TB) : Option Nat :=
  (b.pinPlace free t).orElse (fun _ => firstFit (b.cost t) 0 free)

/-- Polls of a burst that what is placed of it no longer carries. -/
def TB.pollsLost (t t1 : TB) : Nat :=
  t.structs.countP (fun x => x.polled && !t1.structs.any (fun y => y.ctx == x.ctx && (y.dbru || y.poll == x.poll)))

/-- The bursts placed, in order; what does not fit is trimmed, or left out. -/
def Build.placeAll : List TB → List (Nat × Nat) → List GBurst → Build → Build × List GBurst
  | [], _, done, b => (b, done)
  | t :: ts, free, done, b =>
    let limit := free.foldl (fun m f => max m (f.2 - f.1)) 0
    let b0 := if t.pin.isSome && (b.pinPlace free t).isNone then b.bump .xPinMiss else b
    let fits := (b0.place free t).isSome
    let t1 := if fits then t else b0.trim limit t
    let b1 := if fits then b0 else b0.bump .chPlacementShortfalls
    match (if t1.structs.isEmpty then none else b1.place free t1) with
    | some x =>
      Build.placeAll ts (cutOut x (x + b1.cost t1) free) (done ++ [b1.burstAt t1 x]) ((b1.bump .chPollWaits (t.pollsLost t1)).debtFor t t1)
    | none =>
      let none_ : TB := { t with structs := [] }
      Build.placeAll ts free done ((b1.bump .chPollWaits (t.pollsLost none_)).debtFor t none_)

/-! ## Charging (R155, R157, R159) -/

/-- One structure of a built map is charged to its context and counted for its terminal. -/
def State.charge (s : State) (c k i : Nat) (x : AStruct) : State :=
  match x.ctx with
  | none => s
  | some j =>
    let gu := s.grantUnit c
    let d := s.alloc c j
    let round := if x.bytes = 0 then 0 else x.size * gu - (x.bytes + 4 * b2n x.dbru)
    let toCls (cls : Cls) : Nat := x.of cls + (if x.lastCls = some cls then round else 0)
    let d1 := { d with ca := d.ca - toCls .assured, cn := d.cn - toCls .nonAss, demand := d.demand - (x.bytes + round), lastMap := some k }
    let n := ctxNo c i
    let s1 := s.setAlloc c j d1
    let s2 := if x.units gu > 65535 then s1.bump .chGrantSizeClamps c else s1
    ((((s2.bump .termFixedBytesGranted n x.fixed).bump .termAssuredBytesGranted n x.assured).bump .termNonAssuredBytesGranted n
      x.nonAss).bump .termBestEffortBytesGranted n x.best)

/-- One burst of a built map: its structures are charged, its PLOAMu is no longer wanted, its bytes count as load. DESIGN CHOICE
(log entry 74): Ind bit 8 of a burst asks for one PLOAMu, not for one in every map until a newer burst arrives (R158). -/
def State.chargeBurst (s : State) (c k : Nat) (b : GBurst) : State :=
  match b.term with
  | none => s
  | some i =>
    let bytes := (b.structs.map (fun x => x.size * s.grantUnit c)).foldl (· + ·) 0
    let s1 := b.structs.foldl (fun s x => s.charge c k i x) s
    let s2 := s1.updCh c (fun p => { p with usLoad := p.usLoad + bytes })
    let s3 := { s2 with drl := { s2.drl with loads := s2.drl.loads.upd (fun _ => 0) (2 * ctxNo c i) (· + bytes) } }
    if b.ploamu && (b.kind == .normal) then
      s3.updTerm c i (fun t => { t with wantPloamu := false, step := match t.step with | .told _ => .ackDue k | x => x })
    else s3

/-! ## The map checker (R496) -/

/-- Structures in StartTime order, bursts apart, none over a reservation that is not its own, at most 512 structures. -/
def mapOk (own : List (Nat × Nat)) (bs : List GBurst) : Bool :=
  let body := bs.filter (fun b => b.first != b.stop)
  let rec rising : List GBurst → Bool
    | a :: b :: t => decide (a.start ≤ b.start) && rising (b :: t)
    | _ => true
  let rec apart : List GBurst → Bool
    | a :: b :: t => decide (a.stop ≤ b.first) && apart (b :: t)
    | _ => true
  rising bs && apart body && decide ((bs.map (fun b => b.structs.length)).foldl (· + ·) 0 ≤ 512)
    && body.all (fun b => b.kind != .normal || own.all (fun r => decide (b.stop ≤ r.1) || decide (r.2 ≤ b.first)))

/-- The reservations of frame k as intervals of it. -/
def State.reservedIn (s : State) (c k : Nat) : List (Nat × Nat) :=
  let fu := s.frameUnits c
  ((s.gntCh c).reserves.filter (fun r => decide (k * fu < r.to_) && decide (r.from_ < (k + 1) * fu))).map (fun r => r.within fu k)

/-! ## Building (R141, R159, R165, R176, R177) -/

/-- The first terminal of the next rotation order: the lowest index above the last first one, else the lowest. -/
def State.nextFirst (s : State) (c : Nat) : Nat :=
  let l := ((s.termsOf c).filter (fun e => e.2.granted || e.2.ploamuDue)).map (·.1)
  let rot := (s.gntCh c).rot
  match l.find? (fun i => decide (rot < i)) with
  | some i => i
  | none => l.headD rot

/-- Credits and debt at a snapshot (05 Allocation): of each valid context of a granted terminal not in LOSi. -/
def State.updateCredits (s : State) (c : Nat) : State :=
  (s.slasOf c).foldl (fun (s : State) (e : Nat × Sla) =>
    let t := s.term c e.2.term
    if t.granted && !t.losi then
      let d := s.alloc c e.1
      let cap (r : Nat) : Int := (r * (1 + e.2.acc) : Nat)
      s.setAlloc c e.1 { d with ca := min (d.ca + e.2.ra) (cap e.2.ra), cn := min (d.cn + e.2.rna) (cap e.2.rna) }
    else s) s

/-- A map joins those whose upstream frames have not ended. -/
def State.putMap (s : State) (c : Nat) (m : GMap) : State :=
  s.updGnt c (fun g => { g with maps := g.maps.filter (fun (x : GMap) => x.k != m.k && decide (m.k < x.k + 16)) ++ [m], late := none })

/-- One structure in a fallback map: fixed and assured bytes only, within the record; the report-only allocation of a terminal
in LOSi stays (R173, R176, R177). -/
def State.fallStruct (s : State) (c i : Nat) (x : AStruct) : Option AStruct :=
  let t := s.term c i
  let gu := s.grantUnit c
  if t.losi then (if t.granted ∧ x.bytes = 0 ∧ x.ctx = s.defaultAlloc c i then some x else none)
  else
    match x.ctx with
    | none => none
    | some j =>
      let sla := s.slaOf c j
      let y : AStruct :=
        { ctx := some j, allocId := x.allocId, dbru := x.dbru, fixed := min x.fixed sla.rf, assured := min x.assured (sla.ra * (1 + sla.acc)) }
      if t.granted && sla.valid && sla.term == i && sla.allocId == x.allocId && y.bytes != 0 then
        some { y with size := min 65535 (y.units gu) }
      else none

/-- One burst in a fallback map: its StartTime stays, no PLOAMu. -/
def State.fallBurst (s : State) (c k : Nat) (b : GBurst) : Option GBurst :=
  match b.kind, b.term with
  | .normal, some i =>
    let l := b.structs.filterMap (s.fallStruct c i)
    let content := 8 + (l.map (fun x => x.content (s.grantUnit c))).foldl (· + ·) 0
    let b1 := { b with structs := l, ploamu := false, stop := b.start + s.bodyUnits c b.profile content + s.widen c i, settled := false }
    if l.isEmpty || (s.reservedIn c k).any (fun r => decide (b1.first < r.2) && decide (r.1 < b1.stop)) then none else some b1
  | _, _ => none

/-- The fallback map k (R176, R177), with its report, its count and GNT_STAT. -/
def State.fallback (s : State) (c k : Nat) (cause : Cause) : State :=
  let com := s.committed c k
  let prev := (((s.gntCh c).maps.find? (fun m => m.k + 1 == k)).map (·.bursts)).getD []
  let old := (prev.filter (fun b => !com.any (fun x => x.burst.term == b.term))).filterMap (s.fallBurst c k)
  let bs := sortBy (fun (b : GBurst) => b.start) (com.map (·.burst) ++ old)
  let due := (s.gntCh c).coop.filter (fun e => e.due k)
  let s1 := (due.filter (fun e => !e.carry)).foldl (fun s e => s.coopDrop c e) s
  let next (e : CoopEntry) : Option CoopEntry := if !e.due k then some e else if e.carry then some { e with target := false } else none
  let s2 := s1.updGnt c (fun g => { g with last := 0xFFFF, coop := g.coop.filterMap next })
  let s3 := s2.placeCommitted c com
  let s4 := old.foldl (fun s b => s.chargeBurst c k b) s3
  (((s4.putMap c { k := k, fallback := true, bursts := bs }).bump .chFallbackMaps c).report
    { cls := 5, cause := cause, site := siteChannel c, obj := c }).raise (chanGroup c) 3

/-- Builds map k (R159): the passes, the placement, the checker; a map that fails the checker is replaced (R496). `inject`
says that the checker is made to fail. -/
def State.buildMap (s : State) (c k compute : Nat) (inject : Bool) : State :=
  let com := s.committed c k
  let free := s.freeIn c k
  let rot := s.nextFirst c
  let b : Build :=
    { s := s, c := c, k := k, first := rot, room := free.foldl (fun n f => n + (f.2 - f.1)) 0,
      count := (com.map (fun x => x.burst.structs.length)).foldl (· + ·) 0 }
  let p := b.passes
  let order := sortBy (fun (t : TB) => if t.pin.isSome then t.pinAt else 256 + p.rank t.term) p.tbs
  let r := Build.placeAll order free [] p
  let bs := sortBy (fun (x : GBurst) => x.start) (com.map (·.burst) ++ r.2)
  if inject || !mapOk (s.reservedIn c k) bs then s.fallback c k .mapCheck
  else
    let s1 := r.1.s.placeCommitted c com
    let s2 := r.2.foldl (fun s x => s.chargeBurst c k x) s1
    (s2.updGnt c (fun g => { g with rot := rot, last := min compute 0xFFFF, peak := max g.peak (min compute 0xFFFF) })).putMap c { k := k, bursts := bs }

/-- Entries whose target map has passed unbuilt are dropped. -/
def State.coopStale (s : State) (c k : Nat) : State :=
  let stale (e : CoopEntry) : Bool := e.target && decide (64 < idxDiff e.frame k)
  let s1 := ((s.gntCh c).coop.filter stale).foldl (fun s e => s.coopDrop c e) s
  s1.updGnt c (fun g => { g with coop := g.coop.filter (fun e => !stale e) })

/-! ## Commands (R149 to R153, R169) -/

/-- An SLA record from its 32 bytes (05 Table 4). -/
def slaOfBuf (b : List Byte) : Sla :=
  { valid := bufBit b 1 7, allocId := leAt b 0 2 % 16384, term := byteAt b 2, dbru := bufBit b 3 0, tm := bufBit b 3 1,
    coop := bufBit b 3 2, rf := leAt b 4 3, poll := byteAt b 7, ra := leAt b 8 3, acc := byteAt b 11, rna := leAt b 12 3,
    weight := byteAt b 15, rm := leAt b 16 3, coopMax := leAt b 20 3 }

/-- A record breaks a rule of 05 Table 4. -/
def Sla.bad (x : Sla) (mode frame : Nat) : Bool :=
  !x.valid || !Config.unicastAlloc mode x.allocId || (x.tm && x.dbru) || decide (x.rm < x.ra) || decide (frame < x.rf) || decide (frame < x.ra) || decide (frame < x.rna)
    || decide (frame < x.rm)

/-- The sums of RF, and of RF + RA, over the valid records of a channel. -/
def sumRf (l : List (Nat × Sla)) : Nat := l.foldl (fun n e => n + e.2.rf) 0
def sumRa (l : List (Nat × Sla)) : Nat := l.foldl (fun n e => n + e.2.ra) 0

/-- The sum checks of R150 on the records of a channel. -/
def State.sumStatus (s : State) (c : Nat) (l : List (Nat × Sla)) : Option Nat :=
  let guar := s.fld Reg.gntCap 23 0 c
  if guar < sumRf l then some Status.slaFixedOver
  else if !s.flg Reg.gntCfg 0 c ∧ guar < sumRf l + sumRa l then some Status.slaOversub else none

/-- An Alloc-ID that another context of the channel holds, or that is the ONU-ID of a terminal other than `term`. -/
def State.allocDup (s : State) (c j term id : Nat) : Bool :=
  (s.slasOf c).any (fun e => e.1 != j && e.2.allocId == id)
    || (s.termsOf c).any (fun t => t.2.state.active && t.2.onuId == id && t.1 != term)
    || (s.coming c).any (fun e => e.2 == id && e.1 != term)

/-- A command that takes effect at a snapshot instant of its channel: it waits for one with room (R149). DESIGN CHOICE (log entry
74): one that is rejected there has used one of the 64 places; the spec does not say. -/
def State.atSnapshot (s : State) (c : Nat) (k : State → Turn) : Turn :=
  if (s.gntCh c).room = 0 then (s, .wait) else k (s.updGnt c (fun g => { g with room := g.room - 1 }))

/-- ALLOC_SET (R150, R151). -/
def opAllocSet (x : Slot) (s : State) : Turn :=
  withLen x 36 s fun b =>
    let c := x.spec
    let j := leAt b 0 2
    let r := slaOfBuf (b.drop 4)
    checks [(decide (c > 191), Status.chRange), (decide (j > 1023), Status.slaBad)] s fun _ =>
      s.atSnapshot c fun s =>
        checks [(r.bad (s.mode c) (s.usFrameBytes c), Status.slaBad), (s.allocDup c j r.term r.allocId, Status.allocDup)] s fun _ =>
          match s.sumStatus c ((s.slasOf c).filter (fun e => e.1 != j) ++ [(j, r)]) with
          | some st => s.fails st
          | none =>
            let old := s.slaOf c j
            let d := s.alloc c j
            let s1 := s.ctxWrite (fun t => { t with sla := t.sla.set (fun _ => {}) (1024 * c + j) r })
            let cap (v : Nat) : Int := (v * (1 + r.acc) : Nat)
            let d1 : AllocDyn :=
              if old.valid ∧ old.allocId = r.allocId then { d with ca := min d.ca (cap r.ra), cn := min d.cn (cap r.rna) }
              else { ca := r.ra, cn := r.rna }
            (s1.setAlloc c j d1).ok

/-- ALLOC_CLEAR (R149, R152). -/
def opAllocClear (x : Slot) (s : State) : Turn :=
  withLen x 4 s fun b =>
    let c := x.spec
    let j := leAt b 0 2
    checks [(decide (c > 191), Status.chRange), (decide (j > 1023), Status.slaBad)] s fun _ =>
      s.atSnapshot c fun s =>
        ((s.ctxWrite (fun t => { t with sla := t.sla.set (fun _ => {}) (1024 * c + j) {} })).setAlloc c j {}).ok

/-- TERM_PROFILE (R149, R153). -/
def opTermProfile (x : Slot) (s : State) : Turn :=
  withLen x 4 s fun b =>
    let c := x.spec
    let i := byteAt b 0
    let p := byteAt b 1 % 4
    checks [(decide (c > 191), Status.chRange)] s fun _ =>
      s.atSnapshot c fun s =>
        checks [((s.term c i).state == .free, Status.ctxState), (!s.bpValid c p, Status.profileBad)] s fun _ =>
          (s.updTerm c i (fun t => { t with profile := some p })).ok

/-- A cooperative entry from its 16 bytes (05 Table 8). -/
def coopOfBuf (b : List Byte) : CoopEntry :=
  { ctx := leAt b 0 2 % 1024, target := bufBit b 2 0, carry := bufBit b 2 1, pin := bufBit b 2 2, bytes := leAt b 4 4,
    frame := leAt b 8 4, start := leAt b 12 2, tag := leAt b 14 2 }

/-- The next map whose snapshot follows the present (R169). -/
def State.nextMap (s : State) : Nat := (s.time.tick + 19440 - 15552) / 19440 + 1

/-- Accepts or rejects one entry (R169). -/
def State.coopEntry (s : State) (c : Nat) (e : CoopEntry) : State × Bool :=
  let sla := s.slaOf c e.ctx
  let no (x : Ctr) : State × Bool := (((s.bump x c).bump .chCooperativeEntriesRejected c), false)
  if !sla.valid || !sla.coop || sla.coopMax == 0 then no .xCoopNoCtx
  else if s.fld Reg.gntCfg 15 8 c = 0 then no .xCoopCap0
  else if e.target && decide (64 ≤ idxDiff e.frame (s.nextMap % 2 ^ 32)) then no .xCoopFar
  else if (s.gntCh c).coop.length ≥ 256 then no .xCoopFull
  else
    let s1 := if e.bytes = 0 then s.bump .xCoopZero c else s
    (s1.updGnt c (fun g => { g with coop := g.coop ++ [e] }), true)

/-- The entries of a buffer, in order: how many were accepted. -/
def State.coopEntries (c : Nat) : Nat → List Byte → State → State × Nat
  | 0, _, s => (s, 0)
  | n + 1, b, s =>
    let r := s.coopEntry c (coopOfBuf b)
    let q := State.coopEntries c n (b.drop 16) r.1
    (q.1, q.2 + b2n r.2)

/-- COOP_ANNOUNCE (R169). -/
def opCoopAnnounce (x : Slot) (s : State) : Turn :=
  withBuf x (fun l => decide (l % 16 = 0) && decide (l ≤ 1024)) s fun b =>
    checks [(decide (x.spec > 191), Status.chRange)] s fun _ =>
      let r := State.coopEntries x.spec (x.len / 16) b s
      if r.2 < x.len / 16 then (r.1, .done Status.coopPart r.2) else r.1.ok r.2

end Sys2Proof.Machine
end

