-- ==== Sys2Proof/Machine/Derailleur.lean ====
section
/-! DEFINITION. Machine/Derailleur.lean: tree balancing (06): tuning messages, attach and detach, the arrival point, completion,
aborts, and load suggestions. -/

namespace Sys2Proof.Machine

/-! ## Tuning messages (06 Tables 2 and 3) -/

/-- A tuning message of a move: type, and its bytes from 16 on. -/
def State.tuneBytes (s : State) (m : Move) (type : Nat) (tail : List Byte) : List Byte :=
  let t := s.term m.src m.i
  let head := toBe 2 m.txn ++ toBe 1 type ++ toBe 1 0xA7 ++ snBytes t.sn ++ toBe 1 (64 * (m.src % 4) + 16 * (m.tgt % 4))
    ++ toBe 1 (64 * s.mode m.tgt + 8 * s.usRate m.tgt) ++ toBe 2 t.onuId ++ (tail ++ List.replicate 28 0).take 28
  head ++ tuneCrcBytes head

/-- `DRL_CFG.TT_MAX` in µs: values above 40 act as 40. -/
def State.ttMax (s : State) : Nat := 10 * min 40 (s.fld Reg.drlCfg 13 8)

/-- A message is raised for the OMCC port of terminal i on channel c. -/
def State.tuneRaise (s : State) (c i : Nat) (bytes : List Byte) : State :=
  match s.omccOf c i with
  | none => s
  | some p =>
    let own := s.holder c i
    let m : TuneMsg := { ch := c, ctx := ctxNo own.1 own.2, portId := p.2.portId, enc := p.2.enc, bytes := bytes }
    { s with drl := { s.drl with tune := s.drl.tune ++ [m] } }

/-- A TUNE_OFFER is due in the next PHY frame of the source (R186). -/
def State.tuneOffer (s : State) (m : Move) : State := s.tuneRaise m.src m.i (s.tuneBytes m 1 (toBe 2 s.ttMax))

/-- A move with a change. -/
def State.setMove (s : State) (m : Move) : State :=
  { s with drl := { s.drl with moves := s.drl.moves.map (fun (x : Move) => if x.src = m.src ∧ x.i = m.i then m else x) } }
def State.dropMove (s : State) (m : Move) : State :=
  { s with drl := { s.drl with moves := s.drl.moves.filter (fun x => !(x.src == m.src && x.i == m.i)) } }

/-- A downstream tuning message has gone into a PHY frame: an offer starts its wait, TUNE_GO completes step 6. -/
def State.tuneSent (s : State) (x : TuneMsg) : State :=
  match s.moveFrom (x.ctx / 256) (x.ctx % 256) with
  | none => s
  | some m =>
    match byteAt x.bytes 2 with
    | 1 => s.setMove { m with step := max 2 m.step, offers := m.offers + 1, offerDue := false,
                              ackBy := s.time.now + s.fld Reg.drlCfg 23 16 * msU }
    | 3 => s.setMove { m with step := max 6 m.step }
    | _ => s

/-! ## Attach (R175, R178, R187) -/

/-- The allocation contexts of a terminal. -/
def State.allocsOf (s : State) (c i : Nat) : List (Nat × Sla) := (s.slasOf c).filter (fun e => e.2.term == i)

/-- The lowest n numbers below a bound that a test admits. -/
def lowestFree (n bound : Nat) (free : Nat → Bool) : List Nat := ((List.range bound).filter free).take n

/-- The index that a move takes on its target (R178): the pinned one where it is FREE, else the lowest FREE one. -/
def State.moveIndex (s : State) (m : Move) : Option Nat :=
  let low := (List.range 256).find? (s.idxFree m.tgt)
  match m.pin with
  | some i => if s.idxFree m.tgt i then some i else low
  | none => low

/-- The pinned index of a move is not FREE (R202 check 6). -/
def State.pinTaken (s : State) (m : Move) : Bool := (m.pin.map (fun i => !s.idxFree m.tgt i)).getD false

/-- What refuses an attach, with its status. -/
def State.attachStatus (s : State) (m : Move) : Option Nat :=
  let t := s.term m.src m.i
  let sl := s.allocsOf m.src m.i
  let ports := s.portsOf m.src m.i
  let roomA := (List.range 1024).countP (fun j => !(s.slaOf m.tgt j).valid)
  let roomP := (List.range 4096).countP (fun n => !(s.ctx.xgem.get (fun _ => {}) (4096 * m.tgt + n)).valid)
  if (s.moveIndex m).isNone || !s.onuFree m.tgt t.onuId then some Status.moveId
  else if ports.any (fun p => (s.xgemFind m.tgt p.2.portId).isSome) then some Status.portidDup
  else if sl.any (fun e => e.2.bad (s.mode m.tgt) (s.usFrameBytes m.tgt)) then some Status.slaBad
  else if sl.any (fun e => s.allocDup m.tgt 1024 1024 e.2.allocId) then some Status.allocDup
  else
    match s.sumStatus m.tgt (s.slasOf m.tgt ++ sl) with
    | some st => some st
    | none => if roomA < sl.length ∨ roomP < ports.length then some Status.moveRoom else none

/-- Copies allocation contexts to the target: SLA records, credits, debt and demand (R175, R179). -/
def State.copyAllocs (s : State) (m : Move) (i' : Nat) : List (Nat × Nat) → State
  | [] => s
  | (a, b) :: r =>
    let sla := { s.slaOf m.src a with term := i' }
    let s1 := s.ctxWrite (fun t => { t with sla := t.sla.set (fun _ => {}) (1024 * m.tgt + b) sla })
    (s1.setAlloc m.tgt b (s.alloc m.src a)).copyAllocs m i' r

/-- Copies XGEM port contexts and their upstream map entries, VALID last. -/
def State.copyPorts (s : State) (i' : Nat) : List (Nat × Nat) → State
  | [] => s
  | (a, b) :: r =>
    let p := { s.ctx.xgem.get (fun _ => {}) a with term := i' }
    let u := s.ctx.mapUp.get (fun _ => {}) a
    (s.ctxWrite (fun t => { t with xgem := t.xgem.set (fun _ => {}) b p, mapUp := t.mapUp.set (fun _ => {}) b u })).copyPorts i' r

/-- The attach takes effect at the target's snapshot for map k: k is G. -/
def State.attach (s : State) (m : Move) (k : Nat) : State :=
  let i' := (s.moveIndex m).getD 0
  let al := (s.allocsOf m.src m.i).map (·.1)
  let pairsA := al.zip (lowestFree al.length 1024 (fun j => !(s.slaOf m.tgt j).valid))
  let po := (s.portsOf m.src m.i).map (·.1)
  let pairsP := po.zip ((lowestFree po.length 4096 (fun n => !(s.ctx.xgem.get (fun _ => {}) (4096 * m.tgt + n)).valid)).map (4096 * m.tgt + ·))
  ((s.copyAllocs m i' pairsA).copyPorts i' pairsP).setMove
    { m with i' := some i', step := 4, g := k, allocs := pairsA, ports := pairsP }

/-! ## Aborts (R198, R199) -/

/-- A line of a table goes from one key to another. -/
def Tab.moveKey {α : Type} [DecidableEq α] (d : Nat → α) (t : Tab α) (a b : Nat) : Tab α := (t.set d b (t.get d a)).set d a (d a)

/-- The partial reassemblies of a move that ends without its arrival (R199): from step 7 on they stand at the target's ports; the
source takes them back, or they are lost with a source that has gone. DEDUCED (log 49): the source grants the terminal as before. -/
def State.returnSdus (s : State) (m : Move) : State :=
  if m.step < 7 then s
  else if m.srcGone then { s with sdus := m.ports.foldl (fun (x : Tab Sdu) (p : Nat × Nat) => x.set (fun _ => {}) p.2 {}) s.sdus }
  else { s with sdus := m.ports.foldl (fun (x : Tab Sdu) (p : Nat × Nat) => Tab.moveKey (fun _ => {}) x p.2 p.1) s.sdus }

/-- The target releases all that it holds for a move. -/
def State.releaseTarget (s : State) (m : Move) : State :=
  let s1 := m.allocs.foldl (fun (s : State) (p : Nat × Nat) =>
    (s.ctxWrite (fun t => { t with sla := t.sla.set (fun _ => {}) (1024 * m.tgt + p.2) {} })).setAlloc m.tgt p.2 {}) s
  m.ports.foldl (fun (s : State) (p : Nat × Nat) =>
    s.ctxWrite (fun t => { t with xgem := t.xgem.set (fun _ => {}) p.2 {}, mapUp := t.mapUp.set (fun _ => {}) p.2 {} })) s1

/-- MOVE_ABORTED: context, REASON, STEP, and the status of a refused attach. -/
def State.moveAborted (s : State) (m : Move) (cause : MoveCause) (status : Option Nat) : State :=
  let tail := match status with
    | some st => toLe 2 st
    | none => []
  ((s.bump .chMovesAborted m.tgt).raise (chanGroup m.src) 11).event 0x21 (ctxNo m.src m.i) (toLe 1 cause.code ++ toLe 1 m.step ++ tail)

/-- A terminal whose source has gone, or is gone, becomes LOST with cause CH_DISABLED (R199). -/
def State.lostToMove (s : State) (m : Move) : State :=
  (s.updTerm m.src m.i (fun t => { t with detached := false })).loseTerm m.src m.i 3 0

/-- An upstream tuning message is well formed and belongs to the current move of terminal context i of channel c, on its source
or its target (R183). -/
def State.tuneMove (s : State) (c i : Nat) (msg : List Byte) : Option Move :=
  match (s.moveFrom c i).orElse (fun _ => s.moveTo c i) with
  | none => none
  | some m =>
    let t := s.term m.src m.i
    let type := byteAt msg 2
    if msg.length = 48 ∧ msg.drop 44 = tuneCrcBytes (msg.take 44) ∧ (type = 2 ∨ type = 4) ∧ beAt msg 4 8 = t.sn
        ∧ beAt msg 14 2 % 1024 = t.onuId ∧ beAt msg 0 2 = m.txn then some m
    else none

/-- A TUNE_ARRIVE of a move waits in the queue for the core cycle that runs now, and will be accepted: it prevails over an abort
cause of the same cycle (R197). -/
def State.arrivesNow (s : State) (m : Move) : Bool :=
  decide (5 ≤ m.step) && !m.arrived && s.pending.any (fun x => match x with
    | .tuneArrive t c i msg _ =>
      decide (t / cycleU ≤ s.time.now / cycleU) && c.val == m.tgt && m.i' == some i.val && byteAt msg 2 == 4
        && s.tuneMove m.tgt i.val msg == some m
    | _ => false)

/-- A move aborts (06 Table 5). One that has reached its arrival point does not, nor one that reaches it in this core cycle. -/
def State.abortMove (s : State) (m : Move) (cause : MoveCause) (status : Option Nat := none) : State :=
  if m.arrived || s.arrivesNow m then s
  else
    let n := ctxNo m.src m.i
    let s0 := { s with drl := { s.drl with tune := s.drl.tune.filter (fun x => x.ctx != n) } }
    let msg := s.tuneBytes m 6 (toBe 1 cause.code ++ toBe 1 m.step)
    let s1 := if cause == .srcDown || m.srcGone then s0 else s0.tuneRaise m.src m.i msg
    let s2 := match m.i' with
      | some i' => if 5 ≤ m.step ∧ cause ≠ MoveCause.tgtDown then s1.tuneRaise m.tgt i' msg else s1
      | none => s1
    let s3 := if m.step < 4 then s2 else (s2.returnSdus m).releaseTarget m
    let s4 := (s3.dropMove m).moveAborted m cause status
    if m.step < 5 then s4
    else if m.srcGone then s4.lostToMove m
    else (s4.updTerm m.src m.i (fun t => { t with detached := false })).resumeShapers n

/-- The attaches that are due at a target's snapshot for map k. -/
def State.attachAll (k : Nat) : List Move → State → State
  | [], s => s
  | m :: ms, s =>
    match s.attachStatus m with
    | some st => State.attachAll k ms (s.abortMove m .attach (some st))
    | none => State.attachAll k ms (s.attach m k)

/-- The moves whose attach is due at channel c. -/
def State.attachDue (s : State) (c : Nat) : List Move := s.drl.moves.filter (fun m => m.tgt == c && m.accepted && m.i'.isNone)

/-! ## Detach (R174, R189 to R191) -/

/-- The EqD on the target (R191), in drift units and rounded as it is sent. -/
def State.targetEqd (s : State) (m : Move) : Nat :=
  let rtd : Int := (toDrift teqdU : Nat) - ((s.term m.src m.i).eqd : Int)
  let dly (c : Nat) : Int := signed 16 (s.fld (Reg.drlDly (c % 4)) 15 0)
  let num := (rtd * 12500 - (35 * usU * 1024 : Nat)) * (dly m.tgt - dly m.src) * 1944
  let den : Int := (9800 * usU * 12500 : Nat)
  let corr : Int := if num < 0 then -((-num * 2 + den) / (2 * den)) else (num * 2 + den) / (2 * den)
  s.roundEqd m.tgt ((toDrift teqdU : Nat) - (rtd + corr)).toNat

/-- The detach takes effect at the source's snapshot (R174, R179, R189): TUNE_GO is raised for the next frame. -/
def State.detach (s : State) (m : Move) : State :=
  let eqd := s.targetEqd m
  let s1 := match m.i' with
    | some i' => s.copyAllocs m i' m.allocs
    | none => s
  let mine (e : CoopEntry) : Bool := m.allocs.any (fun p => p.1 == e.ctx)
  let s2 := ((s1.gntCh m.src).coop.filter mine).foldl (fun s e => s.coopDrop m.src e) s1
  let s3 := s2.updGnt m.src (fun g => { g with coop := g.coop.filter (fun e => !mine e) })
  let s4 := (s3.updTerm m.src m.i (fun t => { t with detached := true })).holdShapers (ctxNo m.src m.i)
  let m1 := { m with step := 5, detachedAt := s.time.now, tgtEqd := eqd }
  let tail := toBe 4 (m.g % 2 ^ 32) ++ toBe 4 (s.eqdField m.tgt eqd) ++ toBe 2 (s.fld Reg.drlCfg 31 24)
  (s4.setMove m1).tuneRaise m.src m.i (s.tuneBytes m1 3 tail)

/-- The detaches that are due at a source's snapshot for map k. -/
def State.detachAll (s : State) (c k : Nat) : State :=
  (s.drl.moves.filter (fun m => m.src == c && m.step == 4 && decide (m.g < k))).foldl State.detach s

/-! ## The arrival point (R192) -/

/-- The queue set of terminal context t becomes that of t′ (R179, R180): contents, order, shapers and deficits are kept. -/
def State.relabel (s : State) (t t' : Nat) : State :=
  let qs := (List.range 8).map (fun k => (8 * t + k, 8 * t' + k))
  let ready := qs.foldl (fun n q => n + (s.queue q.1).ready) 0
  let pa := queuePort (8 * t)
  let pb := queuePort (8 * t')
  let shp := (shaperKey 2 t, shaperKey 2 t') :: qs.map (fun q => (shaperKey 0 q.1, shaperKey 0 q.2))
  let s0 := s.ctxWrite (fun c => { c with shapers := shp.foldl (fun x k => Tab.moveKey (fun _ => {}) x k.1 k.2) c.shapers })
  let mine (q : Nat) : Bool := decide (q / 8 = t) && decide (q < 0x80000)
  let toQ (q : Nat) : Nat := if mine q then 8 * t' + q % 8 else q
  let here := (s0.swPort (t / 256)).epoch
  let there := (s0.swPort (t' / 256)).epoch
  let copy (r : Residue) : Residue :=
    if mine r.queue then { r with queue := toQ r.queue, port := t' / 256, epoch := if r.epoch = here then there else there + 1 } else r
  let kept := ((s0.ch (t / 256)).parked.filter (fun f => mine f.queue)).map (fun (f : FragRem) => { f with queue := toQ f.queue })
  let away := s0.chans.upd (fun _ => {}) (t / 256) (fun p => { p with parked := p.parked.filter (fun f => !mine f.queue) })
  let chans := away.upd (fun _ => {}) (t' / 256) (fun p => { p with parked := p.parked ++ kept })
  { s0 with
    chans := chans,
    sw := { s0.sw with residue := s0.sw.residue.mapVals (fun _ => []) (fun _ l => l.map copy),
                       queues := qs.foldl (fun x q => Tab.moveKey (fun _ => {}) x q.1 q.2) s0.sw.queues,
                       termLost := s0.sw.termLost.filter (fun x => x != t') },
    tm := { s0.tm with
      shapers := shp.foldl (fun x k => Tab.moveKey (fun _ => {}) x k.1 k.2) s0.tm.shapers,
      held := s0.tm.held.map (fun x => if x = t then t' else x),
      deficits := shp.foldl (fun x k => Tab.moveKey (fun _ => 0) x k.1 k.2) s0.tm.deficits },
    hbm := { s0.hbm with
      prefetch := (s0.hbm.prefetch.upd (fun _ => 0) pa (· - ready)).upd (fun _ => 0) pb (· + ready),
      rot := qs.foldl (fun x q => Tab.moveKey (fun _ => 0) x q.1 q.2) s0.hbm.rot },
    cph := { s0.cph with reqs := s0.cph.reqs.map (fun (r : CphReq) => { r with queue := toQ r.queue }) } }

/-- The counters of an object begin at 0: what a context that an index named before has left there is not its own. -/
def State.freshCounters (s : State) (kind cpo b : Nat) : State :=
  (List.range cpo).foldl (fun (s : State) (i : Nat) =>
    let kb := kind * 2 ^ 40 + b * 256 + i
    { s with cnt := { s.cnt with acc := s.cnt.acc.set (fun _ => 0) kb 0, local_ := s.cnt.local_.set (fun _ => 0) kb 0 } }) s

/-- TUNE_ARRIVE is accepted: the arrival point, with the phase error of its burst in drift units. -/
def State.arrive (s : State) (m : Move) (i' : Nat) (phase : Int) : State :=
  let n := ctxNo m.src m.i
  let n' := ctxNo m.tgt i'
  let t := s.term m.src m.i
  let s1 := match t.binding with
    | some b => { s with drl := { s.drl with bindings := s.drl.bindings.set (fun _ => none) b (some n') } }
    | none => s
  let t' := { t with eqd := m.tgtEqd, avg := 0, detached := false, pending := none, wantPloamu := false, newFrom := 0, dowi := false,
                     losCnt := 0 }
  let m1 := { m with step := 9, arrived := true, error := phase }
  let s2 := ((((s1.freshCounters 1 16 n').setTerm m.tgt i' t').relabel n n').resumeShapers n').setMove m1
  let s3 := s2.tuneRaise m.tgt i' (s.tuneBytes m 5 [])
  let step := s.fld Reg.actTrk 15 0 m.tgt
  if step ≠ 0 ∧ step ≤ phase.natAbs then s3.rerange m.tgt i' ((m.tgtEqd : Int) - phase) .drift else s3

/-! ## Upstream tuning messages (R183, R185) -/

/-- TUNE_ACK (R186 step 3): accepted, or DECLINED. -/
def State.tuneAcked (s : State) (m : Move) (msg : List Byte) : State :=
  if m.accepted ∨ m.step ≠ 2 then s
  else if byteAt msg 16 ≠ 0 ∨ s.ttMax < beAt msg 18 2 then s.abortMove m .declined
  else s.setMove { m with accepted := true, step := 3 }

/-- A tuning message that arrives on the OMCC port of terminal i of channel c, in a burst of the given phase error. -/
def State.tuneUp (s : State) (c i : Nat) (msg : List Byte) (phase : Int) : State :=
  match s.tuneMove c i msg with
  | none => s.bump .xTuneBad (ctxNo c i)
  | some m =>
    if byteAt msg 2 = 2 then (if m.src = c then s.tuneAcked m msg else s.bump .xTuneBad (ctxNo c i))
    else
      match m.i' with
      | some i' => if m.tgt = c ∧ i' = i ∧ !m.arrived ∧ 5 ≤ m.step then s.arrive m i' phase else s
      | none => s.bump .xTuneBad (ctxNo c i)

/-- TUNE_ACK_TIMEOUT (R186): the next of three offers, or NO_ACK. -/
def State.ackTimeout (s : State) (c i : Nat) : State :=
  match s.moveFrom c i with
  | none => s
  | some m =>
    if m.accepted || m.offerDue || m.step != 2 || decide (s.time.now < m.ackBy) then s
    else if m.offers ≥ 3 then s.abortMove m .noAck
    else (s.setMove { m with offerDue := true }).tuneOffer m

/-- ARRIVE_TIMEOUT (R198). -/
def State.arriveTimeout (s : State) (c i : Nat) : State :=
  match s.moveFrom c i with
  | none => s
  | some m =>
    if 5 ≤ m.step ∧ !m.arrived ∧ m.detachedAt + s.fld Reg.drlCfg 31 24 * msU ≤ s.time.now then s.abortMove m .timeout else s

/-! ## Completion (R197, R179) -/

/-- The counters of one object continue as another's (R179): the source is swept a last time, and what the target has counted since
the arrival point is added. -/
def State.carryCounters (s : State) (kind cpo a b : Nat) : State :=
  (List.range cpo).foldl (fun (s : State) (i : Nat) =>
    let ka := kind * 2 ^ 40 + a * 256 + i
    let kb := kind * 2 ^ 40 + b * 256 + i
    let v := s.cnt.acc.get (fun _ => 0) ka + s.cnt.local_.get (fun _ => 0) ka
    { s with cnt := { s.cnt with acc := (s.cnt.acc.set (fun _ => 0) ka v).upd (fun _ => 0) kb (· + v),
                                 local_ := s.cnt.local_.set (fun _ => 0) ka 0 } }) s

/-- A move completes at the target's snapshot after its arrival. -/
def State.completeMove (s : State) (m : Move) : State :=
  match m.i' with
  | none => s
  | some i' =>
    let t := s.term m.src m.i
    let n := ctxNo m.src m.i
    let n' := ctxNo m.tgt i'
    let s1 := m.allocs.foldl (fun (s : State) (p : Nat × Nat) =>
      (s.ctxWrite (fun t => { t with sla := t.sla.set (fun _ => {}) (1024 * m.src + p.1) {} })).setAlloc m.src p.1 {}) s
    let s2 := m.ports.foldl (fun (s : State) (p : Nat × Nat) =>
      s.ctxWrite (fun t => { t with xgem := t.xgem.set (fun _ => {}) p.1 {}, mapUp := t.mapUp.set (fun _ => {}) p.1 {} })) s1
    let s3 := ((s2.setTerm m.src m.i {}).quarantineId m.src t.onuId).dropMove m
    let s4 := ((s3.carryCounters 1 16 n n').updTerm m.tgt i' (fun t => { t with rtd := toDrift teqdU - t.eqd, rangedAs := t.onuId })).recordWrite m.tgt i'
    s4.event 0x20 (t.binding.getD 0) (toLe 4 n ++ toLe 4 n' ++ toLe 2 m.txn ++ toLe 4 (m.error % (2 ^ 32 : Nat)).toNat)

/-- The moves of a target that complete at its snapshot. -/
def State.completeAll (s : State) (c : Nat) : State :=
  (s.drl.moves.filter (fun m => m.tgt == c && m.arrived)).foldl State.completeMove s

/-- Upstream frame k of the source has ended: step 7 of its moves, and the partial reassemblies go to the target (R179). -/
def State.moveFrameEnd (s : State) (c k : Nat) : State :=
  (s.drl.moves.filter (fun m => m.src == c && decide (5 ≤ m.step) && decide (m.step < 7) && decide (m.g ≤ k))).foldl (fun (s : State) (m : Move) =>
    let s1 := { s with sdus := m.ports.foldl (fun (x : Tab Sdu) (p : Nat × Nat) => Tab.moveKey (fun _ => {}) x p.1 p.2) s.sdus }
    s1.setMove { m with step := max 7 m.step }) s

/-! ## Channels that go down (R198, R199) -/

/-- The moves that use a channel as target abort; those with it as source abort before the detach, and go on after it; no tuning
message goes out on it. DESIGN CHOICE (log entry 77): at step 4, where 06 Table 5 names no SRC_DOWN, a source that goes down aborts
the move with that cause as at steps 1 to 3. -/
def State.channelGone (s0 : State) (c : Nat) : State :=
  let s := { s0 with drl := { s0.drl with tune := s0.drl.tune.filter (fun x => x.ch != c) } }
  let s1 := (s.drl.moves.filter (fun m => m.tgt == c)).foldl (fun (s : State) (m : Move) => s.abortMove m .tgtDown) s
  (s1.drl.moves.filter (fun m => m.src == c)).foldl (fun (s : State) (m : Move) =>
    if m.step < 5 then s.abortMove m .srcDown else s.setMove { m with srcGone := true }) s1

/-! ## Load suggestions (R201) -/

/-- The load of a channel in a direction: bytes of the window, and what a frame could carry. -/
def State.loadOf (s : State) (c : Nat) (up : Bool) : Nat × Nat :=
  if up then ((s.ch c).usLoad, s.usFrameBytes c) else ((s.ch c).dsLoad, s.fsBytes c)

/-- How far the load of one channel lies above that of another: a difference of two fractions, as numerator and denominator. -/
def State.loadOver (s : State) (up : Bool) (a b : Nat) : Int × Nat :=
  let x := s.loadOf a up
  let y := s.loadOf b up
  ((x.1 * y.2 : Nat) - (y.1 * x.2 : Nat), x.2 * y.2)

/-- The channel of a list with the most, or the least, load. -/
def State.extreme (s : State) (up : Bool) (most : Bool) (l : List Nat) : Nat :=
  l.foldl (fun a c => if (most && decide (0 < (s.loadOver up c a).1)) || (!most && decide (0 < (s.loadOver up a c).1)) then c else a)
    (l.headD 0)

/-- One direction of a tree: MOVE_SUGGEST where the loads differ by THR. -/
def State.suggestDir (s : State) (tree : Nat) (up : Bool) (window : Nat) : Option State :=
  let on := ((List.range 4).map (4 * tree + ·)).filter (fun c => s.flg Reg.pchCtrl 0 c)
  let hi := s.extreme up true on
  let lo := s.extreme up false on
  let diff := s.loadOver up hi lo
  if on.length < 2 ∨ diff.1 ≤ 0 ∨ 100 * diff.1 < ((s.fld Reg.drlSug 7 0 * diff.2 * (window * 8) : Nat) : Int) then none
  else
    let key (t : Nat) : Nat := s.drl.loads.get (fun _ => 0) (2 * ctxNo hi t + b2n (!up))
    let top := ((sortBy (fun t => 2 ^ 64 - key t) ((List.range 256).filter (fun t => key t != 0))).take 4)
    let cap := (if up then s.usFrameBytes hi else s.fsBytes hi) * window * 8
    let items := (top.map (fun t => toLe 4 (ctxNo hi t) ++ toLe 1 (if cap = 0 then 0 else key t * 100 / cap))).flatten
    some (s.event 0x22 tree (toLe 1 (b2n (!up)) ++ toLe 1 hi ++ toLe 1 lo ++ items))

/-- MOVE_SUGGEST: a measurement window of a tree ends. -/
def State.suggest (s : State) (tree : Nat) : State :=
  let window := s.fld Reg.drlSug 31 16
  let start := s.drl.winStart.get (fun _ => 0) tree
  if window = 0 ∨ s.time.now < start + window * msU then s
  else
    let s1 := match s.suggestDir tree true window with
      | some x => x
      | none => (s.suggestDir tree false window).getD s
    let s2 := (List.range 4).foldl (fun (s : State) w => s.updCh (4 * tree + w) (fun p => { p with usLoad := 0, dsLoad := 0 })) s1
    { s2 with drl := { s2.drl with winStart := s2.drl.winStart.set (fun _ => 0) tree s.time.now,
                                   loads := s2.drl.loads.keep (fun k => k / 2048 != tree) } }

/-! ## Commands (R202, R203) -/

/-- TERM_MOVE (R202). -/
def opTermMove (x : Slot) (s : State) : Turn :=
  withLen x 16 s fun b =>
    let c := x.spec
    let i := byteAt b 0
    let tgt := 4 * (c / 4) + byteAt b 1 % 4
    let pin := if bufBit b 1 2 then some (byteAt b 2) else none
    let t := s.term c i
    let m : Move := { src := c, i := i, tgt := tgt, pin := pin, txn := (t.txn + 1) % 65536 }
    let rtd := driftU (toDrift teqdU - t.eqd)
    let lo := s.fld Reg.actReach 9 0 tgt
    let cfg := s.reg Reg.drlCfg
    let off := !flag cfg 0 || field cfg 31 24 == 0 || field cfg 23 16 == 0 || field cfg 13 8 == 0
    let busy := (s.moveFrom c i).isSome || (s.moveTo c i).isSome || decide (64 ≤ s.drl.moves.length)
      || decide (4 ≤ s.drl.moves.countP (fun m => m.tgt == tgt))
    checks [(off, Status.moveOff), (t.state != .operation || t.losi || (s.omccOf c i).isNone, Status.moveState), (busy, Status.moveBusy),
            (tgt == c || !s.flg Reg.pchCtrl 0 tgt, Status.moveTarget),
            (decide (32 < (s.allocsOf c i).length) || decide (256 < (s.portsOf c i).length), Status.moveTooBig),
            (!s.onuFree tgt t.onuId || s.pinTaken m || (s.moveIndex m).isNone, Status.moveId),
            (decide (rtd < reachU lo + us 34) || decide (reachU (lo + s.fld Reg.actReach 25 16 tgt) + us 36 < rtd), Status.moveReach)] s fun _ =>
      let s1 := s.setTerm c i { t with txn := m.txn }
      (({ s1 with drl := { s1.drl with moves := s1.drl.moves ++ [m] } }).tuneOffer m).ok

/-- TERM_MOVE_ABORT (R203). -/
def opTermMoveAbort (x : Slot) (s : State) : Turn :=
  withLen x 16 s fun b =>
    match s.moveFrom x.spec (byteAt b 0) with
    | none => s.fails Status.moveNone
    | some m => if m.arrived || s.arrivesNow m then s.fails Status.moveLate else (s.abortMove m .host).ok

end Sys2Proof.Machine
end

