-- ==== Sys2Proof/Machine/Frame.lean ====
section
/-! DEFINITION. Machine/Frame.lean: the downstream framer (02 R45 to R53): PLOAM selection (R132, R133, R137), the start of a
PHY frame, XGEM frames, fragments and their keystream (R315, R318). -/

namespace Sys2Proof.Machine

/-! ## XGEM frames (R49, R50, R53, R315) -/

/-- Bytes of a payload padded to W (R49). -/
def State.padded (s : State) (c n : Nat) : Nat := cdiv n (s.wordBytes c) * s.wordBytes c

/-- The key slot of a downstream frame: the terminal's, or the channel's broadcast key. -/
def State.dsSlot (s : State) (c q keyIdx : Nat) : Option Nat :=
  let pick (a b : Option Nat) : Option Nat := if keyIdx = 1 then a else if keyIdx = 2 then b else none
  if q < 0x80000 then
    let t := s.term (q / 2048) (q / 8 % 256)
    pick t.key1 t.key2
  else pick (s.ch c).bcast1 (s.ch c).bcast2

/-- A payload as it is sent: padded with zero bytes, and under the keystream of its place, behind the header at `pos`. -/
def State.linePayload (s : State) (c : Nat) (key : Option (List Byte)) (sfc pos : Nat) (b : List Byte) : List Byte :=
  let p := b ++ List.replicate (s.padded c b.length - b.length) 0
  match key with
  | none => p
  | some k => xorStream (lineStream (s.mode c) k false sfc (pos + 8)) 0 p

/-- The superframe counter of a PHY frame (R47). -/
def sfcOf (k : Nat) : Nat := k % 2 ^ 51

/-- An XGEM frame leaves: counted as load; the last of an SDU counts the SDU (R473). -/
def State.xgemSent (s : State) (c q room pli portId keyIdx : Nat) (last : Bool) (len : Nat) (payload : List Byte) : State :=
  let s1 := s.emit (.xgem c room pli portId keyIdx 0 last payload)
  let n := 8 + payload.length
  let s2 := s1.updCh c (fun p => { p with dsLoad := p.dsLoad + n })
  let s3 := if !last then s2 else ((s2.bump .chDsFrames c).bump .chDsBytes c len).bwAdd c true len
  if q < 0x80000 then
    let t := q / 8
    let s4 := { s3 with drl := { s3.drl with loads := s3.drl.loads.upd (fun _ => 0) (2 * t + 1) (· + n) } }
    if last then (s4.bump .termDsFrames t).bump .termDsBytes t len else s4
  else s3

/-- Places one piece of an SDU at the present position: sent at once in clear, or planned with a request for its keystream; with
no key of TYPE 1 in its slot it is dropped, never sent in clear (R53, R318). Answers whether it was placed. -/
def State.placePiece (s : State) (c : Nat) (f : FragRem) (piece : List Byte) (last : Bool) : State × Bool :=
  let room := (s.ch c).space
  let size := 8 + s.padded c piece.length
  let s1 := s.updCh c (fun p => { p with space := p.space - size })
  if f.keyIdx = 0 then (s1.xgemSent c f.queue room piece.length f.portId 0 last f.len (s.linePayload c none 0 0 piece), true)
  else
    match s.dsSlot c f.queue f.keyIdx with
    | none => (s.bump .xKsFail c, false)
    | some k =>
      if (s.keySlot k).cur.type ≠ 1 then (s.bump .xKsFail c, false)
      else
        let x : Planned :=
        { req := s.cph.nextReq, room := room, queue := f.queue, portId := f.portId, keyIdx := f.keyIdx, piece := piece, last := last,
          len := f.len, cont := f.cont }
        let s2 := s1.updCh c (fun p => { p with planned := p.planned ++ [x] })
        (s2.queueReq { id := 0, user := .dsKs c, slice := c / 24, queuedAt := 0, rx := some (s.bindSlot k), len := size }, true)

/-- Idle XGEM frames fill the space that is left of the FS payload (R48, R84). -/
def State.idleFill (s : State) (c : Nat) : State :=
  let room := (s.ch c).space
  if room = 0 then s else (s.updCh c (fun p => { p with space := 0 })).emit (.idle c room room)

/-- What does not go into this PHY frame waits for the next one; the space left is idle (R50). -/
def State.nextFrame (s : State) (c : Nat) (f : FragRem) : State := (s.idleFill c).updCh c (fun p => { p with pend := p.pend ++ [f] })

/-- A frame waits for room in the keystream queue, or behind one of its queue that does; others go first (R53, R274). -/
def State.deferSdu (s : State) (c : Nat) (f : FragRem) : State := s.updCh c (fun p => { p with deferred := p.deferred ++ [f] })

/-- Some SDU already lies across a frame boundary: a continuation that is not sent yet (R50). -/
def PonCh.straddles (p : PonCh) : Bool := p.planned.any (fun x => x.cont || !x.last) || p.deferred.any (·.cont)

/-- The TUNE_DONE of a terminal waits for the next PHY frame: nothing of its queue set goes before it (R192). -/
def State.doneWaits (s : State) (t : Nat) : Bool := s.drl.tune.any (fun x => x.ctx == t && x.ch == t / 256 && byteAt x.bytes 2 == 5)

/-- The framer keeps whole SDUs of a terminal back: a move has detached it, or its TUNE_DONE waits (R190, R192). -/
def State.keepsBack (s : State) (f : FragRem) : Bool :=
  decide (f.queue < 0x80000) && !f.cont && (s.detachedCtx (f.queue / 8) || s.doneWaits (f.queue / 8))

/-- Puts an SDU, or the rest of one, into the FS payload (R49, R50). One that waits for room in the keystream queue lets the
frames of other queues go first (R53). -/
def State.putSdu (s : State) (c : Nat) (f : FragRem) : State :=
  let space := (s.ch c).space
  let w := s.wordBytes c
  let min_ := s.fld Reg.pchDs 11 0 c
  let cap := (space - 8) / w * w
  if f.rest.length > 16383 then s.bump .chOversizeSduDrops c
  else if s.keepsBack f then s.updCh c (fun p => { p with parked := p.parked ++ [f] })
  else if !(s.ch c).pend.isEmpty then s.nextFrame c f
  else if (s.ch c).deferred.any (fun g => g.queue == f.queue) then s.deferSdu c f
  else if f.keyIdx ≠ 0 ∧ s.ksQueueFull (c / 24) then (s.bump .chCipherDeferrals c).deferSdu c f
  else if 8 + s.padded c f.rest.length ≤ space then (s.placePiece c f f.rest true).1
  else if min_ ≠ 0 ∧ min_ ≤ space ∧ w ≤ cap ∧ !(s.ch c).straddles then
    let r := s.placePiece c f (f.rest.take cap) false
    if r.2 then r.1.nextFrame c { f with rest := f.rest.drop cap, cont := true } else r.1
  else s.nextFrame c f

/-- Frames that waited for room in the keystream queue are put again, in their order. -/
def State.retryDeferred (s : State) (c : Nat) : State :=
  let l := (s.ch c).deferred
  if l.isEmpty || s.ksQueueFull (c / 24) then s
  else l.foldl (fun (s : State) f => s.putSdu c f) (s.updCh c (fun p => { p with deferred := [] }))

/-- When the position of a planned frame leaves: its share of the FS payload after the frame's start. -/
def State.positionPast (s : State) (c room : Nat) : Bool :=
  decide (s.phyFrame * frameU + (s.fsBytes c - room) * frameU / s.fsBytes c < s.tu)

/-- A planned frame as it waits again. -/
def Planned.again (x : Planned) : FragRem :=
  { queue := x.queue, portId := x.portId, keyIdx := x.keyIdx, rest := x.piece, len := x.len, cont := x.cont }

/-- The keystream of a planned piece is ready: it is sent at its position. A whole frame whose position has passed meanwhile counts
a cipher deferral, and a keystream is requested for a new position behind the frames that went first (R53); the old position is
idle. -/
def State.sendPlanned (s : State) (c id : Nat) (key : List Byte) : State :=
  match (s.ch c).planned.find? (fun x => x.req == id) with
  | none => s
  | some x =>
    let s1 := s.updCh c (fun p => { p with planned := p.planned.filter (fun y => y.req != id) })
    if s.positionPast c x.room && x.last && !x.cont && !(s.ch c).planned.any (fun y => y.queue == x.queue && y.req != id) then
      ((s1.emit (.idle c x.room (8 + s.padded c x.piece.length))).bump .chCipherDeferrals c).putSdu c x.again
    else
      (s1.xgemSent c x.queue x.room x.piece.length x.portId x.keyIdx x.last x.len
        (s.linePayload c (some key) (sfcOf s.phyFrame) (s.fsBytes c - x.room) x.piece)).retryDeferred c

/-- Pieces whose keystream was not ready when their frame ended are planned anew (R53): each counts a cipher deferral; a piece
that is not the last of its SDU is joined again with the rest. -/
def replan (xs : List Planned) (pend : List FragRem) : List FragRem :=
  match xs with
  | [] => pend
  | x :: r =>
    let f := x.again
    let rest := replan r pend
    if x.last then f :: rest
    else
      match rest with
      | g :: gs => if g.queue = f.queue ∧ g.cont then { f with rest := f.rest ++ g.rest } :: gs else f :: rest
      | [] => [f]

/-- Removes a request from the cipher subsystem (its use is over). -/
def State.dropReq (s : State) (id : Nat) : State :=
  let gone (c : Cluster) : Cluster := { c with lane0 := c.lane0.filter (· != id), lane1 := c.lane1.filter (· != id) }
  { s with cph := { s.cph with reqs := s.cph.reqs.filter (fun x => x.id != id), clusters := s.cph.clusters.mapVals (fun _ => {}) (fun _ c => gone c) } }

/-- What the last PHY frame of a channel leaves to this one; its end and the positions that got no keystream are idle. -/
def State.carryOver (s : State) (c : Nat) : State :=
  let late := (s.ch c).planned
  let drop (s : State) (x : Planned) : State := (s.dropReq x.req).emit (.idle c x.room (8 + s.padded c x.piece.length))
  let s1 := late.foldl drop ((s.idleFill c).bump .chCipherDeferrals c late.length)
  s1.updCh c (fun p => { p with planned := [], pend := replan late p.pend })

/-! ## PLOAM selection (R132, R133, R137) -/

/-- The Burst_Profile broadcast of frame k (R133). -/
def State.profileDue (s : State) (c k : Nat) : List PloamMsg :=
  if k % 8 < 4 ∧ s.bpValid c (k % 8) then
    [{ ctx := none, onuId := Config.broadcastOnuId (s.mode c), sn := 0, body := .burstProfile (k % 8) }]
  else []

/-- Discovered serial numbers beyond the tree cap are discarded and counted: their terminals answer again in a later window, and
their contexts are as before their responses. Remembered attempts keep their places (R137, R138; assumption 47). Which of a
channel's waiting activations are beyond it follows the order of admission: DESIGN CHOICE (log entry 47). -/
def State.capDefer (s : State) (c quota : Nat) : State :=
  let capped := (((s.assignWaits c s.tu).take (s.assignRoom c)).drop quota).filter (fun e => !e.2.remembered)
  capped.foldl (fun (s : State) e => (s.returnTerm c e.1 false).bump .chCapDeferrals c) s

/-- Sends one message: what its sending means to its terminal. -/
def State.ploamGoes (s : State) (c k : Nat) (m : PloamMsg) : State :=
  match m.body, m.ctx with
  | .assignOnuId, some i => s.updTerm c i (fun t => { t with step := .assigned k })
  | .rangingTime _, some i =>
    let s1 := s.bump .termRangingTimeMessagesSent (ctxNo c i)
    s1.updTerm c i (fun t => if t.state = .ranging then { t with step := .told k } else t)
  | _, _ => s

/-- Sends the messages of a frame, in order: the state and the bytes. -/
def State.ploamAll (s : State) (c k : Nat) : List PloamMsg → State × List (List Byte)
  | [] => (s, [])
  | m :: ms =>
    let r := (s.ploamGoes c k m).ploamSend c m
    let q := r.1.ploamAll c k ms
    (q.1, r.2.toList ++ q.2)

/-- The PLOAMd messages of a frame of a channel (R132): up to two of the host, then the classes in order. -/
def State.ploamFrame (s : State) (c k quota : Nat) : State × List (List Byte) :=
  let p := s.ch c
  let host := p.ploamHost.take 2
  let assign := ((s.assignWaits c s.tu).take quota).map (fun (e : Nat × Term) =>
    ({ ctx := some e.1, onuId := e.2.onuId, sn := e.2.sn, body := .assignOnuId } : PloamMsg))
  let hw := p.ploamHw.filter (s.ploamStands c)
  let more := p.ploamHost.drop 2
  let order := sortBy (fun (m : PloamMsg) => m.body.rank) (hw ++ assign ++ s.profileDue c k ++ more)
  let send := order.take (8 - host.length)
  let rest := order.drop (8 - host.length)
  let again := (send.filter (fun m => decide (1 < m.copies))).map (fun (m : PloamMsg) => { m with copies := m.copies - 1 })
  let isHost (m : PloamMsg) : Bool := m.body.rank == 6
  let keep (m : PloamMsg) : Bool := !isHost m && m.body != .assignOnuId && m.ctx.isSome
  let s1 := s.updCh c (fun p => { p with ploamHost := rest.filter isHost, ploamHw := again ++ rest.filter keep })
  s1.ploamAll c k (host ++ send)

/-! ## The PHY frame (R45 to R48, R182, R190) -/

/-- An enabled channel has work (R29). -/
def State.chanWork (s : State) (c : Nat) : Bool :=
  (s.termsOf c).any (fun e => e.2.state != .free) || s.flg Reg.actDisc 0 c
    || ((s.ch c).eligible && s.fld Reg.actMem 19 16 c != 0 && s.fld Reg.actMem 7 0 c != 0 && (s.ch c).rounds != .ended)
    || s.drl.moves.any (fun m => m.src == c || m.tgt == c)

/-- The transmit-disable bit of a channel (R376). -/
def State.txDis (s : State) (c : Nat) (on : Bool) : State :=
  if (s.ch c).txDisable = on then s else (s.updCh c (fun p => { p with txDisable := on })).emit (.txDisable c on)

/-- The state of a PON transmit lane (R373, R374): Freewheel from the set-up lock on, but in standby; it sends as long as its channel's
PHY frames go. -/
def State.ponTxLane (s : State) (c : Nat) : LaneState :=
  if !s.life.live || s.life.pwr == .standby then .kickstand else if (s.ch c).framing then .running else .freewheel

/-- The state of a PON burst receive lane (R375): in Freewheel between the windows in which its receiver is awake. -/
def State.ponRxLane (s : State) (c : Nat) : LaneState :=
  if !s.life.live || s.life.pwr == .standby then .kickstand else if (s.ch c).receiver == .stopped then .freewheel else .running

/-- The tuning messages of a channel go, each whole (R182); one that finds the keystream queue full is deferred to the next PHY frame
(R53, R303). -/
def State.tuneFrame (s : State) (c : Nat) : State :=
  let mine := s.drl.tune.filter (fun x => x.ch == c)
  let fits (s : State) : Bool := decide (8 + s.padded c 48 ≤ (s.ch c).space)
  mine.foldl (fun (s : State) (x : TuneMsg) =>
    let keyIdx := if x.enc then (s.term (x.ctx / 256) (x.ctx % 256)).txIndex else 0
    if !fits s then s
    else if keyIdx ≠ 0 ∧ s.ksQueueFull (c / 24) then s.bump .chCipherDeferrals c
    else
      let s1 := { s with drl := { s.drl with tune := s.drl.tune.erase x } }
      ((s1.placePiece c { queue := 8 * x.ctx, portId := x.portId, keyIdx := keyIdx, rest := x.bytes, len := 48 } x.bytes true).1).tuneSent x) s

/-- What waits for the framer is not sent, but the whole SDUs of terminals left to their moves (R199); an SDU whose first fragment
was sent is a truncated drop (R51). -/
def State.cutTail (s : State) (c : Nat) : State :=
  let p := s.ch c
  let cut := (replan p.planned p.pend ++ p.deferred).countP (fun f => f.cont)
  let s1 := p.planned.foldl (fun s x => s.dropReq x.req) (s.bump .chTruncatedSduDrops c cut)
  let keep (f : FragRem) : Bool := !f.cont && decide (f.queue < 0x80000) && s.detachedCtx (f.queue / 8)
  s1.updCh c (fun p => { p with pend := [], planned := [], deferred := [], parked := (replan p.planned p.pend ++ p.deferred ++ p.parked).filter keep })

/-- Framing stops at this boundary; the frame's end is idle. -/
def State.stopFraming (s : State) (c : Nat) : State :=
  (((s.idleFill c).cutTail c).updCh c (fun p => { p with framing := false, stopping := false })).txDis c true

/-- One channel starts PHY frame k. -/
def State.chanFrame (s : State) (c k quota : Nat) : State :=
  let s0 := if (s.gntCh c).late = some k then s.fallback c k .gntLate else s
  let s1 := (s0.carryOver c).updCh c (fun p => { p with framing := true })
  let m := ((s1.gntCh c).maps.find? (fun m => m.k == k)).getD { k := k }
  let r := s1.ploamFrame c k quota
  let n := (m.bursts.map (fun b => b.structs.length)).foldl (· + ·) 0
  let ponId := (s.reg Reg.pchPonidHi c).toNat % 2 ^ 19 * 2 ^ 32 + (s.reg Reg.pchPonidLo c).toNat
  let s2 := (r.1.dropUnsent c).emit (.phyFrame c (sfcOf k) ponId (s.psync c) m r.2)
  let pend := (s2.ch c).parked ++ (s2.ch c).pend ++ (s2.ch c).deferred
  let s3 := s2.updCh c (fun p =>
    { p with space := s.fsBytes c - (4 + 8 * n + 48 * r.2.length), parked := [], pend := [], deferred := [] })
  let s4 := (pend.filter (fun f => f.cont)).foldl (fun s f => s.putSdu c f) s3
  let s5 := (pend.filter (fun f => !f.cont)).foldl (fun s f => s.putSdu c f) (s4.tuneFrame c)
  s5.updCh c (fun p => { p with idleFrames := if s5.chanWork c then 0 else p.idleFrames + 1 })

/-- The four channels of a tree at a frame start. -/
def State.treeFrame (s : State) (tree k : Nat) : State :=
  let s0 := (List.range 4).foldl (fun (s : State) w => if s.frames (4 * tree + w) then s.roundFrame (4 * tree + w) else s) s
  let d := s0.dealTree tree s0.tu
  (List.range 4).foldl (fun (s : State) w =>
    let c := 4 * tree + w
    if s.frames c then (s.capDefer c ((d.2.drop w).headD 0)).chanFrame c k ((d.2.drop w).headD 0)
    else if (s.ch c).framing then s.stopFraming c else s) d.1

/-- PHY_FRAME_START: the tick counter has reached a multiple of 19,440 (R45). -/
def State.phyFrameStart (s : State) : State :=
  let k := s.frameNo
  if k ≤ s.phyFrame then s
  else (List.range 48).foldl (fun s tree => s.treeFrame tree k) { s with phyFrame := k }

end Sys2Proof.Machine
end

