-- ==== Sys2Proof/Machine/Burst.lean ====
section
/-! DEFINITION. Machine/Burst.lean: reception of granted bursts (02 R56 to R69): burst checks, delineation, reassembly and
decryption of upstream frames, reports, defects, drift, and what an upstream frame leaves at its end. -/

namespace Sys2Proof.Machine

/-! ## Frames enter a slice (R30, R36, R412) -/

/-- A frame record with its ingress stamp, at an instant of the tick timeline (R408, R411). -/
def FrameRec.stamped (r : FrameRec) (ts : TimeSt) (tu : Nat) : FrameRec :=
  let t256 := tu * 256 / tickU
  { r with tick := t256 / 256, frac := t256 % 256, present := ts.present t256 }

/-- Cells of the frames that wait for a lookup slot: in the wake reserve, or in the shared ingress buffer. -/
def Slice.waitCells (x : Slice) (held : Bool) : Nat :=
  ((x.ingress.filter (fun e => e.2.rec_.held == held)).map (fun e => frameCells e.2)).sum

/-- An arriving frame waits in its slice: in the wake reserve of 4,096 cells while the slice's clock is stopped or waking (R30),
else in the ingress buffer that it shares with the VOQs (R36, R261); a frame that finds it full is an ingress-buffer drop. -/
def State.enterSlice (s : State) (sl port : Nat) (p : Pkt) : State :=
  let x := s.slice sl
  let q : Pkt := { p with rec_ := { p.rec_ with held := x.unit != .running } }
  let full := if q.rec_.held then decide (4096 < x.waitCells true + frameCells p)
    else decide (61440 < s.ingressCells sl + x.waitCells false + frameCells p)
  if full then (((s.bump .slcVoqFull sl).raise (6 + sl) 6).dropPkt p 0xFFFF 14).wakeSlice sl
  else (s.setSlice sl { x with ingress := x.ingress ++ [(port, q)] }).wakeSlice sl

/-! ## Bursts of a map -/

/-- Burst j of map k of a channel. -/
def State.mapBurst (s : State) (c k j : Nat) : Option GBurst :=
  ((s.gntCh c).maps.find? (fun m => m.k == k)).bind (fun m => m.bursts[j]?)

/-- A burst whose content lies in the map: the responses of quiet windows are not (R104, R115). -/
def GBurst.onLine (b : GBurst) : Bool :=
  match b.kind with
  | .normal | .recovery | .arrival => true
  | _ => false

/-- The burst is over: received, missed or discarded. -/
def State.settle (s : State) (c k j : Nat) : State :=
  let one (m : GMap) : GMap :=
    if m.k = k then { m with bursts := m.bursts.mapIdx (fun (i : Nat) (b : GBurst) => if i = j then { b with settled := true } else b) }
    else m
  s.updGnt c (fun g => { g with maps := g.maps.map one })

def State.hterm (s : State) (c i : Nat) : Term := s.term (s.holder c i).1 (s.holder c i).2
def State.updHterm (s : State) (c i : Nat) (f : Term → Term) : State := s.updTerm (s.holder c i).1 (s.holder c i).2 f

/-- Expected arrival of the first byte of the FS burst header, T0 of R56. -/
def State.burstT0 (s : State) (c k : Nat) (b : GBurst) : Nat := s.absToTu c (s.absUnit c k b.start)
/-- P of R56: preamble, delimiter and LTF; and the delimiter with what follows it before T0. -/
def State.burstP (s : State) (c : Nat) (b : GBurst) : Nat :=
  (s.preBytes c b.profile + (if s.usRate c = 4 then 8 else 0)) * s.unitU c / s.preUnit c
def State.delimDur (s : State) (c : Nat) (b : GBurst) : Nat :=
  (s.bp c b.profile 19 16 + (if s.usRate c = 4 then 8 else 0)) * s.unitU c / s.preUnit c

/-- Half-width of the delimiter search of a burst in UI: `PCH_US.WIN`, or `ACT_MEM.TOL` in a slot where it is not 0 (R56, R125,
04 Table 10). -/
def State.slackUi (s : State) (c : Nat) (b : GBurst) : Nat :=
  if b.kind = .normal ∨ s.fld Reg.actMem 31 24 c = 0 then s.fld Reg.pchUs 7 0 c else (s.toUi c (s.tolDur c)).toNat

/-- Where a burst of map k may lie beside its expected phase, in UI: while a Ranging_Time message is unacknowledged, and in
maps built before the Acknowledgement, the old phase counts too (R122). -/
def State.shiftUi (s : State) (c k : Nat) (t : Term) : Option Int :=
  let ui (d : Int) : Int := s.toUi c (d * 12500 / 1024)
  match t.pending with
  | some p => some (ui ((t.eqd : Int) - p.eqd))
  | none => if k < t.newFrom then some (ui ((t.oldEqd : Int) - t.eqd)) else none

/-- What fails first in a burst's header, at either phase where two count. -/
def State.burstFault (s : State) (c k : Nat) (b : GBurst) (t : Term) (h : BurstHead) : Option Nat :=
  let slack : Int := s.slackUi c b
  match s.headFault c b.profile slack t.onuId h, s.shiftUi c k t with
  | some 0, some d => s.headFault c b.profile slack t.onuId { h with delim := h.delim.map (fun x => (x.1 - d, x.2)) }
  | f, _ => f

/-! ## LOSi, LOFi and DOWi (R62 to R65, R121 to R126) -/

/-- Defects are evaluated for a terminal in OPERATION that no move has detached (R189). -/
def State.evaluated (s : State) (c i : Nat) : Bool := (s.term c i).state == .operation && !(s.term c i).detached

/-- Entry to LOSi (R62 to R64): delineation hunts, LOFi restarts, the binding is down, a move before its detach aborts. -/
def State.losiEnter (s : State) (c i : Nat) : State :=
  let t := s.term c i
  let hidden := (s.ch c).chLos
  let t1 := { t with losi := true, losiAt := s.time.now, losiGasp := t.gasps.any id, losiHidden := hidden, delin := .hunt, conf := 0,
                     cand := none, fails := 0, lofBad := 0, lofGood := 0, recFrame := none }
  let s1 := (s.setTerm c i t1).bump .termLOSiEntries (ctxNo c i)
  let s2 := (if hidden then s1 else s1.losiReport c i false).bindingDown t.binding
  let s3 := match s2.moveFrom c i with
    | some m => if m.step < 5 then s2.abortMove m .losi else s2
    | none => s2
  if s.fld Reg.actLost 15 0 c = 0 then s3.lostTime c i else s3

/-- A granted window of a terminal has produced no valid burst (R62). -/
def State.losMiss (s : State) (c i : Nat) : State :=
  if !s.evaluated c i then s
  else
    let t := s.term c i
    let n := s.fld Reg.pchDef 7 0 c
    let s1 := s.setTerm c i { t with losCnt := t.losCnt + 1 }
    if n ≠ 0 ∧ n ≤ t.losCnt + 1 ∧ !t.losi then s1.losiEnter c i else s1

/-- A valid burst of a terminal ends LOSi (R62, R64). -/
def State.losiExit (s : State) (c i : Nat) : State :=
  let t := s.term c i
  if !t.losi then s.setTerm c i { t with losCnt := 0 }
  else
    let s1 := if t.losiHidden then s else s.losiReport c i true
    (s1.setTerm c i { t with losCnt := 0, losi := false, losiHidden := false, losiGasp := false, recFrame := none }).bindingUp t.binding

/-- A defect of a terminal is entered or left: its report. -/
def State.defReport (s : State) (c i : Nat) (cause : Cause) (exit_ : Bool) : State :=
  s.report { cls := 6, cause := cause, site := siteChannel c, obj := ctxNo c i, exit_ := exit_ }

/-- LOFi at the end of a valid burst (R62). -/
def State.lofEval (s : State) (c i : Nat) : State :=
  let t := s.term c i
  let sync := t.delin == .sync
  let bad := if sync then 0 else t.lofBad + 1
  let good := if sync then t.lofGood + 1 else 0
  let n := s.fld Reg.pchDef 15 8 c
  let clr := max 1 (s.fld Reg.pchDef 19 16 c)
  if !t.lofi ∧ n ≠ 0 ∧ n ≤ bad then
    ((s.setTerm c i { t with lofi := true, lofBad := bad, lofGood := 0 }).bump .termLOFiEntries (ctxNo c i)).defReport c i .lofi false
  else if t.lofi ∧ clr ≤ good then (s.setTerm c i { t with lofi := false, lofBad := 0, lofGood := good }).defReport c i .lofi true
  else s.setTerm c i { t with lofBad := bad, lofGood := good }

/-- Drift tracking (R121): the running average, and a Ranging_Time message where it reaches STEP. -/
def State.track (s : State) (c i : Nat) (e : Int) : State :=
  let t := s.term c i
  let avg := t.avg + (e - t.avg) / ((2 ^ s.fld Reg.actTrk 19 16 c : Nat) : Int)
  let step := s.fld Reg.actTrk 15 0 c
  let s1 := s.setTerm c i { t with avg := avg }
  if step ≠ 0 ∧ step ≤ avg.natAbs then s1.rerange c i ((t.eqd : Int) - avg) .drift else s1

/-- The phase of a valid burst of map k (R62, R65, R121, R123): DOWi entry, DOWi exit, drift. -/
def State.phaseEval (s : State) (c i k : Nat) (e : Int) : State :=
  let t := s.term c i
  if t.pending.isSome ∨ k < t.newFrom then s
  else
    let thr := s.fld Reg.pchDow 15 0 c
    if !t.dowi ∧ thr ≠ 0 ∧ thr < e.natAbs then
      (((s.setTerm c i { t with dowi := true, dowGood := 0, dowFrom := none }).bump .termDOWiEntries (ctxNo c i)).defReport c i
        .dowi false).rerange c i ((t.eqd : Int) - e) .dowi
    else if t.dowi ∧ (t.dowFrom.map (fun f => decide (f ≤ k))).getD false then
      let good := if e.natAbs ≤ s.fld Reg.pchDow 31 16 c then t.dowGood + 1 else 0
      if 2 ≤ good then ((s.setTerm c i { t with dowi := false, dowGood := 0, dowFrom := none }).defReport c i .dowi true).track c i e
      else (s.setTerm c i { t with dowGood := good }).track c i e
    else s.track c i e

/-! ## Delineation (R59, R60) -/

/-- Delineation of one payload: the terminal's state, the frames delivered, and what is counted. -/
structure Dln where
  term : Term
  frames : List XgemRx := []
  discards : Nat := 0
  errors : Nat := 0
  unknown : Nat := 0

/-- What a walk of one allocation payload works with: W, its length, HEC_CORR, CONFIRM and LOSS, the port-IDs of the terminal
and of the channel, and what the received bytes hold at each offset. -/
structure DlnCfg where
  w : Nat
  len : Nat
  corr : Nat
  confirm : Nat
  loss : Nat
  own : Nat → Bool
  known : Nat → Bool
  heads : List XgemRx

/-- The next predicted offset by the PLI received at an offset; beyond the payload where no header was read. -/
def DlnCfg.next (g : DlnCfg) (pos : Nat) (h : Option XgemRx) : Nat :=
  match h with
  | some x => pos + 8 + cdiv x.pli g.w * g.w
  | none => g.len + 1

/-- A header is valid (R59). -/
def DlnCfg.valid (g : DlnCfg) (pos corr : Nat) (h : Option XgemRx) : Bool :=
  match h with
  | some x => decide (x.hecErrs ≤ corr) && decide (g.next pos h ≤ g.len) && g.own x.portId
  | none => false

/-- The procedure of R60 from an offset on; `fuel` bounds its steps. -/
def delineate (g : DlnCfg) : Nat → Nat → Dln → Dln
  | 0, _, d => d
  | fuel + 1, pos, d =>
    if g.len < pos + 8 then d
    else
      let h := g.heads.find? (fun x => x.off == pos)
      let next := g.next pos h
      match d.term.delin with
      | .sync =>
        if g.valid pos g.corr h then
          delineate g fuel next { d with frames := d.frames ++ h.toList, term := { d.term with fails := 0 } }
        else
          let lost := match h with
            | some x => decide (x.hecErrs ≤ g.corr) && decide (next ≤ g.len) && !g.known x.portId
            | none => false
          let d1 := { d with errors := d.errors + 1, unknown := d.unknown + b2n lost }
          let fails := d.term.fails + 1
          if g.loss ≤ fails ∨ g.len < next then
            delineate g fuel (pos + g.w) { d1 with term := { d.term with fails := fails, delin := .hunt } }
          else delineate g fuel next { d1 with term := { d.term with fails := fails } }
      | .presync =>
        if g.valid pos 0 h then
          let conf := d.term.conf + 1
          let t := if g.confirm ≤ conf then { d.term with conf := conf, delin := .sync, fails := 0 } else { d.term with conf := conf }
          delineate g fuel next { d with term := t, discards := d.discards + 1 }
        else
          let back := match d.term.cand with
            | some x => x + g.w
            | none => 0
          delineate g fuel back { d with term := { d.term with delin := .hunt, cand := none } }
      | .hunt =>
        if g.valid pos 0 h then
          delineate g fuel next { d with term := { d.term with delin := .presync, conf := 0, cand := some pos }, discards := d.discards + 1 }
        else delineate g fuel (pos + g.w) d

/-- Delineates one allocation payload of terminal i of a channel: the state and the frames. -/
def State.delineateAlloc (s : State) (c i : Nat) (a : AllocRx) : State × List XgemRx :=
  let idle := Config.idlePortId (s.mode c)
  let own (p : Nat) : Bool := p == idle || ((s.xgemFind c p).map (fun e => e.2.term == i)).getD false
  let w := s.wordBytes c
  let g : DlnCfg :=
  { w := w, len := a.len, corr := min 2 (s.fld Reg.pchDln 9 8 c), confirm := s.fld Reg.pchDln 2 0 c, loss := s.fld Reg.pchDln 6 4 c,
    own := own, known := fun p => p == idle || (s.xgemFind c p).isSome, heads := a.heads }
  let d := delineate g ((a.len / w + 2) * (a.len / w + 2)) 0 { term := s.hterm c i }
  let s1 := s.updHterm c i (fun _ => { d.term with cand := none })
  (((((s1.bump .chDelineationDiscards c d.discards).bump .termDelineationDiscards (ctxNo c i) d.discards).bump .chXgemHeaderErrors c
    d.errors).bump .chUnknownPortIdDrops c d.unknown), d.frames)

/-! ## Frames of a payload (R49, R58, R135, R182, R316, R318) -/

def State.sdu (s : State) (n : Nat) : Sdu := s.sdus.get (fun _ => {}) n
def State.setSdu (s : State) (n : Nat) (x : Sdu) : State := { s with sdus := s.sdus.set (fun _ => {}) n x }

/-- Where a frame of a burst lies: channel, terminal, map and burst, the offset of its header in the FS burst, the burst's
arrival on the tick timeline, and its phase error. -/
structure RxAt where
  c : Nat
  i : Nat
  k : Nat
  j : Nat
  pos : Nat
  t0 : Int
  fec : Bool
  phase : Int
  deriving DecidableEq, Repr

/-- The payload of a frame in clear, or its drop (R316, R318). -/
def State.upPlain (s : State) (r : RxAt) (h : XgemRx) : State × Option (List Byte) :=
  let body := h.payload.take h.pli
  if h.keyIdx = 0 then (s, some body)
  else if 3 ≤ h.keyIdx then (s.bump .xKeyIdx3 r.c, none)
  else
    let t := s.hterm r.c r.i
    match (if h.keyIdx = 1 then t.key1 else t.key2) with
    | none => (s.bump .xUsKeyEmpty r.c, none)
    | some k =>
      if (s.keySlot k).cur.type ≠ 1 then ((s.bump .xUsKeyEmpty r.c).bump .keyKeyEmpty k, none)
      else
        match s.cph.reqs.find? (fun x => x.user == .upKs r.c r.k r.j h.keyIdx && x.phase == .complete) with
        | some x => (s, some (xorStream (lineStream (s.mode r.c) x.output true (sfcOf r.k) (r.pos + 8)) 0 body))
        | none => (s.bump .chKsLate r.c, none)

/-- An upstream OMCI packet goes to the channel's OMCI_RX ring under class 9 (R135, R136, R444). -/
def State.omciUp (s : State) (c i : Nat) (rec_ : FrameRec) (sdu : List Byte) : State :=
  let bytes := 48 + sdu.length
  match (List.range 1024).find? (fun r => s.ringEn r && s.ringType r == 6 && s.ringBind r == c && s.ringRuns r) with
  | none => s.bump .chOmciRingDrops c
  | some r =>
    if (buffersFor (s.posted r) bytes).isNone then (s.bump .chOmciRingDrops c).ringDeliver r 6 { rec_ := rec_, data := sdu } 9 0 (ctxNo c i)
    else s.ringDeliver r 6 { rec_ := rec_, data := sdu } 9 0 (ctxNo c i)

/-- An SDU on the OMCC port of terminal i: a tuning message, or OMCI (R135, R182). -/
def State.omccUp (s : State) (c i : Nat) (rec_ : FrameRec) (sdu : List Byte) (phase : Int) : State :=
  if 4 ≤ sdu.length ∧ byteAt sdu 3 = 0xA7 then s.tuneUp c i sdu phase else s.omciUp c i rec_ sdu

/-- Instant of an XGEM header (R411): its offset at the upstream rate, FEC parity counted. -/
def State.headerTu (s : State) (r : RxAt) : Nat :=
  let line := if !r.fec then r.pos else if s.mode r.c = 0 then r.pos + 16 * (r.pos / 232) else r.pos + 336 * (r.pos / 1824)
  (r.t0 + (line * s.unitU r.c / s.grantUnit r.c : Nat)).toNat

/-- A whole upstream SDU of a port context (R135, R182, R212). -/
def State.sduUp (s : State) (r : RxAt) (pctx opts : Nat) (p : XgemPort) (sdu : List Byte) : State :=
  let n := ctxNo r.c r.i
  let s1 := (((s.bump .chUsFrames r.c).bump .chUsBytes r.c sdu.length).bump .termUsFrames n).bump .termUsBytes n sdu.length
  let base : FrameRec :=
  { len := sdu.length, inPort := r.c, xport := p.portId, pctx := pctx, opts := opts,
    src := (s.hterm r.c r.i).binding.map (fun b => (0, b)) }
  let rec_ := base.stamped s.time (s.headerTu r)
  if p.omcc then s1.omccUp r.c r.i rec_ sdu r.phase else s1.enterSlice (r.c / 24) r.c { rec_ := rec_, data := sdu }

/-- One frame that delineation delivers. -/
def State.takeFrame (s : State) (r : RxAt) (h : XgemRx) : State :=
  if h.portId = Config.idlePortId (s.mode r.c) then (if h.bad then s.bump .xBadCodeword r.c else s)
  else
    match s.xgemFind r.c h.portId with
    | none => if h.bad then s.bump .xBadCodeword r.c else s
    | some (n, p) =>
      let x := s.sdu n
      let skip (s : State) : State := s.setSdu n { skip := !h.last }
      if h.bad then skip (s.bump .xBadCodeword r.c)
      else
        match s.upPlain { r with pos := r.pos + h.off } h with
        | (s1, none) => skip s1
        | (s1, some body) =>
          let all := x.bytes ++ body
          if x.skip then skip s1
          else if 16383 < all.length then skip (s1.bump .chOversizeSduDrops r.c)
          else if !h.last then s1.setSdu n { bytes := all }
          else (s1.setSdu n {}).sduUp { r with pos := r.pos + h.off } n h.opts p all

/-! ## Reports (R58, R155, R156) -/

/-- Bytes of a structure: its grant less the DBRu. -/
def State.granted (s : State) (c : Nat) (x : AStruct) : Nat := x.size * s.grantUnit c - 4 * b2n x.dbru

/-- Bytes granted to context j in the maps after map k. -/
def State.grantedAfter (s : State) (c k j : Nat) : Nat :=
  (((s.gntCh c).maps.filter (fun m => decide (k < m.k))).map (fun m => (m.bursts.map (fun b =>
    ((b.structs.filter (fun x => x.ctx == some j)).map (s.granted c)).foldl (· + ·) 0)).foldl (· + ·) 0)).foldl (· + ·) 0

/-- A new figure for the demand of a context, from a burst of map k. -/
def State.setDemand (s : State) (c k j value : Nat) : State :=
  s.setAlloc c j { s.alloc c j with demand := value - s.grantedAfter c k j }

/-- The DBRu and the idle bytes of an allocation (R58, R155, R156). -/
def State.demandOf (s : State) (c i k : Nat) (x : AStruct) (a : AllocRx) (idle : Nat) : State :=
  let s1 := match (if x.dbru then a.dbru else none) with
    | some (_, false) => s.bump .chDBRuCrcFailures c
    | some (v, true) => if v = 0xFFFFFF then s.bump .xReportBad c else s
    | none => s
  match x.ctx with
  | none => s1
  | some j =>
    let sla := s.slaOf c j
    if !(sla.valid && sla.term == i && sla.allocId == x.allocId) then s1
    else if sla.tm then
      let g := s.granted c x
      let u := g - idle
      s1.setDemand c k j (if g = 0 then 0 else if idle = 0 then min (2 * g) (s.usFrameBytes c) else u + u / 8)
    else
      match (if x.dbru then a.dbru else none) with
      | some (v, true) => if v = 0xFFFFFF then s1 else s1.setDemand c k j (v * Config.dbruUnit (s.mode c))
      | _ => s1

/-- The allocations of a burst, in order: delineation, its frames, and the demand. -/
def State.takeAllocs : List AStruct → List AllocRx → RxAt → State → State
  | x :: xs, a :: as, r, s =>
    let pos := r.pos + 4 * b2n x.dbru
    let d := s.delineateAlloc r.c r.i a
    let s1 := d.2.foldl (fun s h => s.takeFrame { r with pos := pos } h) d.1
    let idle := ((d.2.filter (fun h => h.portId == Config.idlePortId (s.mode r.c))).map (fun h => 8 + s.padded r.c h.pli)).foldl (· + ·) 0
    State.takeAllocs xs as { r with pos := pos + a.len } (s1.demandOf r.c r.i r.k x a idle)
  | _, _, _, s => s

/-! ## One burst (R56, R57) -/

/-! ## The receiver (R56, R106) -/

/-- When the first byte of the FS burst header of a burst is expected: T0, or the predicted arrival of a directed slot (R129). -/
def State.expectedT0 (s : State) (c k : Nat) (b : GBurst) : Nat :=
  match b.kind, (b.term.map (fun i => (s.term c i).step)) with
  | .directed, some (.window o _ _) => o + s.slackDur c
  | _, _ => s.burstT0 c k b

/-- A burst for which the receiver wakes by itself: every granted burst, but not the responses of quiet windows. -/
def GBurst.wakes (b : GBurst) : Bool := b.onLine || b.kind == .directed

/-- The receiver has left, or leaves, Freewheel for a burst that is not over (R56 step 1). -/
def State.awakeFor (s : State) (c k : Nat) (b : GBurst) : Bool :=
  !b.settled && b.wakes && decide (s.expectedT0 c k b ≤ s.tu + 512 * nsU + s.burstP c b)

/-- The opened quiet windows of a channel: opening and close on the tick timeline. A directed slot is none (R130). -/
def State.quietOpen (s : State) (c : Nat) : List (Nat × Nat) :=
  let rng := (s.termsOf c).filterMap (fun e => match e.2.step with
    | .window o z _ => if e.2.remembered then none else some (o, z)
    | _ => none)
  (((s.ch c).disc.map (fun w => (w.opens, w.closes))) ++ rng).filter (fun w => decide (w.1 ≤ s.tu) && decide (s.tu ≤ w.2))

/-- The receiver enters Freewheel, unless another burst or an open quiet window needs it (R56 step 8, R106). -/
def State.receiverRest (s : State) (c : Nat) : State :=
  if !(s.quietOpen c).isEmpty || (s.gntCh c).maps.any (fun m => m.bursts.any (s.awakeFor c m.k)) then s
  else s.updCh c (fun p => { p with receiver := .stopped })

/-- A burst is over for its receiver (R56 step 8). -/
def State.burstOver (s : State) (c k j : Nat) : State := (s.settle c k j).receiverRest c

/-- A granted burst that is not valid counts towards LOSi, but in an arrival slot (R62, R189). -/
def State.burstMissed (s : State) (c k j : Nat) (b : GBurst) : State :=
  let s1 := s.burstOver c k j
  match b.kind, b.term with
  | .arrival, _ => s1
  | _, some i => s1.losMiss c i
  | _, none => s1

/-- The Ind bits and the BIP of a valid burst (R57, R63, R66). -/
def State.burstMarks (s : State) (c i : Nat) (r : BurstRx) : State :=
  let n := ctxNo c i
  let gasp := bit r.head.ind 0
  let s1 := s.updHterm c i (fun t => { t with gasps := (gasp :: t.gasps).take 3, wantPloamu := bit r.head.ind 8 })
  let s2 := s1.bump .termBip32ErrorBits n r.bipErrs
  let s3 := s2.bump .chUncorrectableCodewords c r.badCodewords
  if gasp then ((s3.bump .termDyingGasps n).bump .xGasp n).event 0x19 n [] else s3

/-- A valid burst of terminal i in map k, burst j. -/
def State.burstValid (s : State) (c k j i : Nat) (b : GBurst) (r : BurstRx) : State :=
  let eval := b.kind != .arrival && s.evaluated c i
  let rx : RxAt :=
  { c := c, i := i, k := k, j := j, pos := 4 + 48 * b2n b.ploamu,
    t0 := (s.burstT0 c k b : Int) + r.phase * 12500 / 1024, fec := s.flg (Reg.pchBpCtl b.profile) 20 c, phase := r.phase }
  let s1 := ((s.burstOver c k j).validBurst c (if eval then some i else none)).burstMarks c i r
  let s2 := if eval then s1.losiExit c i else s1
  let s3 := State.takeAllocs b.structs r.allocs rx s2
  if !(eval && s3.evaluated c i) then s3
  else
    let s4 := s3.lofEval c i
    if b.kind == .recovery then s4.rerange c i (((s4.term c i).eqd : Int) - r.phase) .recovery else s4.phaseEval c i k r.phase

/-- BURST_RECEIVED (R56, R57): burst j of map k, once its interval has begun. -/
def State.burstRx (s : State) (c k j : Nat) (r : BurstRx) : State :=
  match s.mapBurst c k j with
  | none => s
  | some b =>
    match b.term with
    | none => s
    | some i =>
      if b.settled || !b.onLine || decide (s.tu < s.absToTu c (s.absUnit c k b.first)) then s
      else
        match s.burstFault c k b (s.hterm c i) r.head with
        | some n => (s.countHead c n).burstMissed c k j b
        | none => s.burstValid c k j i b r

/-- DELIMITER_WINDOW_CLOSE (R56 steps 4 and 8). -/
def State.windowClose (s : State) (c k j : Nat) : State :=
  match s.mapBurst c k j with
  | none => s
  | some b =>
    if b.settled || !b.onLine || decide (s.tu + s.delimDur c b < s.burstT0 c k b + s.uiDur c (s.slackUi c b)) then s
    else (s.countHead c 0).burstMissed c k j b

/-- BURST_RECEIVER_WAKE (R56 steps 1 and 2, R67). -/
def State.receiverWake (s : State) (c k j : Nat) : State :=
  match s.mapBurst c k j with
  | none => s
  | some b =>
    let at_ := s.expectedT0 c k b - s.burstP c b
    if !s.awakeFor c k b then s
    else
      let lead := s.fld Reg.pchBrst 15 8 c + s.fld Reg.pchBrst 7 0 c
      (s.updCh c (fun p => { p with receiver := .running })).brstAt c (at_ - lead * cycleU)

/-! ## Quiet windows and the RSSI trigger (R67, R69) -/

/-- QUIET_WINDOW_START (R67, R69, R106): the receiver is armed; an armed dark measurement has its window. -/
def State.quietStart (s : State) (c : Nat) : State :=
  match s.quietOpen c with
  | [] => s
  | w :: _ =>
    let at_ := s.time.now - (s.tu - w.1)
    let mark (a : RssiArmed) : RssiArmed :=
      if a.dark && a.window.isNone && decide (a.at_ ≤ at_) && decide (at_ ≤ a.at_ + 10 * msU) then { a with window := some w.1 } else a
    (s.updCh c (fun p => { p with receiver := .running, rssi := p.rssi.map mark })).brstAt c w.1

/-- The suitable burst or window of an armed measurement, within 10 ms of its arming: its first delimiter bit, or its start (R69). -/
def State.rssiMeet (s : State) (c : Nat) (a : RssiArmed) : Option Nat :=
  let delay := s.fld Reg.pchRssi 15 0 c * nsU
  let width := s.fld Reg.pchRssi 31 16 c * nsU
  let armed := s.tu - (s.time.now - a.at_)
  let ok (x : Nat) : Option Nat := if armed ≤ x ∧ x ≤ armed + 10 * msU ∧ x ≤ s.tu then some x else none
  if a.dark then a.window.orElse (fun _ => (s.quietOpen c).findSome? (fun w => ok w.1))
  else
    let one (m : GMap) (b : GBurst) : Option Nat :=
      let d := s.burstT0 c m.k b - s.delimDur c b
      if b.onLine && ((b.term.map (fun i => (s.hterm c i).onuId == a.onuId)).getD false)
          && decide (d + delay + width ≤ s.absToTu c (s.absUnit c m.k b.stop)) then ok d
      else none
    (s.gntCh c).maps.findSome? (fun m => m.bursts.findSome? (one m))

/-- The start of the trigger of an armed measurement, where its point has come (R69). -/
def State.rssiPoint (s : State) (c : Nat) (a : RssiArmed) : Option Nat :=
  (s.rssiMeet c a).bind (fun x => if x + s.fld Reg.pchRssi 15 0 c * nsU ≤ s.tu then some (x + s.fld Reg.pchRssi 15 0 c * nsU) else none)

/-- RSSI_TRIGGER (R69). -/
def State.rssiTrigger (s : State) (c : Nat) : State :=
  match (s.ch c).rssi with
  | none => s
  | some a =>
    match s.rssiPoint c a with
    | none => s
    | some x =>
      ((s.updCh c (fun p => { p with rssi := none })).emit (.rssi c (s.nowAt x) (s.fld Reg.pchRssi 31 16 c))).finish a.slot Status.ok 0

/-- RSSI_TIMEOUT (R69). -/
def State.rssiTimeout (s : State) (c : Nat) : State :=
  match (s.ch c).rssi with
  | none => s
  | some a =>
    if s.time.now < a.at_ + 10 * msU ∨ (s.rssiMeet c a).isSome then s
    else (s.updCh c (fun p => { p with rssi := none })).finish a.slot Status.rssiTimeout 0

/-! ## The end of an upstream frame (R62, R119, R139) -/

/-- The granted windows of a map that end without a burst. -/
def State.missAll (s : State) (c : Nat) (m : GMap) : State :=
  (List.range m.bursts.length).foldl (fun (s : State) (j : Nat) =>
    match s.mapBurst c m.k j with
    | some b => if b.settled || !b.onLine then s else (s.countHead c 0).burstMissed c m.k j b
    | none => s) s

/-- CH_LOS at the end of an upstream frame (R62). -/
def State.chLosEval (s : State) (c : Nat) (granted : Bool) : State :=
  let p := s.ch c
  let n := if granted && !p.frameValid then p.losFrames + 1 else 0
  let s1 := s.setCh c { p with losFrames := n, frameValid := false }
  if 3 ≤ n ∧ !p.chLos then (s1.updCh c (fun p => { p with chLos := true })).chLosReport c false else s1

/-- A burst is a granted window (R62): any allocation to a terminal, but for quiet windows and arrival slots (R189). DEDUCED (log
entry 76): a directed slot is an allocation to its terminal, and no quiet window (R130). -/
def GBurst.grantedWindow (b : GBurst) : Bool :=
  match b.kind with
  | .normal | .recovery | .directed => b.term.isSome
  | .serialNumber | .ranging | .arrival => false

/-- The keystream of bursts up to map k is no longer needed. -/
def State.dropUpKs (s : State) (c k : Nat) : State :=
  let old (r : CphReq) : Bool := match r.user with
    | .upKs c' k' _ _ => c' == c && decide (k' ≤ k) && r.phase == .complete
    | _ => false
  let past (r : CphReq) : Bool := match r.user with
    | .upKs c' k' _ _ => c' == c && decide (k' ≤ k)
    | _ => false
  { s with cph := { s.cph with reqs := s.cph.reqs.filter (fun r => !old r), waiting := s.cph.waiting.filter (fun r => !past r) } }

/-- Terminals whose Acknowledgement was due by map k (R119). -/
def State.ackMissing (s : State) (c k : Nat) : State :=
  let due (t : Term) : Bool := t.state == .ranging && (match t.step with
    | .ackDue m => decide (m ≤ k)
    | _ => false)
  ((s.termsOf c).filter (fun e => due e.2)).foldl (fun s e => s.rangingMissed c e.1) s

/-- UPSTREAM_FRAME_END: upstream frame k of a channel has ended in the received timeline. -/
def State.upFrameEnd (s : State) (c k : Nat) : State :=
  if k < (s.ch c).upFrame ∨ s.tu < (k + 1) * frameU + teqdU then s
  else
    let ms := (s.gntCh c).maps.filter (fun m => decide (m.k ≤ k))
    let granted := ms.any (fun m => m.bursts.any GBurst.grantedWindow)
    let s1 := ms.foldl (fun s m => s.missAll c m) s
    let s2 := ((s1.chLosEval c granted).ackMissing c k).moveFrameEnd c k
    let s3 := (s2.updGnt c (fun g => { g with maps := g.maps.filter (fun m => decide (k < m.k)) })).dropUpKs c k
    s3.updCh c (fun p => { p with upFrame := k + 1 })

/-! ## Upstream keystream (R318) -/

/-- Keystream is requested for the bursts of map k at its snapshot, one request a burst and key index. -/
def State.requestUpKs (s : State) (c k : Nat) : State :=
  let bs := (((s.gntCh c).maps.find? (fun m => m.k == k)).map (·.bursts)).getD []
  (List.range bs.length).foldl (fun (s : State) (j : Nat) =>
    match bs[j]? with
    | none => s
    | some b =>
      match b.onLine, b.term with
      | true, some i =>
        let t := s.hterm c i
        let len := (b.structs.map (fun x => x.size * s.grantUnit c)).foldl (· + ·) 0
        let one (idx : Nat) (slot : Option Nat) (s : State) : State :=
          match slot with
          | none => s
          | some q =>
            if (s.keySlot q).cur.type ≠ 1 ∨ len = 0 then s
            else s.offerReq { id := 0, user := .upKs c k j idx, slice := c / 24, queuedAt := 0, rx := some (s.bindSlot q), len := len }
        one 2 t.key2 (one 1 t.key1 s)
      | _, _ => s) s

end Sys2Proof.Machine
end

