-- ==== Sys2Proof/Machine/Time.lean ====
section
/-! DEFINITION. Machine/Time.lean: time and synchronisation (15): TIME_SET, latches, PPS, the reference monitor,
TOD_QUERY, stamps. The recovered-clock outputs stand with the uplinks. -/

namespace Sys2Proof.Machine

/-- One presented second, in 2^-16 ns. -/
def secP : Nat := 1000000000 * 65536

/-- A stamp as rings carry it (16 Table 7): TICK (80 bits), FRAC. -/
def stampTick (tick frac : Nat) : List Byte := toLe 10 tick ++ toLe 1 frac

/-- A presented time as rings carry it: SEC, NS, SUB. -/
def stampTime (p : Int) : List Byte :=
  let x := splitTime p
  toLe 8 x.1 ++ toLe 4 x.2.1 ++ toLe 2 x.2.2

/-! ## TIME_SET -/

/-- The full tick of a take-effect tick given by its low 64 bits, at or before the present one. -/
def TimeSt.fullTick (ts : TimeSt) (at_ : Nat) : Nat := ts.tick - (ts.tick + 2 ^ 64 - at_ % 2 ^ 64) % 2 ^ 64

/-- How many ticks a take-effect tick lies ahead; 0 when it is not later than the counter (R407, checks 4 and 5). -/
def TimeSt.ahead (ts : TimeSt) (at_ : Nat) : Nat :=
  let d := (at_ + 2 ^ 64 - ts.tick % 2 ^ 64) % 2 ^ 64
  if d < 2 ^ 63 then d else 0

/-- Applies a TIME_SET at its tick T_E (R406): the new parameters, or none where check 6 of R407 fails. -/
def TimeSt.apply (ts : TimeSt) (x : TimeSet) (te : Nat) : Option TimeSt :=
  let p := ts.present (te * 256)
  match x.op with
  | 0 => some { ts with off := ((x.sec * 1000000000 + x.ns) * 65536 + x.sub : Nat), tA := te }
  | 1 => if p + x.delta < 0 then none else some { ts with off := p + x.delta, tA := te }
  | _ => some { ts with off := p, tA := te, adj := x.adj }

/-- The reading of a TIME_SET buffer (R406). -/
def timeSetOf (slot : Nat) (b : List Byte) : TimeSet :=
  { slot := slot, at_ := leAt b 8 8, op := byteAt b 0, sec := leAt b 16 8, ns := leAt b 24 4, sub := leAt b 28 2,
    delta := signed 64 (leAt b 16 8) * 65536 + leAt b 28 2, adj := signed 40 (leAt b 32 5) }

/-- TIME_STEP, with the presented time of T_E before and after (R406). -/
def State.timeStepEvent (s : State) (id : Nat) (old new : Int) : State :=
  (s.eventOf id { code := 0x62, source := 0, tick := s.time.tick % 2 ^ 64, body := stampTime old ++ stampTime new }).raise 4 2

/-- A TIME_SET takes effect at tick T_E: the new state and its status (R406, R407). -/
def State.timeSetApply (s : State) (x : TimeSet) (te : Nat) : State × Nat :=
  match s.time.apply x te with
  | none => (s, Status.timeBad)
  | some ts =>
    let old := s.time.present (te * 256)
    let s1 := if x.op ≤ 1 then ({ s.settleAllGates with time := ts }).refindGates else { s with time := ts }
    let s2 :=
      if x.op = 0 then s1.timeStepEvent x.slot old (ts.present (te * 256))
      else if x.op = 1 then (if x.delta = 0 then s1 else s1.timeStepEvent x.slot old (ts.present (te * 256)))
      else s1.bump .xTimeRate 0
    (s2, Status.ok)

/-- TIME_SET (R406, R407). -/
def opTimeSet (x : Slot) (s : State) : Turn :=
  if s.time.pending.any (fun p => p.slot == x.id) then (s, .wait)
  else
    withLen x 40 s fun b =>
      let p := timeSetOf x.id b
      checks [(decide (p.op ≥ 3) || (p.op == 0 && decide (p.ns ≥ 1000000000)), Status.timeBad),
        (p.at_ != 0 && s.time.ahead p.at_ == 0, Status.timeLate),
        (p.at_ != 0 && decide (s.time.ahead p.at_ > 2 ^ 24), Status.timeRange)] s fun _ =>
        if p.at_ = 0 then
          let r := s.timeSetApply p s.time.tick
          (r.1, .done r.2 0)
        else ({ s with time := { s.time with pending := s.time.pending ++ [p] } }, .wait)

/-- The pending TIME_SET that is due first: earliest tick, then first fetched (R407). -/
def TimeSt.nextDue (ts : TimeSt) : Option TimeSet :=
  (ts.pending.filter (fun p => ts.ahead p.at_ == 0)).foldl (fun m p =>
    match m with
    | none => some p
    | some q =>
      let a := ts.fullTick p.at_
      let b := ts.fullTick q.at_
      if a < b ∨ (a = b ∧ p.slot < q.slot) then some p else some q) none

/-- Takes the pending TIME_SETs that are due, in their order; `n` bounds their number. -/
def State.takeTimeSets : Nat → State → State
  | 0, s => s
  | n + 1, s =>
    match s.time.nextDue with
    | none => s
    | some p =>
      let te := s.time.fullTick p.at_
      let s1 := { s with time := { s.time with pending := s.time.pending.filter (fun q => q.slot != p.slot) } }
      let r := s1.timeSetApply p te
      (r.1.finish p.slot r.2 0).takeTimeSets n

/-! ## Latches, PPS and the reference -/

/-- TIM_LATCH (R410): GO latches the counter and the presented time of the path's own copy. -/
def State.timeLatch (s : State) (path : Path) (value : Nat) : State :=
  if !bit value 0 then s
  else
    let x := splitTime s.time.presentNow
    let l : TimeLatch := { tick := s.time.tick, sec := x.1, ns := x.2.1, sub := x.2.2 }
    match path with
    | .host => { s with time := { s.time with hostLatch := l } }
    | .mgmt => { s with time := { s.time with mgmtLatch := l } }

/-- The advancing presented time has just reached a whole second (R416; placed to 1/256 tick). -/
def TimeSt.wholeSecond (ts : TimeSt) : Bool :=
  let t := ts.now256
  decide (ts.present t / (secP : Int) > ts.present ((t : Int) - 1) / (secP : Int))

/-- PPS_OUT rises (R416). -/
def State.ppsRise (s : State) : State :=
  let width := min (s.fld Reg.timPps 31 16) 999
  if s.flg Reg.timPps 0 && width != 0 && s.time.refOk && !s.life.por && s.time.wholeSecond then
    ({ s with time := { s.time with ppsOut := true, ppsFall := s.time.now + width * msU } }).emit (.ppsOut true)
  else s

/-- PPS_OUT falls WIDTH ms after it rose (R416). -/
def State.ppsEnd (s : State) : State :=
  if s.time.ppsOut && decide (s.time.ppsFall ≤ s.time.now) then
    ({ s with time := { s.time with ppsOut := false } }).emit (.ppsOut false)
  else s

/-- An edge of PPS_IN (R417). -/
def State.ppsInEdge (s : State) (rising : Bool) : State :=
  if !(s.flg Reg.timPps 1 && rising != s.flg Reg.timPps 2) then s
  else
    let early := match s.time.ppsIn with
      | some l => decide (s.time.now < l + 500 * msU)
      | none => false
    if early then s.bump .xPpsInEarly 0
    else
      (({ s with time := { s.time with ppsIn := some s.time.now } }).event 0x61 0
        (stampTick s.time.tick (s.time.now256 % 256) ++ stampTime s.time.presentNow)).raise 4 1

/-- REFCLK_PON edges have not come for 1 µs: the counter stands since then (R403). -/
def State.refLost (s : State) : State :=
  if s.time.refOk then
    (({ s with time := { s.time with refOk := false } }).report { cls := 9, cause := .timRefLost, site := siteTime }).raise 4 0
  else s

/-- Edges arrive again (R403). -/
def State.refReturn (s : State) : State :=
  if s.time.refOk then s
  else ({ s with time := { s.time with refOk := true } }).report { cls := 9, cause := .timRefLost, site := siteTime, exit_ := true }

/-! ## TOD_QUERY -/

/-- D of a channel's mode in ns (R46, R80). -/
def State.chanDelay (s : State) (c : Nat) : Nat := if s.fld Reg.pchCfg 1 0 c = 2 then 704 else 640

/-- The frame of R418 whose count has low bits N, if one starts between 1 ms and 16.384 s from now. -/
def TimeSt.todFrame (ts : TimeSt) (n : Nat) : Option Nat :=
  let f0 := cdiv ((ts.tick + 155520) * tickU + ts.tickFrac) (19440 * tickU)
  let f := f0 + (n + 2 ^ 32 - f0 % 2 ^ 32) % 2 ^ 32
  if f * 19440 * tickU ≤ (ts.tick + 131072 * 19440) * tickU + ts.tickFrac then some f else none

/-- TOD_QUERY (R418). -/
def opTodQuery (x : Slot) (s : State) : Turn :=
  withLen x 4 s fun b =>
    checks [(decide (x.spec > 191), Status.chRange), (!s.flg Reg.pchCtrl 0 x.spec, Status.todChOff)] s fun _ =>
      match s.time.todFrame (leAt b 0 4) with
      | none => s.fails Status.todRange
      | some f =>
        let p := s.time.present (19440 * f * 256) + ((s.chanDelay x.spec * 65536 : Nat) : Int)
          + ((s.fld Reg.timChDly 15 0 x.spec * 65536 / 1000 : Nat) : Int)
        s.returns x Status.ok 32 (toLe 8 f ++ toLe 10 (19440 * f) ++ stampTime p)

end Sys2Proof.Machine
end

