-- ==== Sys2Proof/Machine/Egress.lean ====
section
/-! DEFINITION. Machine/Egress.lean: the scheduler picks of channels and uplink ports (R283 to R297, R390), the egress
header edit (R219, R281), and the frame's way to its framer or MAC (R314, R414, R415). -/

namespace Sys2Proof.Machine

/-! ## The egress header edit -/

/-- A one's complement sum folded into 16 bits. -/
def foldSum (n : Nat) : Nat := let m := n % 65536 + n / 65536; m % 65536 + m / 65536

/-- DSCP of the outer IP header; the checksum of an IPv4 header follows (log entry 40). -/
def setDscp (a : Parse) (d : Nat) (f : List Byte) : List Byte :=
  match a.l3, a.l3t with
  | some o, 1 =>
    let old := beAt f o 2
    let new := old / 256 * 256 + d * 4 + old % 4
    let sum := foldSum ((65535 - beAt f (o + 10) 2) + (65535 - old) + new)
    putAt (putAt f o (toBe 2 new)) (o + 10) (toBe 2 (65535 - sum))
  | some o, 2 =>
    let old := beAt f o 2
    let tc := old / 16 % 256
    putAt f o (toBe 2 (old - 16 * tc + 16 * (d * 4 + tc % 4)))
  | _, _ => f

/-- The egress header edit of a frame whose input is clear (R219, R222, R281, R335): EDIT of the final pass, SET_DSCP, DEI. -/
def State.egressEdit (s : State) (sl : Nat) (p : Pkt) : State × List Byte :=
  let r := p.rec_
  let e := applyEdit (s.parse sl p) r.edit r.vid r.tc p.data
  let s1 := if e.2 then s.bump .slcEditAnomalies sl else s
  let f := match r.dscp with
    | some d => setDscp (parseFrame (s.parseCfg sl) e.1) d e.1
    | none => e.1
  s1.markDei sl r.yellow f

/-! ## The line of an uplink port -/

/-- Where the PTP message of a Sync that one-step handling takes begins, and its UDP header if it has one (R415). -/
def oneStepAt (a : Parse) (f : List Byte) : Option (Nat × Option Nat) :=
  let o := 14 + 4 * a.tcis.length
  if a.tcis.length > 2 then none
  else if a.etype = 0x88F7 then (if byteAt f o % 16 = 0 ∧ o + 44 ≤ f.length then some (o, none) else none)
  else
    match a.l4 with
    | some u =>
      if a.l3t = 1 ∧ a.proto = 17 ∧ a.dport = 319 ∧ byteAt f (u + 8) % 16 = 0 ∧ u + 52 ≤ f.length then some (u + 8, some u) else none
    | none => none

/-- The egress stamp written into a Sync message: originTimestamp, correctionField, UDP checksum 0 (R415). -/
def writeOneStep (x : Nat × Option Nat) (p : Int) (f : List Byte) : List Byte :=
  let t := splitTime p
  let g := putAt (putAt f (x.1 + 34) (toBe 6 t.1 ++ toBe 4 t.2.1)) (x.1 + 8) (toBe 8 (beAt f (x.1 + 8) 8 + t.2.2))
  match x.2 with
  | some u => putAt g (u + 6) (toBe 2 0)
  | none => g

/-- A frame reaches the egress MAC of a port: its stamp (R411, R414, R415), its counters, the line. -/
def State.lineUplink (s : State) (p : Nat) (pkt : Pkt) (f : List Byte) : State :=
  let r := pkt.rec_
  let sl := s.portSlice p
  let stamp := s.time.presentNow + ((s.fld Reg.timUplDly 31 16 p * nsP / 1000 : Nat) : Int)
  let one := if r.oneStep && !(s.msecTxOf p).en then oneStepAt (parseFrame (s.parseCfg sl) f) f else none
  let demoted := r.oneStep && one.isNone
  let g := match one with
    | some x => writeOneStep x stamp f
    | none => f
  let s1 := (((s.bump .uplTxFrames p).bump .uplTxBytes p g.length).bwAdd (192 + p) true g.length).emit (.uplink p g)
  let s2 := if demoted then s1.bump .uplOneStepDemoted p else s1
  let s3 := match r.svc with
    | some v => (s2.bump .svcEgressFrames v).bump .svcEgressBytes v r.len
    | none => s2
  let s4 := if r.tsReq || demoted then
      s3.txStamp pkt (stampTick s.time.tick (s.time.now256 % 256) ++ stampTime stamp) 0
    else s3
  s4.sampleRecord pkt false (192 + p) 0 (some s.time.now)

/-! ## The line of a channel -/

/-- Key index of a downstream frame (R315): TX_INDEX of its terminal on a port context with ENC, or of the broadcast key. -/
def State.dsKeyIdx (s : State) (q portId : Nat) : Nat :=
  let c := queuePort q
  if q < 0x80000 then
    match s.xgemFind c portId with
    | some (_, x) => if x.enc then (s.term c (q / 8 % 256)).txIndex else 0
    | none => 0
  else (s.ch c).bcastTx

/-- The XGEM port-ID of a downstream frame: of its seal endpoint, of the OAM endpoint or multicast member that made it; where
none of these names one, the spec does not say which: a free choice among the terminal's port contexts (log entry 41). -/
def State.dsPortId (s : State) (q : Nat) (sealed_ : Bool) (p : Pkt) (given : Option Nat) : State × Nat :=
  let c := queuePort q
  let ep := if sealed_ then (s.queueBinding q).bind (fun b => s.epFind b (p.rec_.svc.getD 0)) else none
  match ep, given with
  | some e, _ => (s, (s.ep e).dsPort)
  | none, some g => (s, g)
  | none, none =>
    let x := s.takeFree
    let ports := if q < 0x80000 then (s.portsOf c (q / 8 % 256)).map (fun (e : Nat × XgemPort) => e.2.portId) else []
    (x.2, if ports.isEmpty then x.1 % 65536 else (ports.drop (x.1 % ports.length)).headD 0)

/-- A frame reaches the framer of its channel (R49, R50). -/
def State.lineChan (s : State) (q : Nat) (pkt : Pkt) (f : List Byte) (portId : Nat) : State :=
  let c := queuePort q
  let s1 := match pkt.rec_.svc with
    | some v => (s.bump .svcEgressFrames v).bump .svcEgressBytes v pkt.rec_.len
    | none => s
  let s2 := s1.sampleRecord pkt false c 0 (some s.time.now)
  s2.putSdu c { queue := q, portId := portId, keyIdx := s.dsKeyIdx q portId, rest := f, len := f.length }

/-! ## A picked frame leaves its queue -/

/-- What a frame needs before its line (R334). -/
structure PassNeed where
  input : Form
  output : Form
  deriving DecidableEq, Repr

def PassNeed.any (n : PassNeed) : Bool := n.input != .clear || n.output != .clear

def State.passNeed (s : State) (q : Nat) (p : Pkt) : PassNeed :=
  { input := s.inputForm (s.queueSlice q) p, output := s.outputForm q p }

/-- Frame length and the growth of the pass after the queue (R283). -/
def State.grownLen (s : State) (q : Nat) (f : QFrame) : Nat :=
  let n := s.passNeed q f.pkt
  ((f.pkt.rec_.len : Int) + s.passGrowth (s.queueSlice q) q n.input n.output f.pkt).toNat

/-- Shaped length of a frame (R283): with the XGEM header and padding, or with `TM_CFG.UPL_OVH`. -/
def State.shapedLen (s : State) (q : Nat) (f : QFrame) : Nat :=
  let port := queuePort q
  if port < 192 then 8 + s.padded port (s.grownLen q f)
  else s.grownLen q f + s.fld Reg.tmCfg 23 16 (s.portSlice (port - 192))

/-- Gate target and gate of a queue (R294): its index at a port, its class at a channel. -/
def gateTarget (q : Nat) : Nat := if queuePort q < 192 then 64 + queuePort q else queuePort q - 192
def gateIndex (q : Nat) : Nat := if queuePort q < 192 then q % 8 else (q - 0x80000) % 32

/-- Transmit time of a shaped length, in 2^-16 ns (R292, R295). -/
def State.sendTime (s : State) (q len : Nat) : Nat :=
  let port := queuePort q
  if port < 192 then cdiv (len * 125000 * nsP) (s.fsBytes port) else cdiv (len * 8000 * nsP) (s.macRate (port - 192))

/-- The head frame leaves its queue: its cells, the prefetch buffer's, and panic (R389). -/
def State.popHead (s : State) (q : Nat) : State :=
  let e := s.queue q
  match e.frames with
  | [] => s
  | f :: fs =>
    let port := queuePort q
    let s1 := (s.cbsSettle q).setQueue q { e with frames := fs }
    let s2 := if fs.isEmpty then s1.dwrrClear (itemKey q) else s1
    ({ s2 with hbm := { s2.hbm with prefetch := s2.hbm.prefetch.upd (fun _ => 0) port (· - f.ready) } }).panicUpdate port

/-- The head of a queue is dropped as GATE_OVERSIZE while it can never fit its gate (R296); `n` bounds how many. -/
def State.dropOversize (q : Nat) : Nat → State → State
  | 0, s => s
  | n + 1, s =>
    match (s.queue q).frames with
    | [] => s
    | f :: _ =>
      if !s.gateOversize (gateTarget q) (gateIndex q) (s.sendTime q (s.shapedLen q f)) then s
      else
        let port := queuePort q
        let s1 := if port < 192 then s.bump .xGateOversize (itemKey q) else s.bumpQueue q 7
        let x := s1.takeFree
        State.dropOversize q n ((x.2.popHead q).dropPkt f.pkt port (if port < 192 then x.1 % 2 ^ 32 else 7))

/-- A picked frame goes on: through the cipher subsystem, or straight to its line (R335). -/
def State.sendHead (s : State) (q : Nat) (f : QFrame) : State :=
  let port := queuePort q
  let sl := s.queueSlice q
  let tag := f.pkt.rec_.tag.map (fun g => { g with pick := some s.time.now })
  let pkt := { f.pkt with rec_ := { f.pkt.rec_ with tag := tag } }
  let n := s.passNeed q pkt
  let s1 := ((s.popHead q).bumpQueue q 2).bumpQueue q 3 pkt.rec_.len
  let s2 := s1.updSlice sl (fun x => { x with lastUse := s.time.now })
  let e := if n.input = .clear then s2.egressEdit sl pkt else (s2, pkt.data)
  let p := if port < 192 then e.1.dsPortId q (n.output == .sealed) pkt f.portId
    else (e.1, (e.1.msecTxOf (port - 192)).an)
  if n.any then p.1.queuePass q n.input n.output { pkt with data := e.2 } p.2
  else if port < 192 then p.1.lineChan q pkt e.2 p.2
  else p.1.lineUplink (port - 192) pkt e.2

/-! ## Eligibility -/

/-- The head of a queue may be picked: on die, its gate open and long enough, and room for its pass (R295, R303, R390). -/
def State.headReady (s : State) (q : Nat) (f : QFrame) : Bool :=
  f.spill == 0 && s.gateFits (gateTarget q) (gateIndex q) (s.sendTime q (s.shapedLen q f))
    && !((s.passNeed q f.pkt).any && s.frameQueueFull (s.queueSlice q))

/-- An eligible class or port queue: its head, where its shaper and the head allow it (R285, R291). -/
def State.eligibleHead (s : State) (q : Nat) : Option QFrame :=
  match (s.queue q).frames with
  | [] => none
  | f :: _ => if s.shaperOk (itemKey q) && s.headReady q f then some f else none

/-- The queues of a list at the highest LEVEL with an eligible one, as DWRR items; `base` gives their scheduling records. -/
def State.topItems (s : State) (sched : Nat → Sched) (qs : List Nat) : List (Nat × QFrame) × Nat :=
  let el := qs.filterMap (fun q => (s.eligibleHead q).map (fun f => (q, f)))
  let top := (el.map (fun (x : Nat × QFrame) => (sched x.1).level)).foldl max 0
  (el.filter (fun x => (sched x.1).level == top), top)

/-- One DWRR pick among queues at their highest LEVEL: the queue and its head, and the state with its deficits moved. -/
def State.pickQueue (s : State) (sched : Nat → Sched) (group : Nat) (qs : List Nat) : Option (Nat × QFrame × State) :=
  let t := s.topItems sched qs
  let items := t.1.map (fun (x : Nat × QFrame) => { key := itemKey x.1, weight := (sched x.1).weight, len := s.shapedLen x.1 x.2 : DwrrItem })
  match s.dwrrPick (8 * group + t.2) items with
  | none => none
  | some (k, s1) => (t.1.find? (fun x => itemKey x.1 == k)).map (fun x => (x.1, x.2, s1))

/-! ## The pick of a channel (R285) -/

/-- The class queues of a node: its key is that of its shaper, KIND 2 or 3. -/
def nodeQueues (c node : Nat) : List Nat :=
  (List.range 8).map (fun k => if node < 3 * 2 ^ 20 then qTerm (node - 2 * 2 ^ 20) k else qBc (8 * c + k))

/-- The nodes of a channel: its terminals whose queue sets are not held (R289) and wait for no TUNE_DONE (R192), and the broadcast
node. -/
def State.nodes (s : State) (c : Nat) : List Nat :=
  ((s.termsOf c).filter (fun e => !e.2.detached && e.2.holdUntil.isNone && !s.doneWaits (ctxNo c e.1))).map (fun e => shaperKey 2 (ctxNo c e.1)) ++ [shaperKey 3 c]

def State.classSched (s : State) (c : Nat) (q : Nat) : Sched := s.sched (4096 + 8 * c + q % 8)

/-- What a node would send. -/
def State.nodePick (s : State) (c node : Nat) : Option (Nat × QFrame × State) :=
  s.pickQueue (s.classSched c) (2 ^ 24 + node) (nodeQueues c node)

/-- A pass without its items of WEIGHT 0, unless it holds no other (R284). -/
def weightedFirst (l : List DwrrItem) : List DwrrItem :=
  if l.any (fun i => i.weight != 0) then l.filter (fun i => i.weight != 0) else l

/-- The node that a channel serves: the committed in round robin, or else by DWRR. -/
def State.pickNode (s : State) (c : Nat) : Option (Nat × State) :=
  let ok := (s.nodes c).filterMap (fun n =>
    if s.nodeMaxOk n then (s.nodePick c n).map (fun r => ({ key := n, weight := (s.shaper n).weight, len := s.shapedLen r.1 r.2.1 } : DwrrItem))
    else none)
  let committed := ok.filter (fun n => s.nodeCommitted n.key)
  match afterServed (s.tm.served.get (fun _ => 0) (2 ^ 30 + c)) (weightedFirst committed) with
  | n :: _ => some (n.key, { s with tm := { s.tm with served := s.tm.served.set (fun _ => 0) (2 ^ 30 + c) n.key } })
  | [] => s.dwrrPick (2 ^ 31 + c) ok

/-- The queues of a channel's nodes that hold frames. -/
def State.backlog (s : State) (c : Nat) : List Nat := ((s.nodes c).flatMap (nodeQueues c)).filter (fun q => !(s.queue q).frames.isEmpty)

/-- Some head of a queue lies in the Pannier. -/
def State.headSpilled (s : State) (q : Nat) : Bool :=
  match (s.queue q).frames with
  | f :: _ => decide (f.spill ≠ 0)
  | [] => false

/-- The framer of a channel asks for the next frame (R285, R296, R390). -/
def State.channelPick (s : State) (c : Nat) : State :=
  let p := s.ch c
  if !p.framing || p.space < 8 || !p.pend.isEmpty || (s.slice (c / 24)).unit != .running || !s.shaperOk (shaperKey 4 c) then s
  else
    let s0 := (s.backlog c).foldl (fun (s : State) q => State.dropOversize q (s.queue q).frames.length s) s
    match s0.pickNode c with
    | none =>
      let b := s0.backlog c
      if !b.isEmpty && b.all s0.headSpilled then s0.bump .slcPrefetchDry (c / 24) else s0
    | some (n, s1) =>
      match s1.nodePick c n with
      | none => s1
      | some (q, f, s2) =>
        let len := s2.shapedLen q f
        let s3 := ((s2.shaperCharge (itemKey q) len).shaperCharge n len).shaperCharge (shaperKey 4 c) len
        let s4 := s3.sendHead q f
        if (nodeQueues c n).all (fun q => (s4.queue q).frames.isEmpty) then s4.dwrrClear n else s4

/-- SCHEDULER_PICK, before the commands of its core cycle (R285). -/
def State.schedulerPick (s : State) (c : Nat) : State := s.pickOnOld (fun s => s.channelPick c)

/-! ## The pick of an uplink port (R291, R292) -/

def portQueues (p : Nat) : List Nat := (List.range 32).map (fun n => qUp (32 * p + n))

def State.portSched (s : State) (p : Nat) (q : Nat) : Sched := s.sched (32 * p + (q - 0x80000) % 32)

/-- The credit of a queue lets it send. -/
def State.creditOk (s : State) (q : Nat) : Bool := let c := s.cbsOf (q - 0x80000); !c.en || decide (0 ≤ c.credit)

/-- The queue that a port serves, under its port shaper. -/
def State.portPick (s : State) (p : Nat) : Option (Nat × QFrame × State) :=
  if !s.shaperOk (shaperKey 6 p) then none
  else s.pickQueue (s.portSched p) (2 ^ 26 + p) ((portQueues p).filter s.creditOk)

/-- The queues of a port settled: credit to the present, oversize heads dropped (R292, R296). -/
def State.portSettle (s : State) (p : Nat) : State :=
  (portQueues p).foldl (fun (s : State) q => State.dropOversize q (s.queue q).frames.length (s.cbsSettle q)) s

/-- A port of the district can send now: it is up and its transmitter is not in electrical idle (R366, R367). -/
def State.portSends (s : State) (p : Nat) : Bool :=
  (s.port p).up && (s.slice (s.portSlice p)).unit == .running &&
    (match (s.port p).txFw with
     | none => true
     | some t => decide (s.time.now < t + usU))

/-- A port picks a frame (R291); LPI that is still being sent ends at once (R367). -/
def State.portTakes (s : State) (p : Nat) : State :=
  if !s.portSends p then s
  else
    let s0 := s.portSettle p
    match s0.portPick p with
    | none => s0
    | some (q, f, s1) =>
      let len := s1.shapedLen q f
      let s2 := ((s1.shaperCharge (itemKey q) len).shaperCharge (shaperKey 6 p) len).cbsSend (q - 0x80000) len
      (s2.updPort p (fun x => { x with txFw := none, lastEligible := s.time.now })).sendHead q f

/-- UPLINK_PICK, before the commands of its core cycle (R285). -/
def State.uplinkPickDo (s : State) (p : Nat) : State := s.pickOnOld (fun s => s.portTakes p)

end Sys2Proof.Machine
end

