-- ==== Sys2Proof/Machine/CipherDone.lean ====
section
/-! DEFINITION. Machine/CipherDone.lean: the end of cipher requests (R301, R304, R305): keystream, MICs, passes, their order,
and the requests that fail. -/

namespace Sys2Proof.Machine

/-- A request, by its number. -/
def State.reqOf (s : State) (id : Nat) : Option CphReq := s.cph.reqs.find? (fun r => r.id == id)

/-- A request is complete and holds its output. -/
def State.completeReq (s : State) (id : Nat) (out : List Byte) (pkt : Pkt) (portId : Nat) : State :=
  { s with cph := { s.cph with reqs := s.cph.reqs.map (fun r =>
      if r.id = id then { r with phase := .complete, output := out, pkt := pkt, portId := portId } else r) } }

/-- The first request of a list of users that a test selects, if it is complete. -/
def State.firstDone (s : State) (p : ReqUser → Bool) : Option CphReq :=
  match s.cph.reqs.find? (fun r => p r.user) with
  | some r => if r.phase == .complete then some r else none
  | none => none

/-- Passes of an egress port. -/
def ReqUser.passOf (port : Nat) : ReqUser → Bool
  | .pass p _ _ => p == port
  | _ => false

/-- Keystream of the framer of a channel. -/
def ReqUser.ksOf (c : Nat) : ReqUser → Bool
  | .dsKs d => d == c
  | _ => false

/-- Passes of a port leave in the order of their picks (R305); `n` bounds how many. -/
def State.releasePasses (port : Nat) : Nat → State → State
  | 0, s => s
  | n + 1, s =>
    match s.firstDone (ReqUser.passOf port) with
    | none => s
    | some r =>
      let s1 := s.dropReq r.id
      State.releasePasses port n
        (if port < 192 then s1.lineChan r.queue r.pkt r.output r.portId else s1.lineUplink (port - 192) r.pkt r.output)

/-- Keystream of a channel is delivered in position order (R305). -/
def State.releaseKs (c : Nat) : Nat → State → State
  | 0, s => s
  | n + 1, s =>
    match s.firstDone (ReqUser.ksOf c) with
    | none => s
    | some r => State.releaseKs c n ((s.sendPlanned c r.id r.output).dropReq r.id)

/-- What a request held up may go. -/
def State.releaseAfter (s : State) (u : ReqUser) : State :=
  let n := s.cph.reqs.length
  match u with
  | .pass port _ _ => State.releasePasses port n s
  | .dsKs c => State.releaseKs c n s
  | _ => s

/-- The key that a keystream request binds to. -/
def State.ksKey (s : State) (r : CphReq) : List Byte :=
  match r.rx with
  | some (k, g) => (s.material k g).key
  | none => []

/-- Bytes that pass under each slot of a request. -/
def State.countKeyBytes (s : State) (r : CphReq) : State :=
  let one (k : Option Nat) (s : State) : State := match k with
    | some k => s.bump .keyBytes k r.len
    | none => s
  one (r.rx.map (·.1)) (one (r.tx.map (·.1)) s)

/-- A pass ends (R335): the output waits for its turn, or the frame is dropped; a sealed output toward the PON leaves under
the port-ID of its endpoint. -/
def State.passDone (s : State) (r : CphReq) (port : Nat) (input output : Form) : State :=
  let o := s.runPass r port input output
  let tag := r.pkt.rec_.tag.map (fun g => { g with cipher := some s.time.now })
  let pkt := { r.pkt with rec_ := { r.pkt.rec_ with tag := tag } }
  match o.2 with
  | none => (o.1.dropReq r.id).dropPkt pkt port 6
  | some out =>
    let portId := if port < 192 && output == .sealed then (s.dsPortId r.queue true r.pkt (some r.portId)).2 else r.portId
    o.1.completeReq r.id out pkt portId

/-- CIPHER_REQUEST_DONE: the lane time of a running request is over; a lane check that fails fails the request (R492). -/
def State.cipherDone (s : State) (id : Nat) (fault : Bool) : State :=
  match s.reqOf id with
  | none => s
  | some r =>
    match r.phase, r.endsAt with
    | .placed n _, some e =>
      if s.time.now < e || !s.reqRuns r then s
      else
        let s1 := s.leaveLane r
        if fault then
          ((s1.failReq r).report { cls := 12, cause := .laneCheck, site := siteCluster n, obj := r.id }).releaseAfter r.user
        else
          let s2 := s1.countKeyBytes r
          (match r.user with
           | .mic _ => s2.dropReq id
           | .upKs _ _ _ _ => s2.completeReq id (s.ksKey r) r.pkt r.portId
           | .dsKs _ => s2.completeReq id (s.ksKey r) r.pkt r.portId
           | .pass port input output => s2.passDone r port input output).releaseAfter r.user
    | _, _ => s

/-- CPH_LATE: a request has not completed 100 µs after it was queued (R304). -/
def State.cipherLate (s : State) (id : Nat) : State :=
  match s.reqOf id with
  | none => s
  | some r =>
    if r.phase == .complete || decide (s.time.now < r.queuedAt + 100 * usU) then s
    else
      let s1 := (s.bump .slcCphLate r.slice).raise (6 + r.slice) 9
      let s2 := match r.cluster with
        | some n => s1.bump .cphCphLate n
        | none => s1
      ((if s.reqRuns r then s2.leaveLane r else s2).failReq r).releaseAfter r.user

end Sys2Proof.Machine
end

