-- ==== Sys2Proof/Machine/Layout.lean ====
section
/-! DEFINITION. Machine/Layout.lean: the bytes of descriptors, completions and events in host memory, little-endian (R6; 16 Tables
2, 3 and 8). -/

namespace Sys2Proof.Machine

/-- A descriptor from its 32 bytes (16 Table 2). -/
def descOf (b : List Byte) : Desc :=
  { opcode := byteAt b 0, flags := byteAt b 1, spec := leAt b 2 2, len := leAt b 4 4, addr := leAt b 8 8, cookie := leAt b 16 8,
    aux := leAt b 24 8 }

/-- The descriptors of one read, in their order. -/
def descsOf (b : List Byte) : List Desc := (List.range (b.length / 32)).map (fun i => descOf (b.drop (32 * i)))

/-- The 16 bytes of a completion (16 Table 3). -/
def completionBytes (status result cookie : Nat) (phase more : Bool) : List Byte :=
  toLe 2 status ++ toLe 1 (b2n phase + 2 * b2n more) ++ toLe 1 0 ++ toLe 4 result ++ toLe 8 cookie

/-- The 64 bytes of an event (16 Table 8); byte 3 is reserved, but for the MIC result of a PLOAM_RX (R445). -/
def eventBytes (code source tick : Nat) (phase lost : Bool) (body : List Byte) : List Byte :=
  toLe 1 code ++ toLe 1 0 ++ toLe 1 (b2n phase + 2 * b2n lost) ++ [body.getD 48 0] ++ toLe 4 source ++ toLe 8 tick
    ++ (List.range 48).map (fun i => body.getD i 0)

/-- What an output writes in host memory: its address and its bytes. -/
def Out.memory : Out → Option (Nat × List Byte)
  | .dma addr data => some (addr, data)
  | .completion _ _ addr status result cookie phase more => some (addr, completionBytes status result cookie phase more)
  | .event _ _ addr code source tick phase lost body => some (addr, eventBytes code source tick phase lost body)
  | _ => none

end Sys2Proof.Machine
end

