-- ==== Sys2Proof/Machine/KeyStore.lean ====
section
/-! DEFINITION. Machine/KeyStore.lean: what changes a key slot (11, R304, R305, R309 to R314, R497): KEY_WRITE, KEY_ERASE, a corrupt
slot, and what becomes of the requests bound to it. -/

namespace Sys2Proof.Machine

/-! ## Requests of the same core cycle (R304) -/

/-- The TYPEs that the material of a request may have: where it opens or makes keystream, and where it seals. -/
def ReqUser.rxTypes : ReqUser → List Nat
  | .pass _ .sealed _ => [3]
  | .pass _ .macsec _ => [4, 5]
  | .pass _ .clear _ => []
  | .mic _ => [2]
  | _ => [1]
def ReqUser.txTypes : ReqUser → List Nat
  | .pass _ _ .sealed => [3]
  | .pass _ _ .macsec => [4, 5]
  | _ => []

/-- The user number of the slot that a pass seals under, and its output form. -/
def CphReq.txUser (r : CphReq) : Nat := match r.user with
  | .pass port _ .macsec => 65536 + (port - 192)
  | _ => r.pkt.rec_.svc.getD 0
def ReqUser.output : ReqUser → Form
  | .pass _ _ f => f
  | _ => .clear

/-- A pass whose frame is dropped before it runs, under a trace code; what it held up may go. -/
def State.dropPass (s : State) (r : CphReq) (code : Nat) : State :=
  ((s.dropReq r.id).dropPkt r.pkt (queuePort r.queue) code).releaseAfter r.user

/-- A request with its bindings to a slot moved to a generation. -/
def CphReq.bindTo (r : CphReq) (k gen : Nat) (pn : Option Nat) : CphReq :=
  { r with rx := r.rx.map (fun x => if x.1 = k then (k, gen) else x),
           tx := match r.tx, pn with
             | some (j, g, p), some n => if j = k then some (k, gen, n) else some (j, g, p)
             | t, _ => t }
def State.bindReq (s : State) (id k gen : Nat) (pn : Option Nat) : State :=
  { s with cph := { s.cph with reqs := s.cph.reqs.map (fun r => if r.id = id then r.bindTo k gen pn else r) } }

/-- A request queued in the core cycle in which slot k changes binds to the state after the change (R304): it takes its packet
number there, and fails where the slot is empty or of another TYPE (R312, R327). -/
def State.rebind (k : Nat) (s : State) (r : CphReq) : State :=
  let m := (s.keySlot k).cur
  let seals := r.tx.any (fun x => x.1 == k)
  let bad := !(if seals then r.user.txTypes else r.user.rxTypes).contains m.type
  if seals then
    if bad then (s.txKeyEmpty r.user.output r.queue k r.pkt).dropPass r 6
    else
      let t := s.takePn r.slice k r.txUser
      match t.2 with
      | none => t.1.dropPass r 30
      | some pn => t.1.bindReq r.id k m.gen (some pn)
  else if bad && !r.isFrame then ((s.bump .keyKeyEmpty k).failReq r).releaseAfter r.user
  else s.bindReq r.id k m.gen none

/-! ## A slot changes -/

/-- A slot takes new material, or none, as its next generation (R311, R312); the requests of this core cycle go with it (R304). -/
def State.putKey (s : State) (k : Nat) (m : KeyMat) : State :=
  let x := s.keySlot k
  let late := s.cph.reqs.filter (fun r => r.boundTo k (some x.cur.gen) && s.thisCycle (some r.queuedAt))
  let early := { s with cph := { s.cph with reqs := s.cph.reqs.filter (fun r => !late.any (fun q => q.id == r.id)) } }
  late.foldl (State.rebind k) ((s.nextOrder).setKeySlot k
    { cur := { m with gen := (x.cur.gen + 1) % 65536, lastPn := 0, written := s.cph.order + 1 }, retired := early.retire k })

/-- Every request of a slot that does not run yet fails with KEY_GONE (R313), and gives up its place (R305); one of this core cycle
binds to the emptied slot instead (R304). -/
def State.keyGone (s : State) (k : Nat) : State :=
  (s.cph.reqs.filter (fun r => r.boundTo k none && !s.reqRuns r && !s.thisCycle (some r.queuedAt))).foldl (fun s r =>
    ((match r.cluster with
     | some n => s.bump .cphKeyGone n
     | none => s.bump .xKeyGone r.slice).failReq r).releaseAfter r.user) s

/-- An immediate erase (R313, R497). -/
def State.eraseNow (s : State) (k : Nat) : State := (s.keyGone k).putKey k {}

/-! ## Commands -/

/-- KEY_WRITE (R307, R309, R311, R314). -/
def opKeyWrite (x : Slot) (s : State) : Turn :=
  withLen x 80 s fun b =>
    let k := leAt b 0 4
    let type := byteAt b 4 % 8
    let n := byteAt b 5
    let wrapped := bufBit b 4 3
    checks [(decide (k > 131071), Status.keyRange), (type == 0 || decide (type > 5), Status.keyBad), (n == 0, Status.keyZero),
      (n != keyLength type, Status.keyLen), (!wrapped && s.flg Reg.cphCfg 8, Status.keyClear),
      (wrapped && s.cph.kek.isNone, Status.noKek), ((keyOf s.cph.kek b).isNone, Status.unwrapFail),
      (sealType type && s.ctx.slotShared k, Status.keyShared)] s fun _ =>
      if s.retiredInUse k then (s, .wait) else (s.putKey k ((keyOf s.cph.kek b).getD {})).ok

/-- KEY_ERASE (R312 to R314): complete once the old generation is zeroised. -/
def opKeyErase (x : Slot) (s : State) : Turn :=
  withLen x 8 s fun b =>
    let k := leAt b 0 4
    checks [(decide (k > 131071), Status.keyRange)] s fun _ =>
      if s.retiredInUse k then (s, .wait)
      else
        let s1 := if bufBit b 4 0 then s.eraseNow k else s.putKey k {}
        if s1.retiredInUse k then (s1, .pend) else s1.ok

/-- RETIRED_GENERATION_ZEROISE (R311, R312): no request is bound to the retired generation of a slot any more; a KEY_ERASE
of the slot that waits for it completes. -/
def State.zeroise (s : State) (k : Nat) : State :=
  let x := s.keySlot k
  match x.retired with
  | none => s
  | some m =>
    if s.cph.reqs.any (fun r => r.boundTo k (some m.gen)) then s
    else
      let s1 := s.setKeySlot k { x with retired := none }
      (s1.host.slots.filter (fun y => y.opcode == Op.keyErase && y.phase == .effect && leAt (y.buf.getD []) 0 4 == k)).foldl
        (fun s y => s.finish y.id Status.ok 0) s1

/-- KEY_STORE_CHECK: a corrupt slot is zeroised and made empty at once, and the report names it (R497). -/
def State.keyCorrupt (s : State) (k : Nat) : State :=
  (s.eraseNow k).report { cls := 1, cause := .keySlotCorrupt, site := siteUpdate, obj := k }

end Sys2Proof.Machine
end

