-- ==== Sys2Proof/Machine/Paths.lean ====
section
/-! DEFINITION. Machine/Paths.lean: whether a register write takes effect: the access paths (R17, R534), the time before BAR0
is open (R511) and standby (R523). -/

namespace Sys2Proof.Machine

/-- Where a register lies, as R17, R511 and R523 tell blocks apart. Select registers and `TIM_LATCH` count as MGT on the
management path (R534). -/
inductive Region where
  | glb | mgt | flt | hif | select | other
  deriving DecidableEq, Repr

/-- The region of a BAR0 offset (21 Table 2). -/
def regionOf (off : Nat) : Region :=
  if off < 0x10000 then .glb
  else if off < 0x20000 then .mgt
  else if off < 0x30000 then .flt
  else if 0x100000 ≤ off ∧ off < 0x140000 then .hif
  else if off = 0x200000 ∨ off = 0x202000 ∨ off = 0x204000 ∨ off = 0x206000 ∨ off = 0x030008 then .select
  else .other

/-- The device answers its host: not in cold reset, warm reset, thermal trip or host reset (R21, R510, R517, R525). -/
def State.hostAnswers (s : State) : Bool := !s.life.por && s.life.warm == .none && !s.life.tripped && !s.host.inReset

/-- BAR0 shows a region to the host path: before READY only GLB and MGT, in standby only those and HIF (R511, R523). -/
def State.shows (s : State) (r : Region) : Bool :=
  (s.life.opened || r == .glb || r == .mgt) && (s.life.pwr != .standby || r == .glb || r == .mgt || r == .hif)

/-- A write on the host path takes effect, or is dropped and counted (R511, R523). -/
def State.hostWrite (s : State) (r : Region) (k : State → State) : State :=
  if !s.hostAnswers then s
  else if s.shows r then k s
  else s.bump .xClosedWrite 0

/-- A write on the management path takes effect only in MGT, FLT and the path's select registers (R17, R534). -/
def State.mgmtWrite (s : State) (r : Region) (k : State → State) : State :=
  if s.life.por || s.life.warm != .none then s
  else if r == .mgt || r == .flt || r == .select then k s
  else s.bump .devManagementPathWritesDropped 0

/-- A write on a path. -/
def State.pathWrite (s : State) (path : Path) (r : Region) (k : State → State) : State :=
  match path with
  | .host => s.hostWrite r k
  | .mgmt => s.mgmtWrite r k

end Sys2Proof.Machine
end

