-- ==== Sys2Proof/Machine/Mgt.lean ====
section
/-! DEFINITION. Machine/Mgt.lean: the management subsystem (17): the mailbox and its requests, flash and images, the Tandem's
restarts, the SMBus slave and the JTAG port. -/

namespace Sys2Proof.Machine

/-! ## Flash (17 Table 2) -/

def State.flashAt (s : State) (a : Nat) : Byte := s.mgt.flash.get Config.flashInit a
def State.flashBytes (s : State) (a n : Nat) : List Byte := (List.range n).map (fun i => s.flashAt (a + i))

/-- Bytes are programmed from an address on. -/
def Tab.program (t : Tab Byte) : Nat → List Byte → Tab Byte
  | _, [] => t
  | a, b :: bs => Tab.program (t.set Config.flashInit a b) (a + 1) bs

def State.flashWrite (s : State) (a : Nat) (bs : List Byte) : State :=
  { s with mgt := { s.mgt with flash := s.mgt.flash.program a bs } }

/-- Base of an image slot. -/
def slotBase (slot : Nat) : Nat := if slot = 0 then 0x1000000 else 0x1800000

/-- Bytes that a failing program leaves in flash: the spec does not say which. -/
def freeBytes (s : State) (n : Nat) : List Byte := (List.range n).map (fun i => BitVec.ofNat 8 (Config.freeValue (s.free + i)))

/-! ## Images (R455) -/

/-- FW_VER and SEC_VER of a slot's header. -/
def State.slotFw (s : State) (slot : Nat) : Nat := le (s.flashBytes (slotBase slot + 8) 4)
def State.slotSec (s : State) (slot : Nat) : Nat := le (s.flashBytes (slotBase slot + 12) 4)

/-- The minimum security version: the number of 1 bits of the fused thermometer. -/
def State.minSec (s : State) : Nat := popcount 64 s.life.fuseSecv

/-- A key entry that is programmed and not revoked holds a hash. -/
def State.keyKnown (s : State) (h : List Byte) : Bool :=
  (List.range 4).any (fun k => bit s.life.fuseProgrammed k && !bit s.life.fuseRevoked k && Config.fuseKey k == h)

/-- The validity of a slot. -/
def State.slotValid (s : State) (slot : Nat) : Bool :=
  let b := slotBase slot
  let h := s.flashBytes b 512
  let len := leAt h 16 4
  leAt h 0 4 == 0x53524D55 && leAt h 4 2 == 1 && decide (16 ≤ len) && decide (len ≤ 786432) && len % 16 == 0
    && s.keyKnown (Config.sha384 (cut h 80 97))
    && Config.ecdsaVerify (cut h 80 97) (Config.sha384 (h.take 416)) (cut h 416 96)
    && Config.sha384 (s.flashBytes (b + 512) len) == cut h 32 48
    && decide (s.minSec ≤ leAt h 12 4)

def State.imgSlot (s : State) (slot : Nat) : ImgSlot := if slot = 0 then s.mgt.slotA else s.mgt.slotB
def State.setImgSlot (s : State) (slot : Nat) (v : ImgSlot) : State :=
  if slot = 0 then { s with mgt := { s.mgt with slotA := v } } else { s with mgt := { s.mgt with slotB := v } }

/-- No slot has had a fresh start since a boot or an activation (R464). -/
def State.staleSlots (s : State) : State :=
  { s with mgt := { s.mgt with slotA := { s.mgt.slotA with fresh := false, written := [], erased := [] },
                               slotB := { s.mgt.slotB with fresh := false, written := [], erased := [] } } }

/-- The preferred slot of the boot configuration; a configuration whose CRC fails prefers slot A (17 Table 1). -/
def State.bootSlot (s : State) : Nat :=
  if le (s.flashBytes 4 4) = Config.flashCrc32 (s.flashBytes 0 4) then (if s.flashAt 0 = 1 then 1 else 0) else 0

/-- The slot whose firmware the ROM starts: the preferred one, or the other where it is not valid (17 Table 1); none: recovery (R458). -/
def State.bootChoice (s : State) : Option Nat :=
  let a := s.bootSlot
  if s.slotValid a then some a else if s.slotValid (1 - a) then some (1 - a) else none

/-- The board delay record (17 Table 2); none: its CRC fails (R457). -/
def State.boardDelays (s : State) : Option (List Byte) :=
  let l := s.flashBytes 0x1000 192
  if le (s.flashBytes 0x10C0 4) = Config.flashCrc32 l then some l else none

/-- The boot configuration is written to prefer a slot. -/
def State.preferSlot (s : State) (slot : Nat) : State :=
  let b := toLe 4 slot
  s.flashWrite 0 (b ++ toLe 4 (Config.flashCrc32 b))

/-! ## The log (17 Table 5) -/

/-- CODE of a log entry. -/
def LogCode.number : LogCode → Nat
  | .report c => c
  | .boot => Config.logCode 0 | .warm => Config.logCode 1 | .dlyBad => Config.logCode 2 | .imgFallback => Config.logCode 3
  | .mgtLockstep => Config.logCode 4 | .thermTrip => Config.logCode 5

/-- SEV of a management entry: 3 for THERMTRIP (R525). -/
def LogCode.sev : LogCode → Nat
  | .thermTrip => 3
  | .report c => Config.logSev (64 + c) % 4
  | .boot => Config.logSev 0 % 4 | .warm => Config.logSev 1 % 4 | .dlyBad => Config.logSev 2 % 4
  | .imgFallback => Config.logSev 3 % 4 | .mgtLockstep => Config.logSev 4 % 4

/-- A management entry. -/
def State.logMgt (s : State) (c : LogCode) (items : List Nat) : State := s.logReport c c.sev ((Config.logItems items ++ List.replicate 16 0).take 16)

def LogEntry.bytes (e : LogEntry) : List Byte :=
  toLe 8 e.tick ++ toLe 4 e.seq ++ toLe 2 e.code.number ++ toLe 1 e.sev ++ toLe 1 (b2n e.lost) ++ (e.data ++ List.replicate 16 0).take 16

/-- The reports held during a switch or a restart are logged (R461): TICK is read as each is handled. -/
def State.logHeld (s : State) : State :=
  s.mgt.held.foldl (fun (s : State) (h : LogCode × Nat × List Byte) => s.logWrite h.1 h.2.1 h.2.2) { s with mgt := { s.mgt with held := [] } }

/-! ## The mailbox (R463) -/

/-- The Tandem serves requests: its firmware runs, or it stands in recovery (R458). -/
def State.mbxServes (s : State) : Bool := (s.mgt.ready || s.mgt.recovery) && !s.mgt.switching

/-- A field of the request buffer. -/
def State.reqAt (s : State) (off n : Nat) : Nat := le ((List.range n).map (fun i => s.mgt.mbx.request.get (fun _ => 0) (off + i)))
def State.reqOp (s : State) : Nat := s.reqAt 0 2
def State.reqLen (s : State) : Nat := s.reqAt 4 4
/-- Bytes of the request body. -/
def State.reqBody (s : State) (off n : Nat) : List Byte := (List.range n).map (fun i => s.mgt.mbx.request.get (fun _ => 0) (16 + off + i))

/-- Bytes written into a buffer from an offset on. -/
def bufWrite (t : Tab Byte) : Nat → List Byte → Tab Byte
  | _, [] => t
  | a, b :: bs => bufWrite (t.set (fun _ => 0) a b) (a + 1) bs

/-- The reply to the request of a SEQ: header and body, REPLY, group 2 source 0. -/
def State.replyTo (s : State) (seq status : Nat) (body : List Byte) : State :=
  let head := toLe 2 s.reqOp ++ toLe 2 seq ++ toLe 4 body.length ++ toLe 2 status ++ toLe 6 0
  let m := { s.mgt.mbx with pending := none, reply := true, replyBuf := bufWrite s.mgt.mbx.replyBuf 0 (head ++ body) }
  (({ s with mgt := { s.mgt with mbx := m } }).emit (.reply seq status body)).raise 2 0

/-- Reply statuses (R463). -/
def mbxOk : Nat := 0
def mbxBusy : Nat := 1
def mbxBadOp : Nat := 2
def mbxBadLen : Nat := 3
def mbxBadArg : Nat := 4
def mbxImgInvalid : Nat := 5
def mbxFlashErr : Nat := 6
def mbxDenied : Nat := 7
def mbxRecovery : Nat := 8

/-- The OPs of 17 Table 4, and those of them that recovery accepts (R458). -/
def mbxOps : List Nat := [0x0001, 0x0002, 0x0003, 0x0010, 0x0011, 0x0012, 0x0013, 0x0020, 0x0030]
def recoveryOps : List Nat := [0x0001, 0x0003, 0x0010, 0x0011, 0x0012, 0x0030]

/-- A pending request that no operation serves is answered: BAD_OP, or RECOVERY. -/
def State.mbxScreen (s : State) : State :=
  match s.mgt.mbx.pending with
  | none => s
  | some seq =>
    if !s.mbxServes then s
    else if s.mgt.recovery && !recoveryOps.contains s.reqOp then s.replyTo seq mbxRecovery []
    else if !mbxOps.contains s.reqOp then s.replyTo seq mbxBadOp []
    else s

/-- MAILBOX_DOORBELL (R461, R463): ignored and counted while a request is pending; answered BUSY by hardware during a switch
or restart. -/
def State.mailboxDoorbellDo (s : State) (seq : Nat) : State :=
  if s.mgt.mbx.pending.isSome then s.bump .mgtIgnoredDoorbells 0
  else
    let s1 := s.bump .mgtMailboxRequests 0
    if s1.mgt.switching then s1.replyTo seq mbxBusy []
    else ({ s1 with mgt := { s1.mgt with mbx := { s1.mgt.mbx with pending := some seq } } }).mbxScreen

/-- The Tandem serves the pending request where it is the named operation; a length that does not match is BAD_LEN (R464). -/
def State.serve (s : State) (op : Nat) (good : Nat → Bool) (k : Nat → State → State) : State :=
  match s.mgt.mbx.pending with
  | none => s
  | some seq =>
    if !(s.mbxServes && s.reqOp == op && (!s.mgt.recovery || recoveryOps.contains op)) then s
    else if !good s.reqLen then s.replyTo seq mbxBadLen []
    else k seq s

/-- GET_INFO. -/
def State.getInfoDo (s : State) : State :=
  s.serve 0x0001 (fun l => l == 0) fun seq s =>
    s.replyTo seq mbxOk (Config.infoBody [s.mgt.slot, s.slotFw 0, s.slotSec 0, s.slotFw 1, s.slotSec 1, b2n (s.slotValid 0),
      b2n (s.slotValid 1), 3])

/-- The sensor samples as GET_SENSORS and the SMBus lay them out. -/
def State.sensorBytes (s : State) : List Byte :=
  (List.range 32).flatMap (fun i => toLe 2 (((s.mgt.temps.getD i 0) % 65536).toNat)) ++ (List.range 24).flatMap (fun i => toLe 2 (s.mgt.volts.getD i 0))

/-- GET_SENSORS. -/
def State.getSensorsDo (s : State) : State :=
  s.serve 0x0002 (fun l => l == 0) fun seq s => s.replyTo seq mbxOk s.sensorBytes

/-- Entries from a SEQ on, or from the oldest held. -/
def State.logFrom (s : State) (first n : Nat) : List LogEntry := (s.mgt.log.filter (fun e => decide (idxDiff e.seq first < 2 ^ 31))).take n

/-- LOG_READ returned entries: the oldest not yet returned moves on where it is among them. -/
def State.logReturned (s : State) (l : List LogEntry) : State :=
  match l.head?, l.getLast? with
  | some a, some z =>
    if idxDiff s.mgt.logRead a.seq < 2 ^ 31 && decide (idxDiff z.seq s.mgt.logRead < 2 ^ 31) then
      { s with mgt := { s.mgt with logRead := (z.seq + 1) % 2 ^ 32 } }
    else s
  | _, _ => s

/-- LOG_READ: n of 0 is BAD_LEN, above 127 BAD_ARG. -/
def State.logReadDo (s : State) : State :=
  s.serve 0x0003 (fun l => l == 6) fun seq s =>
    let n := s.reqAt 20 2
    if n = 0 then s.replyTo seq mbxBadLen []
    else if n > 127 then s.replyTo seq mbxBadArg []
    else
      let l := s.logFrom (s.reqAt 16 4) n
      (s.logReturned l).replyTo seq mbxOk (l.flatMap LogEntry.bytes)

/-- Two ranges of (offset, length) overlap. -/
def overlap (a b : Nat × Nat) : Bool := decide (a.1 < b.1 + b.2) && decide (b.1 < a.1 + a.2)

/-- The slot of the running firmware; none in recovery. -/
def State.runningSlot (s : State) : Option Nat := if s.mgt.ready then some s.mgt.slot else none

/-- The sectors of a range that were not erased since the fresh start. -/
def newSectors (x : ImgSlot) (off n : Nat) : List Nat :=
  ((List.range (n / 4096 + 2)).map (· + off / 4096)).filter (fun k => decide (4096 * k < off + n) && !x.erased.contains k)

/-- Writes image data: sectors are erased at their first touch, then the data is programmed (R464). -/
def State.imgProgram (s : State) (slot off : Nat) (bs : List Byte) : State :=
  let x0 := s.imgSlot slot
  let x := if off = 0 then ({ fresh := true } : ImgSlot) else x0
  let sec := newSectors x off bs.length
  let s1 := sec.foldl (fun (s : State) (k : Nat) => s.flashWrite (slotBase slot + 4096 * k) (List.replicate 4096 0xFF)) s
  (s1.setImgSlot slot { x with written := x.written ++ [(off, bs.length)], erased := x.erased ++ sec, verified := false }).flashWrite
    (slotBase slot + off) bs

/-- IMG_WRITE (R464). -/
def State.imgWriteDo (s : State) (flashOk : Bool) : State :=
  s.serve 0x0010 (fun l => decide (8 ≤ l) && decide (l ≤ 4080)) fun seq s =>
    let slot := s.reqAt 16 1
    let off := s.reqAt 20 4
    let n := s.reqLen - 8
    let x := s.imgSlot slot
    if n = 0 then s.replyTo seq mbxOk []
    else if slot > 1 ∨ s.runningSlot = some slot then s.replyTo seq mbxDenied []
    else if off % 8 ≠ 0 ∨ 8388608 < off + n ∨ (off ≠ 0 ∧ (!x.fresh || x.written.any (overlap (off, n)))) then s.replyTo seq mbxBadArg []
    else if flashOk then (s.imgProgram slot off (s.reqBody 8 n)).replyTo seq mbxOk []
    else
      let s1 := s.imgProgram slot off (freeBytes s n)
      ({ s1 with free := s1.free + n }).replyTo seq mbxFlashErr []

/-- IMG_VERIFY (R455): its result makes the slot activable. -/
def State.imgVerifyDo (s : State) : State :=
  s.serve 0x0011 (fun l => l == 1) fun seq s =>
    let slot := s.reqAt 16 1
    if slot > 1 then s.replyTo seq mbxBadArg []
    else
      let v := s.slotValid slot
      (s.setImgSlot slot { s.imgSlot slot with verified := v }).replyTo seq mbxOk (Config.verifyBody v)

/-- IMG_ACTIVATE (R459): the preference is written, the reply sent, and the Tandem re-enters its ROM. -/
def State.imgActivateDo (s : State) (flashOk : Bool) : State :=
  s.serve 0x0012 (fun l => l == 1) fun seq s =>
    let slot := s.reqAt 16 1
    if slot > 1 then s.replyTo seq mbxBadArg []
    else if !(s.imgSlot slot).verified then s.replyTo seq mbxImgInvalid []
    else if !flashOk then
      let s1 := s.flashWrite 0 (freeBytes s 8)
      ({ s1 with free := s1.free + 8 }).replyTo seq mbxFlashErr []
    else
      let s1 := ((s.preferSlot slot).replyTo seq mbxOk []).staleSlots
      { s1 with mgt := { s1.mgt with switching := true, ready := false, previous := some s.mgt.slot, switchAt := s.time.now } }

/-- SECVER_COMMIT (R462). -/
def State.secverCommitDo (s : State) : State :=
  s.serve 0x0013 (fun l => l == 1) fun seq s =>
    let other := 1 - s.mgt.slot
    if s.slotValid other && decide (s.slotSec other < s.mgt.secVer) && s.reqAt 16 1 != 1 then s.replyTo seq mbxDenied []
    else
      let f := Nat.lor s.life.fuseSecv (2 ^ s.mgt.secVer - 1) % 2 ^ 64
      let s1 := { s with life := { s.life with fuseSecv := f } }
      s1.replyTo seq mbxOk (Config.minimumBody s1.minSec)

/-- DLY_WRITE: the board delay record, used from the next cold reset (R456). -/
def State.dlyWriteDo (s : State) (flashOk : Bool) : State :=
  s.serve 0x0020 (fun l => l == 196) fun seq s =>
    let s1 := s.flashWrite 0x1000 (List.replicate 4096 0xFF)
    if flashOk then (s1.flashWrite 0x1000 (s.reqBody 0 196)).replyTo seq mbxOk []
    else
      let s2 := s1.flashWrite 0x1000 (freeBytes s 4096)
      ({ s2 with free := s2.free + 4096 }).replyTo seq mbxFlashErr []

/-- WARM_RESET: the reset follows 1 ms after the reply (R463, R464). -/
def State.warmResetDo (s : State) : State :=
  s.serve 0x0030 (fun l => l == 4) fun seq s =>
    if s.reqAt 16 4 ≠ 0x52535457 then s.replyTo seq mbxBadArg []
    else ({ s with life := { s.life with warmDue := some (s.time.now + msU) } }).replyTo seq mbxOk []

/-! ## Restarts and switches (R454, R459, R460) -/

/-- MGT_LOCKSTEP (R454): the Tandem restarts through its ROM; the mailbox answers BUSY. -/
def State.lockstep (s : State) (memory : Bool) : State :=
  let r : Report := { cls := 13, cause := if memory then .tandemMemory else .mgtLockstep, site := siteTandem }
  let s0 := { s with mgt := { s.mgt with switching := true, ready := false, previous := none } }
  let s1 := ((s0.report r).logMgt .mgtLockstep [b2n memory]).bump .mgtTandemRestarts 0
  (match s1.mgt.mbx.pending with
   | some seq => s1.replyTo seq mbxBusy []
   | none => s1).staleSlots

/-- The image of a slot has these versions. -/
def State.slotIs (s : State) (slot fwVer secVer : Nat) : Bool := s.slotFw slot == fwVer && s.slotSec slot == secVer

/-- The firmware of a slot runs: READY set, SWITCHING clear, BOOT logged, what was held logged (17 Table 1, R461); with the first READY
the rest of BAR0 opens (R511). -/
def State.firmwareUp (s : State) (slot : Nat) : State :=
  let s1 := { s with
    mgt := { s.mgt with ready := true, switching := false, recovery := false, slot := slot, fwVer := s.slotFw slot, secVer := s.slotSec slot,
                        previous := none }
    life := { s.life with opened := true } }
  (s1.logHeld.logMgt .boot [slot, s.slotFw slot]).mbxScreen

/-- The slot whose firmware ends a switch or restart: the one that IMG_ACTIVATE preferred, where it is valid; after a restart the ROM's
choice (R454, R459). -/
def State.switchSlot (s : State) : Option Nat :=
  if !s.mgt.switching then none
  else if s.mgt.previous.isSome then (if s.slotValid s.bootSlot then some s.bootSlot else none)
  else s.bootChoice

/-- IMAGE_SWITCH_DONE: the new firmware sets READY, or a restart ends (R459 step 3). A row of other versions is no end of this switch
(log entry 57). -/
def State.switchDone (s : State) (fwVer secVer : Nat) : State :=
  match s.switchSlot with
  | none => s
  | some slot =>
    if !s.slotIs slot fwVer secVer then s
    else
      let s1 := (s.firmwareUp slot).raise 2 1
      if s.mgt.previous.isSome then s1.raise 2 2 else s1

/-- The new slot fails R455, or its firmware has not set READY within 2 s (R460). -/
def State.switchFails (s : State) : Bool :=
  s.mgt.switching && (!s.slotValid s.bootSlot || decide (s.mgt.switchAt + 2 * secU ≤ s.time.now))

/-- IMG_FALLBACK (R460): the previous preference and slot return, where that slot is valid; its versions are those of the row (log
entry 57). -/
def State.fallbackDo (s : State) (fwVer secVer : Nat) : State :=
  match s.mgt.previous with
  | none => s
  | some slot =>
    if !s.switchFails || !s.slotValid slot || !s.slotIs slot fwVer secVer then s
    else ((((s.preferSlot slot).firmwareUp slot).raise 2 1).raise 2 3).logMgt .imgFallback [slot, s.slotFw slot]

/-- BOOT_RECOVERY (R458): neither slot is valid. -/
def State.recoveryDo (s : State) : State :=
  if s.mgt.ready || s.bootChoice.isSome then s
  else
    (({ s with mgt := { s.mgt with recovery := true, switching := false, previous := none } }).raise 2 3).mbxScreen

/-! ## SMBus and JTAG (R469, R472) -/

/-- SMBUS_WRITE: two bytes set the read pointer; anything else is NACKed and counted. -/
def State.smbusDo (s : State) (d : List Byte) : State :=
  if d.length = 2 then ({ s with mgt := { s.mgt with smbusPtr := le d } }).emit (.smbus true)
  else (s.bump .mgtSMBusNACKs 0).emit (.smbus false)

/-- `GLB_ID` (21 Table 6). -/
def deviceId : Nat := 0x3C1927AF

def State.jtagSet (s : State) (i : JtagInstr) : State := { s with mgt := { s.mgt with jtag := { s.mgt.jtag with instr := i } } }

/-- An instruction that reads a register. -/
def State.jtagRead (s : State) (i : JtagInstr) (value : Nat) : State := (s.jtagSet i).emit (.jtag value [])

/-- SAMPLE/PRELOAD: what the balls carry goes out, what is shifted in waits in the boundary register. -/
def State.jtagSample (s : State) (pins preload : List Bool) : State :=
  let s1 := { s with mgt := { s.mgt with jtag := { instr := .samplePreload, boundary := preload } } }
  s1.emit (.jtag 0 pins)

/-- An instruction that takes the balls: the boundary register drives them, or none is driven (HIGHZ). -/
def State.jtagTakes (s : State) (i : JtagInstr) (drives : Bool) : State :=
  (s.jtagSet i).emit (.jtag 0 (if drives then s.mgt.jtag.boundary else []))

end Sys2Proof.Machine
end

