-- ==== Sys2Proof/Machine/Oam.lean ====
section
/-! DEFINITION. Machine/Oam.lean: the service OAM engine (12): endpoint filtering, CCM and AIS, defects and the commands.
The PDU layouts are those of IEEE 802.1Q and ITU-T Y.1731, which the chapter names (log entry 24). -/

namespace Sys2Proof.Machine

def State.mep (s : State) (n : Nat) : Mep := s.ctx.meps.get (fun _ => {}) n
/-- The state of an endpoint changes: no shadow holds it (R493). -/
def State.setMep (s : State) (n : Nat) (m : Mep) : State := { s with ctx := { s.ctx with meps := s.ctx.meps.set (fun _ => {}) n m } }
def State.meg (s : State) (g : Nat) : Meg := s.ctx.megs.get (fun _ => {}) g
def State.oamOn (s : State) : Bool := s.flg Reg.oamCfg 0

/-- The CCM period of a code (R338). -/
def ccmPeriod (code : Nat) : Nat :=
  match code with
  | 1 => msU * 10 / 3
  | 2 => 10 * msU
  | 3 => 100 * msU
  | 4 => secU
  | _ => 10 * secU

/-- An AIS period: 1 s or 1 min. -/
def aisPeriod (minute : Bool) : Nat := if minute then 60 * secU else secU

/-- 3.5 P. -/
def threeAndHalf (p : Nat) : Nat := 7 * p / 2

/-! ## Reports (R348) -/

def oamReport (n : Nat) (exit_ : Bool) (remote : Nat) : Report :=
  { cls := 8, cause := .oamDefect, site := siteSlice 0, obj := n, obj2 := remote, exit_ := exit_ }

/-- OAM_DEFECT: entry or exit of a defect of endpoint n. -/
def State.oamDefect (s : State) (n : Nat) (d : OamDefect) (c : OamCause) (remote : Nat) (exit_ : Bool) : State :=
  let supp := !exit_ && d != .ais && (s.mep n).ais
  ((s.report (oamReport n exit_ remote)).raise 14 (b2n exit_)).event 0x60 n
    (toLe 1 (Config.defectCode d) ++ toLe 1 (Config.defectCause c) ++ toLe 2 remote ++ toLe 1 (b2n exit_) ++ toLe 1 (b2n supp))

def LofCause.cause : LofCause → OamCause
  | .mmg => .mmg | .unl => .unl | .unm => .unm | .unp => .unp

/-- The exits of every standing defect of an endpoint, with one cause (R342). -/
def State.oamExits (s : State) (n : Nat) (c : OamCause) : State :=
  let m := s.mep n
  let s1 := m.remotes.foldl (fun s r => if r.loc then s.oamDefect n .loc c r.mepid true else s) s
  let s2 := m.remotes.foldl (fun s r => if r.rdi then s.oamDefect n .rdi c r.mepid true else s) s1
  let s3 := if m.lof.isSome then s2.oamDefect n .lof c 0 true else s2
  if m.ais then s3.oamDefect n .ais c 0 true else s3

/-! ## Sending (R339, R340, R345, R349, R350) -/

/-- The source address of an endpoint's frames (R340). -/
def State.oamSource (s : State) (n : Nat) : Nat :=
  ((s.reg Reg.oamMacHi).toNat % 65536 * 2 ^ 32 + (s.reg Reg.oamMacLo).toNat) / 2 ^ 14 * 2 ^ 14 + n

/-- A CCM (IEEE 802.1Q, Y.1731): level, opcode 1, flags, TLV offset 70, sequence number, MEPID, MEG ID, counter fields 0. -/
def ccmPdu (level : Nat) (rdi : Bool) (period seq mepid : Nat) (meg : List Byte) : List Byte :=
  toBe 1 (level * 32) ++ toBe 1 1 ++ toBe 1 (128 * b2n rdi + period) ++ toBe 1 70 ++ toBe 4 seq ++ toBe 2 mepid
    ++ (meg ++ List.replicate 48 0).take 48 ++ List.replicate 16 0 ++ [0]

/-- An AIS: level, opcode 33, flags with period code 4 (1 s) or 6 (1 min), TLV offset 0. -/
def aisPdu (level : Nat) (minute : Bool) : List Byte :=
  toBe 1 (level * 32) ++ toBe 1 33 ++ toBe 1 (if minute then 6 else 4) ++ [0, 0]

/-- A CFM frame: class 1 multicast destination of a level, the endpoint's source, a tag where one is pushed. -/
def State.cfmFrame (s : State) (n level : Nat) (tag : Option Nat) (pdu : List Byte) : List Byte :=
  toBe 6 (0x0180C2000030 + level) ++ toBe 6 (s.oamSource n)
    ++ (match tag with
        | some tci => toBe 2 0x8100 ++ toBe 2 tci
        | none => []) ++ toBe 2 0x8902 ++ pdu

/-- An engine frame is placed in the egress slice of its destination, unmetered: to the network side or the terminal
side. -/
def State.oamSend (s : State) (n : Nat) (toTerm : Bool) (level : Nat) (pdu : List Byte) : State :=
  let m := s.mep n
  let tc := s.fld Reg.oamCfg 6 4
  let tag := if !toTerm && m.vid != 0 then some (m.pcp * 8192 + m.vid) else none
  let data := s.cfmFrame n level tag pdu
  let r : FrameRec :=
  { len := data.length, inPort := 0x1FF, svc := some m.svc, tc := tc, tick := s.time.tick, present := s.time.presentNow,
    portId := if toTerm then some m.dsPort else none }
  let p : Pkt := { rec_ := r, data := data }
  if toTerm then
    match s.bindingQueue m.binding tc with
    | some q => (s.wakeSlice (s.queueSlice q)).queueAdmit q p {} (some m.dsPort)
    | none => s.bump .xNoEgress 0
  else
    let q := s.portQueue (192 + m.netPort) tc
    (s.wakeSlice (s.queueSlice q)).queueAdmit q p {} none

/-! ## Receiving (R343 to R347) -/

/-- A CCM of a kind that dLOF counts. -/
def State.oamLof (s : State) (n : Nat) (c : LofCause) : State :=
  let m := s.mep n
  let s1 := s.setMep n { m with lof := some (m.lof.getD c), lofLast := s.time.now }
  if m.lof.isSome then s1 else (s1.bump .mepDLOFEntries n).oamDefect n .lof c.cause 0 false

/-- A valid CCM from a remote (12 Table 4): dLOC leaves with the second within 3.5 P, dRDI follows the RDI bit. -/
def State.oamValid (s : State) (n mepid : Nat) (rdi : Bool) : State :=
  let m := s.mep n
  match m.remotes.find? (fun r => r.mepid == mepid) with
  | none => s
  | some r =>
    let back := r.loc && decide (s.time.now ≤ r.last + threeAndHalf (ccmPeriod m.period))
    let r1 := { r with last := s.time.now, loc := r.loc && !back, rdi := rdi }
    let s1 := (s.setMep n { m with remotes := m.remotes.map (fun x => if x.mepid = mepid then r1 else x) }).bump .mepValidCCMsReceived n
    let s2 := if back then s1.oamDefect n .loc .none mepid true else s1
    if rdi == r.rdi then s2 else s2.oamDefect n .rdi .none mepid (!rdi)

/-- An endpoint judges a CCM (R346, R347); one above its level is none of its (12 Table 2). -/
def State.oamJudge (s : State) (level mepid period : Nat) (rdi : Bool) (meg : List Byte) (n : Nat) : State :=
  let m := s.mep n
  if m.level < level then s
  else if level < m.level then s.oamLof n .unl
  else if meg ≠ (s.meg m.meg).id then s.oamLof n .mmg
  else if !m.remotes.any (fun r => r.mepid == mepid) then s.oamLof n .unm
  else if period ≠ m.period then s.oamLof n .unp
  else s.oamValid n mepid rdi

/-- An AIS at an endpoint's level (R346). -/
def State.oamAis (s : State) (minute : Bool) (n : Nat) : State :=
  let m := s.mep n
  let s1 := (s.setMep n { m with ais := true, aisLast := s.time.now, aisRxPer := minute, aisAt := if m.ais then m.aisAt else s.time.now }).bump .mepAisReceived n
  if m.ais then s1 else s1.oamDefect n .ais .none 0 false

/-- The valid endpoints of a service on a side (R343): terminal side by binding, network side by port. -/
def State.sideMeps (s : State) (svc : Nat) (side : Bool) (id : Nat) : List (Nat × Mep) :=
  s.ctx.meps.filter (fun e => e.2.valid && e.2.svc == svc &&
    (if side then e.2.termEn && e.2.binding == id else e.2.netEn && e.2.netPort == id))

/-- What the engine does with a CFM frame offered to it. -/
inductive OamVerdict where
  /-- Consumed or dropped. -/
  | taken
  /-- Punted under class CONTROL, tagged with an endpoint. -/
  | punt (mep : Nat)
  /-- Forwarded as any other frame. -/
  | pass
  deriving DecidableEq, Repr

/-- A CFM frame of a service arrives from a side (12 Table 2): `pdu` from its first byte. Where a level is below E and is a lower
endpoint's, the row of that endpoint's level applies: DESIGN CHOICE (log entry 84). -/
def State.oamOffer (s : State) (svc : Nat) (side : Bool) (id : Nat) (pdu : List Byte) : State × OamVerdict :=
  let here := if s.oamOn then s.sideMeps svc side id else []
  let level := byteAt pdu 0 / 32
  let op := byteAt pdu 1
  let at_ := here.filter (fun e => e.2.level == level)
  let top := here.foldl (fun m e => max m e.2.level) 0
  let period := byteAt pdu 2 % 8
  let rdi := bit (byteAt pdu 2) 7
  let mepid := beAt pdu 8 2 % 8192
  let meg := cut pdu 10 48
  match here, at_ with
  | [], _ => (s, .pass)
  | _, [] =>
    if level > top then (s, .pass)
    else
      let first := ((here.find? (fun e => e.2.level == top)).map (·.1)).getD 0
      let s1 := s.bump .mepOamLow first
      let judges := here.filter (fun e => e.2.face == side && decide (level < e.2.level))
      (if op = 1 then judges.foldl (fun s e => s.oamJudge level mepid period rdi meg e.1) s1 else s1, .taken)
  | _, (n, _) :: _ =>
    if op = 1 then
      let judges := at_.filter (fun e => e.2.face == side)
      if judges.isEmpty then (s.bump .mepOamLow n, .taken)
      else (judges.foldl (fun s e => s.oamJudge level mepid period rdi meg e.1) s, .taken)
    else if op = 33 then (at_.foldl (fun s e => s.oamAis (period == 6) e.1) s, .taken)
    else (s, .punt n)

/-! ## The engine's own events -/

/-- CCM_TRANSMIT (R339, R340, R345, R349). -/
def State.ccmTransmit (s : State) (n : Nat) : State :=
  let m := s.mep n
  let due := match m.ccmAt with
    | none => true
    | some t => decide (t + ccmPeriod m.period ≤ s.time.now)
  if !(s.oamOn && m.valid && due) then s
  else
    let rdi := m.lof.isSome || m.remotes.any (·.loc)
    let meg := (s.meg m.meg).id
    let s1 := (s.setMep n { m with seq := (m.seq + 1) % 2 ^ 32, ccmAt := some s.time.now }).bump .mepCCMsSent n
    let peers := s1.ctx.meps.filter (fun e => e.1 != n && e.2.valid && e.2.meg == m.meg)
    let s2 := peers.foldl (fun s e => s.oamJudge m.level m.mepid m.period rdi meg e.1) s1
    s2.oamSend n m.face m.level (ccmPdu m.level rdi m.period m.seq m.mepid meg)

/-- One remote at a check of the receive timers: dLOC enters 3.5 P after its last valid CCM. -/
def State.oamCheckRemote (s : State) (n : Nat) (r : Remote) : State :=
  let m := s.mep n
  if !r.loc && decide (r.last + threeAndHalf (ccmPeriod m.period) ≤ s.time.now) then
    ((s.setMep n { m with remotes := m.remotes.map (fun x =>
        if x.mepid = r.mepid then { x with loc := true, locAt := s.time.now } else x) }).bump .mepDLOCEntries n).oamDefect
      n .loc .none r.mepid false
  else s

/-- RECEIVE_TIMER_CHECK (R346): every 1/8 of the period. -/
def State.receiveCheck (s : State) (n : Nat) : State :=
  let m := s.mep n
  let p := ccmPeriod m.period
  if !(s.oamOn && m.valid && decide (m.checkAt + p / 8 ≤ s.time.now)) then s
  else
    let s1 := s.setMep n { m with checkAt := s.time.now }
    let s2 := m.remotes.foldl (fun s r => s.oamCheckRemote n r) s1
    let s3 := match m.lof with
      | some c => if m.lofLast + threeAndHalf p ≤ s2.time.now then
          (s2.setMep n { s2.mep n with lof := none }).oamDefect n .lof c.cause 0 true else s2
      | none => s2
    if m.ais && decide (m.aisLast + threeAndHalf (aisPeriod m.aisRxPer) ≤ s3.time.now) then
      (s3.setMep n { s3.mep n with ais := false }).oamDefect n .ais .none 0 true
    else s3

/-- When the conditions of 12 Table 3 that send AIS to a side began. -/
def State.aisStarts (s : State) (m : Mep) (toTerm : Bool) : List Nat :=
  (if toTerm then (if m.netEn then (s.swPort (192 + m.netPort)).downAt.toList else [])
   else (if m.termEn then (s.drl.unavail.get (fun _ => none) m.binding).toList else []))
  ++ (if m.face == !toTerm then
      (m.remotes.filter (·.loc)).map (·.locAt) ++ (if m.ais then [m.aisAt] else [])
    else [])

/-- The AIS of one side (R350, R351). -/
def State.aisSide (s : State) (n : Nat) (toTerm : Bool) : State :=
  let m := s.mep n
  let starts := s.aisStarts m toTerm
  let last := if toTerm then m.aisTermLast else m.aisNetLast
  let due := match last with
    | none => true
    | some l => starts.any (fun t => decide (l < t)) || decide (l + aisPeriod m.aisPer ≤ s.time.now)
  if starts.isEmpty || !due then s
  else
    let s1 := s.setMep n (if toTerm then { m with aisTermLast := some s.time.now } else { m with aisNetLast := some s.time.now })
    if (if toTerm then m.termEn else m.netEn) then
      (s1.bump .mepAisSent n).oamSend n toTerm m.aisLevel (aisPdu m.aisLevel m.aisPer)
    else s1.bump .mepAisNotSentForAMissingSide n

/-- AIS_TRANSMIT (R350). -/
def State.aisTransmit (s : State) (n : Nat) : State :=
  let m := s.mep n
  if s.oamOn && m.valid && m.aisEn then (s.aisSide n true).aisSide n false else s

/-! ## Commands (12 Table 5) -/

/-- MEG_SET. -/
def opMegSet (x : Slot) (s : State) : Turn :=
  withLen x 52 s fun b =>
    let g := leAt b 0 2
    let v := bufBit b 2 0
    checks [(decide (g > 4095), Status.megRange),
      (!v && s.ctx.meps.any (fun e => e.2.valid && e.2.meg == g), Status.megInUse)] s fun _ =>
      (s.ctxWrite (fun c => { c with megs := c.megs.set (fun _ => {}) g { valid := v, id := cut b 4 48 } })).ok

/-- The endpoint record at byte 4 of a MEP_SET buffer (12 Table 1), with its state as at the write (R342). -/
def mepOf (b : List Byte) (now : Nat) : Mep :=
  let r := b.drop 4
  { valid := bufBit r 2 0, svc := leAt r 0 2, face := bufBit r 2 1, level := bits (byteAt r 2) 4 2, aisEn := bufBit r 2 5,
    period := bits (byteAt r 3) 2 0, aisPer := bufBit r 3 3, aisLevel := bits (byteAt r 3) 6 4, mepid := leAt r 4 2 % 8192,
    meg := leAt r 6 2 % 4096, binding := leAt r 8 2, netPort := bits (byteAt r 10) 5 0, netEn := bufBit r 10 6,
    termEn := bufBit r 10 7, pcp := bits (byteAt r 11) 2 0, vid := leAt r 12 2 % 4096, dsPort := leAt r 14 2,
    remotes := (([16, 18, 20, 22].map (fun o => leAt r o 2)).filter (fun v => v != 0)).map (fun v => { mepid := v, last := now }),
    checkAt := now }

/-- MEP_BAD (R341). -/
def State.mepBad (s : State) (m : Mep) : Bool :=
  decide (m.period < 1) || decide (m.period > 5) || m.mepid == 0
    || m.remotes.any (fun r => decide (r.mepid > 8191) || r.mepid == m.mepid)
    || (if m.face then !m.termEn else !m.netEn) || !(s.meg m.meg).valid

/-- MEP_DUP (R341). -/
def State.mepDup (s : State) (n : Nat) (m : Mep) : Bool :=
  s.ctx.meps.any (fun e => e.1 != n && e.2.valid &&
    ((e.2.meg == m.meg && e.2.mepid == m.mepid)
      || (e.2.svc == m.svc && e.2.level == m.level && e.2.face == m.face && e.2.termEn == m.termEn
          && e.2.binding == m.binding && e.2.netEn == m.netEn && e.2.netPort == m.netPort)))

/-- MEP_SET (R341, R342). -/
def opMepSet (x : Slot) (s : State) : Turn :=
  withLen x 36 s fun b =>
    let n := leAt b 0 2
    let m := mepOf b s.time.now
    checks [(decide (n > 16383), Status.mepRange), (s.mepBad m, Status.mepBad), (s.mepDup n m, Status.mepDup)] s fun _ =>
      let s1 := if (s.mep n).valid then s.oamExits n .rewrite else s
      (s1.ctxWrite (fun c => { c with meps := c.meps.set (fun _ => {}) n m })).ok

/-- MEP_DEL (R342): VALID is cleared; the rest of the line stands. -/
def opMepDel (x : Slot) (s : State) : Turn :=
  withLen x 4 s fun b =>
    let n := leAt b 0 2
    checks [(decide (n > 16383) || !(s.mep n).valid, Status.mepNone)] s fun _ =>
      let s1 := s.oamExits n .deleted
      (s1.ctxWrite (fun c => { c with meps := c.meps.upd (fun _ => {}) n (fun m => { m with valid := false }) })).ok

/-- Exit from standby: every endpoint restarts as at MEP_SET, without exit events (R353). -/
def Mep.restart (now : Nat) (m : Mep) : Mep :=
  { m with remotes := m.remotes.map (fun r => { mepid := r.mepid, last := now }), lof := none, ais := false, seq := 0, ccmAt := none,
           checkAt := now, aisTermLast := none, aisNetLast := none }

def State.oamRestart (s : State) : State :=
  { s with ctx := { s.ctx with meps := s.ctx.meps.mapVals (fun _ => {}) (fun _ m => m.restart s.time.now) } }

end Sys2Proof.Machine
end

