-- ==== Sys2Proof/Machine/Pipeline.lean ====
section
/-! DEFINITION. Machine/Pipeline.lean: the packet pipelines (07): lookup slots, service classification, the rule stage, the
destination, Chainring passes, random tagging (R485) and the pipeline's commands. -/

namespace Sys2Proof.Machine

/-! ## Punts with and without a rule -/

/-- The rule index that a punt carries; the spec gives none for a punt that no rule made: a free value. -/
def State.ruleAux (s : State) : Option Nat → Nat × State
  | some i => (i, s)
  | none => (s.takeFree.1 % 2 ^ 32, s.takeFree.2)

/-- A frame is punted, with the index of the rule that won its lookup if one did (R226). -/
def State.puntBy (s : State) (sl class_ reason : Nat) (rule : Option Nat) (a : Parse) (p : Pkt) : State :=
  let r := s.ruleAux rule
  r.2.punt sl class_ reason r.1 a p

/-! ## Frames with their destination (R26, R180, R269) -/

/-- Marks the end of the forwarding lookup on a tagged frame (R486). -/
def Pkt.piped (p : Pkt) (now : Nat) : Pkt :=
  { p with rec_ := { p.rec_ with tag := p.rec_.tag.map (fun g => { g with pipe := some now }) } }

/-- Rate of a switch port in kbit/s: of a PON framer its FS frame bytes in 125 µs, as R295 counts them. -/
def State.portRate (s : State) (sp : Nat) : Nat := if sp < 192 then 64 * s.fsBytes sp else 1000 * s.macRate (sp - 192)

/-- Is a frame cut through (R275)? One frame for a group has no one egress port, and is stored whole: DESIGN CHOICE (log entry 82). -/
def State.cutsThrough (s : State) (sl : Nat) (f : VFrame) : Bool :=
  let p := f.pkt
  s.flg Reg.swCfg 0 && decide (192 ≤ p.rec_.inPort) && decide (p.rec_.inPort < 256) &&
    (match s.destQueue f with
     | none => false
     | some q =>
       let out := queuePort q
       f.dk != 2 && decide (out < 256) && decide (s.portRate out ≤ s.portRate p.rec_.inPort)
         && s.inputForm (s.queueSlice q) p == .clear && s.outputForm q p == .clear && (s.queue q).frames.isEmpty)

/-- A frame as it begins to come into its VOQ: an uplink port's in its first pass at the port's rate, any other whole (R275). -/
def State.asItComes (s : State) (sl : Nat) (f : VFrame) : VFrame :=
  let p := f.pkt.rec_
  if 192 ≤ p.inPort ∧ p.inPort < 256 ∧ p.pass = 0 then
    let c := s.cutsThrough sl f
    { f with
      begins := s.time.now, rate := s.macRate (p.inPort - 192), cut := c
      pkt := { f.pkt with rec_ := { p with tag := p.tag.map (fun g => { g with cut := c }) } } }
  else f

/-- A frame with its resolved destination enters a VOQ toward egress slice es. -/
def State.toVoq (s : State) (sl es dk dest epoch : Nat) (run : Nat × Nat) (out : Nat) (p : Pkt) : State :=
  let f : VFrame :=
  { id := s.sw.nextId, pkt := p.piped s.time.now, dk := dk, dest := dest, port := out, epoch := epoch, run := run, from_ := sl }
  ({ s with sw := { s.sw with nextId := s.sw.nextId + 1 } }).voqEnqueue (voqKey sl es p.rec_.tc (dk == 2)) (s.asItComes sl f) out

/-- To a switch port (R26): the host and management ports take the frame in its own slice. -/
def State.toPort (s : State) (sl sp : Nat) (p : Pkt) : State :=
  if !s.swValid sp then (s.bump .slcInvalidDestinationPort sl).dropPkt p sp 19
  else if sp = hostPort then s.hostForward sl (p.piped s.time.now)
  else if sp = mgmtPort then s.mgmtForward (p.piped s.time.now)
  else s.toVoq sl (s.swSlice sp) 1 sp (s.swPort sp).epoch (0, 0) sp p

/-- To the queue set of a binding (R180): its channel's port must be enabled (R26), but for a set that is held for a move
(R194). -/
def State.toBinding (s : State) (sl b : Nat) (p : Pkt) : State :=
  match s.bindingCtx b with
  | none => (s.bump .xNoEgress sl).dropPkt p 0xFFFF 0
  | some t =>
    if !s.swValid (t / 256) && !s.detachedCtx t then (s.bump .slcInvalidDestinationPort sl).dropPkt p (t / 256) 19
    else s.toVoq sl (t / 6144) 0 b (s.swPort (t / 256)).epoch (0, 0) (t / 256) p

/-- To a multicast group: one copy into the multicast VOQ of each slice that its members lie in (R269, R276). -/
def State.toGroup (s : State) (sl g : Nat) (flood : Bool) (p : Pkt) : State :=
  let x := s.ctx.groups.get (fun _ => {}) g
  let q := { p with rec_ := { p.rec_ with flood := flood, mcCopy := true } }
  if !x.valid || x.count == 0 then (s.bump .slcMcEmpty sl).dropPkt p 0xFFFF 27
  else
    let slices := (List.range 8).filter (fun e => x.slices.contains e || (e == sl && x.slices.contains 8))
    slices.foldl (fun s e => s.toVoq sl e 2 g 0 (x.base, x.count) 0xFFFF q) s

/-- To the member of a hash group of the slice (R224, R225); through a group of host rings a frame arrives under class
FORWARD. -/
def State.toHash (s : State) (sl g : Nat) (a : Parse) (p : Pkt) : State :=
  match (if g < 64 then s.groupPick sl g a p else none) with
  | none => (s.bump .slcNoMember sl).dropPkt p 0xFFFF 10
  | some m =>
    if s.flg (Reg.clsHg g) 31 sl then
      (if s.host.inReset then (s.bump .xHostPortDrop 0).dropPkt p hostPort 0 else s.ringDeliver m 2 (p.piped s.time.now) 8 0 0)
    else s.toPort sl m p

/-! ## The forwarding lookup (R235, R243) -/

/-- To the flood group of a service, or NO_FLOOD (08 Table 3). -/
def State.toFlood (s : State) (sl : Nat) (c : SvcCtx) (p : Pkt) : State :=
  if c.lValid && c.floodEn then s.toGroup sl c.floodGrp true p else (s.bump .slcNoFlood sl).dropPkt p 0xFFFF 13

/-- The destination of a lookup that misses (08 Tables 3 and 4). -/
def State.fwdMiss (s : State) (sl svc : Nat) (c : SvcCtx) (rule : Option Nat) (a : Parse) (p : Pkt) : State :=
  if bit (a.dmac / 2 ^ 40) 0 then s.toFlood sl c p
  else if !c.lValid then (s.bump .xUnkDa svc).dropPkt p 0xFFFF 0
  else
    match c.unkDa with
    | 0 => s.toFlood sl c p
    | 1 => s.puntBy sl 3 0 rule a p
    | _ => (s.bump .xUnkDa svc).dropPkt p 0xFFFF 0

/-- The destination of a lookup that hits an entry (08 Table 3). -/
def State.fwdHitTo (s : State) (sl : Nat) (e : FwdEntry) (a : Parse) (p : Pkt) : State :=
  if e.drop then (s.bump .slcFwdDrop sl).dropPkt p 0xFFFF 11
  else if p.rec_.src == some (e.dtype, e.dest) then (s.bump .slcSameSrc sl).dropPkt p 0xFFFF 12
  else
    match e.dtype with
    | 0 => s.toBinding sl e.dest p
    | 1 => s.toPort sl e.dest p
    | 2 => s.toHash sl e.dest a p
    | _ => s.toGroup sl e.dest false p

/-- A frame that has a source lookup (R243). -/
def Pkt.learns (p : Pkt) (a : Parse) : Bool :=
  !p.rec_.opaque_ && a.smac != 0 && !bit (a.smac / 2 ^ 40) 0 && p.rec_.src.isSome && decide (p.rec_.inPort < 256)

/-- The forwarding lookup of a frame under its service (R235, R243): the source in the same pass. -/
def State.forward (s : State) (sl svc : Nat) (rule : Option Nat) (a : Parse) (p : Pkt) : State :=
  let c := s.service svc
  if !c.valid then s.puntBy sl 0 0 rule a p
  else
    let found := s.fwdFind c.fid a.dmac
    let r := if p.learns a then s.sourceLookup sl svc a.smac (p.rec_.src.getD (0, 0)) else (s, false)
    let s1 := match found with
      | some l => r.1.setFwdUsed l true
      | none => r.1
    if r.2 then s1.dropPkt p 0xFFFF 0
    else
      match found with
      | some l => s1.fwdHitTo sl (s1.fwdRow l) a p
      | none => s1.fwdMiss sl svc c rule a p

/-! ## The rule stage (R217, R218) -/

/-- The lowest-numbered matching rule of a set, or the set's miss action. A set number above 63 names no set: its lookup
misses and its miss action is all zeros. -/
def State.ruleLookup (s : State) (sl set : Nat) (a : Parse) (p : Pkt) : Option Nat × Action :=
  let d : RuleSet := if set < 64 then s.ctx.ruleSets.get (fun _ => {}) (64 * sl + set) else {}
  let n := if d.ktype = 0 ∨ d.ktype = 1 then 8 else 0
  let key := buildKey p.rec_.keyCtx d.ktype a (s.userOf sl n a p)
  let lo := 24576 * sl + d.base
  match s.ctx.rules.find? (fun e => decide (lo ≤ e.1) && decide (e.1 < lo + d.size) && e.2.hits key) with
  | some e => (some (e.1 - 24576 * sl), Action.ofWord e.2.action)
  | none => (none, Action.ofWord d.miss)

/-- The fields that a pass replaces (R222); EDIT is that of the latest pass. -/
def FrameRec.take (r : FrameRec) (x : Action) : FrameRec :=
  { r with
    tc := if x.setTc then x.tc else r.tc
    dscp := if x.setDscp then some x.dscp else r.dscp
    svc := if x.setSvc then some x.svc else r.svc
    meter := if x.setMeter then some x.meter else r.meter
    meta_ := if x.meta_ = 0 then r.meta_ else x.meta_
    edit := x.edit
    vid := x.vid }

/-- The host copy of a frame: it makes no record or stamp of its own. -/
def Pkt.hostCopy (p : Pkt) : Pkt := { p with rec_ := { p.rec_ with mcCopy := true, tsReq := false } }

/-- COPY_HOST: at most one copy of a frame (R222). -/
def State.copyHost (s : State) (sl : Nat) (rule : Option Nat) (x : Action) (a : Parse) (p : Pkt) : State × Pkt :=
  if x.copyHost && !p.rec_.copied then
    (s.puntBy sl 5 0 rule a p.hostCopy, { p with rec_ := { p.rec_ with copied := true } })
  else (s, p)

/-- Bytes that the frames of a Chainring take, with their internal headers (R221). -/
def loopBytes (l : List Pkt) : Nat := (l.map (fun p => p.data.length + 16)).sum

/-- The EDIT of a pass that ends in the Chainring; of an OPAQUE frame no header is known, and the edit is an anomaly. -/
def chainEdit (a : Parse) (p : Pkt) : List Byte × Bool :=
  if p.rec_.opaque_ then (p.data, p.rec_.edit != 0) else applyEdit a p.rec_.edit p.rec_.vid p.rec_.tc p.data

/-- DEST 5: the pass's EDIT, then the slice's Chainring (R221). -/
def State.toChain (s : State) (sl next : Nat) (a : Parse) (p : Pkt) : State :=
  let e := chainEdit a p
  let s1 := if e.2 then s.bump .slcEditAnomalies sl else s
  let q : Pkt :=
  { rec_ := { p.rec_ with pass := p.rec_.pass + 1, nextSet := next, edit := 0, vid := 0,
                          len := e.1.length },
    data := e.1 }
  let x := s1.slice sl
  if s1.fld Reg.clsCfg 1 0 sl < q.rec_.pass then (s1.bump .slcMaxPassDrops sl).dropPkt p (256 + sl) 18
  else if 262144 < loopBytes x.chain + (e.1.length + 16) then (s1.bump .slcChainringDrops sl).dropPkt p (256 + sl) 17
  else s1.setSlice sl { x with chain := x.chain ++ [q] }

/-- Steps 2 and 3 of R220. -/
def State.byPin (s : State) (sl : Nat) (rule : Option Nat) (a : Parse) (p : Pkt) : State :=
  match p.rec_.pin with
  | 1 => s.toBinding sl p.rec_.pinVal p
  | 2 => s.toPort sl p.rec_.pinVal p
  | _ =>
    let svc := p.rec_.svc.getD 0
    if p.rec_.opaque_ then ((s.bump .slcNoDest sl).bump .svcNoDest svc).dropPkt p 0xFFFF 9
    else s.forward sl svc rule a p

/-- The rule stage of a pass, and the frame's destination (R218, R220). -/
def State.rulePass (s : State) (sl set : Nat) (a : Parse) (p0 : Pkt) : State :=
  let l := s.ruleLookup sl set a p0
  let x := l.2
  let p1 : Pkt := { p0 with rec_ := p0.rec_.take x }
  let s1 := if x.count then (s.bump .ruleFrames (65536 * sl + x.counter)).bump .ruleBytes (65536 * sl + x.counter) p0.data.length else s
  let c := s1.copyHost sl l.1 x a p1
  let s2 := c.1
  let p := c.2
  match x.dest with
  | 0 => s2.byPin sl l.1 a p
  | 1 => s2.toPort sl x.arg p
  | 2 => s2.toHash sl x.arg a p
  | 3 => s2.dropPkt p 0xFFFF 0
  | 4 => s2.puntBy sl 2 (x.arg % 256) l.1 a p
  | 5 => s2.toChain sl x.arg a p
  | _ => (s2.bump .xDestBad sl).dropPkt p 0xFFFF 0

/-! ## Parser verdicts (R209 to R211) -/

/-- The action of a failure code (R210). -/
def State.failAct (s : State) (sl code : Nat) : Nat := s.fld Reg.prsFail (2 * code - 1) (2 * code - 2) sl

/-- A frame that goes on past the parser: failed walks and fragments by their registers (R210, R211). -/
def State.afterParse (s : State) (sl : Nat) (a : Parse) (p : Pkt) (k : State → Parse → State) : State :=
  let act := s.failAct sl a.pfail
  if a.pfail ≠ 0 ∧ act = 0 then s.puntBy sl 1 a.pfail none a p
  else if a.pfail ≠ 0 ∧ act ≠ 2 then (s.bump .slcParseFailureDrops sl).dropPkt p 0xFFFF 7
  else if a.frag then
    match s.fld Reg.prsCfg 17 16 sl with
    | 0 => s.puntBy sl 4 0 none a p
    | 1 => k s (zeroL4 a)
    | _ => (s.bump .slcFragmentDrops sl).dropPkt p 0xFFFF 8
  else k s a

/-- A link-constrained frame that the slice traps (R209). -/
def State.trapped (s : State) (sl : Nat) (a : Parse) : Bool :=
  s.flg Reg.clsCfg 16 sl && a.dmac / 16 == 0x0180C200000 && a.dmac != 0x0180C2000001 && a.l3t != 4

/-! ## Service classification (R212 to R215) -/

/-- The set of a match key in a slice (R213). -/
def matchSet (k mode ovid ivid : Nat) : Nat := crc32c 0 (toBe 1 k ++ toBe 1 mode ++ toBe 2 ovid ++ toBe 2 ivid) % 4096

/-- The ways of the set of a match key. -/
def matchWays (sl k mode ovid ivid : Nat) : List Nat :=
  (List.range 8).map (fun w => 8 * (4096 * sl + matchSet k mode ovid ivid) + w)

def State.matchAt (s : State) (w : Nat) : Match_ := s.ctx.matches_.get (fun _ => {}) w

/-- The way that holds a match key. -/
def State.matchFind (s : State) (sl k mode ovid ivid : Nat) : Option Nat :=
  (matchWays sl k mode ovid ivid).find? (fun w =>
    let m := s.matchAt w
    m.valid && m.k == k && m.mode == mode && m.ovid == ovid && m.ivid == ivid)

/-- The service of a frame of logical port k (R213): MODE 2, MODE 1, MODE 0. -/
def State.matchService (s : State) (sl k : Nat) (a : Parse) : Option Nat :=
  let v (n : Nat) : Nat := tciAt a n % 4096
  let m2 := if 2 ≤ a.tcis.length then s.matchFind sl k 2 (v 0) (v 1) else none
  let m1 := if 1 ≤ a.tcis.length then s.matchFind sl k 1 (v 0) 0 else none
  (match m2, m1 with
   | some w, _ => some w
   | none, some w => some w
   | none, none => s.matchFind sl k 0 0 0).map (fun w => (s.matchAt w).svc)

/-- The upstream map entry of an XGEM port context. -/
def State.mapEntry (s : State) (n : Nat) : MapUp := s.ctx.mapUp.get (fun _ => {}) n

/-- The carrier word before the SDU of a sealed service (R323). -/
def State.carry (s : State) (p : Pkt) : Pkt :=
  if p.rec_.opaque_ && (s.sealOf p).valid then
    { rec_ := { p.rec_ with carrier := true, len := p.rec_.len + 8 },
      data := toBe 2 p.rec_.xport ++ toBe 3 p.rec_.opts ++ toBe 3 0 ++ p.data }
  else p

/-- What an upstream map entry gives a frame (07 Table 3): PIN 3 is treated as 0 and counted. -/
def State.mapped (s : State) (m : MapUp) (p : Pkt) : State × Pkt :=
  (if m.pin = 3 then s.bump .xPinBad p.rec_.pctx else s,
   { p with rec_ := { p.rec_ with svc := some m.svc, pin := if m.pin = 3 then 0 else m.pin, pinVal := m.pinVal } })

/-- The side on which a CFM frame arrives (R343): terminal side with its binding, or network side with its port. -/
def Pkt.side (p : Pkt) : Option (Bool × Nat) :=
  if p.rec_.inPort < 192 then p.rec_.src.map (fun x => (true, x.2))
  else if p.rec_.inPort < 256 then some (false, p.rec_.inPort - 192)
  else none

/-- A frame bound to its service (R215): OAM, then the rule stage of its first pass. A host frame keeps the class and the
metadata of its descriptor. -/
def State.inService (s : State) (sl svc : Nat) (a : Parse) (p0 : Pkt) : State :=
  let c := s.service svc
  if !c.valid then s.puntBy sl 0 0 none a p0
  else
    let s1 := (s.bump .svcIngressFrames svc).bump .svcIngressBytes svc p0.rec_.len
    let own := p0.rec_.inPort == hostPort
    let p1 : Pkt :=
    { p0 with rec_ := { p0.rec_ with tc := if own then p0.rec_.tc else c.defTc, meta_ := if own then p0.rec_.meta_ else c.meta_ } }
    let p := s1.carry p1
    let o : State × OamVerdict :=
      match (if a.l3t = 4 then p.side else none), a.l3 with
      | some x, some off => s1.oamOffer svc x.1 x.2 (p.data.drop off)
      | _, _ => (s1, .pass)
    match o.2 with
    | .taken => o.1.dropPkt p 0xFFFF 0
    | .punt n => o.1.puntBy sl 6 0 (some n) a p
    | .pass => o.1.rulePass sl c.ruleSet a p

/-- Service classification of a frame on its first pass (R212 to R214). -/
def State.classify (s : State) (sl : Nat) (a : Parse) (p : Pkt) : State :=
  let ip := p.rec_.inPort
  if ip < 192 then
    let m := s.mapEntry p.rec_.pctx
    if !m.valid then s.puntBy sl 0 0 none a p
    else
      let r := s.mapped m p
      r.1.inService sl m.svc a r.2
  else if ip < 256 then
    match s.matchService sl (ip - 192) a with
    | none => s.puntBy sl 0 0 none a p
    | some v => s.inService sl v a { p with rec_ := { p.rec_ with svc := some v, src := some (s.uplinkSource (ip - 192)) } }
  else
    match p.rec_.svc with
    | none => s.puntBy sl 0 0 none a p
    | some v => s.inService sl v a p

/-- MSEC_UNPROT (R333): STRICT drops what is not MACsec from a port. -/
def State.unprotected (s : State) (a : Parse) (p : Pkt) : Bool :=
  decide (192 ≤ p.rec_.inPort) && decide (p.rec_.inPort < 256) && (s.msecTxOf (p.rec_.inPort - 192)).en
    && (s.msecTxOf (p.rec_.inPort - 192)).strict && a.l3t != 7

/-- The first pass of a frame from its parser on (R206 to R215). The SDU of an OPAQUE entry is not parsed (R208). -/
def State.firstPass (s : State) (sl : Nat) (p0 : Pkt) : State :=
  let m := s.mapEntry p0.rec_.pctx
  let p : Pkt := { p0 with rec_ := { p0.rec_ with opaque_ := decide (p0.rec_.inPort < 192) && m.valid && m.opaque_ } }
  let a := s.parse sl p
  if !p.rec_.opaque_ && s.trapped sl a then s.puntBy sl 6 0 none a p
  else if s.unprotected a p then (s.bump .uplMsecUnprot (p.rec_.inPort - 192)).dropPkt p 0xFFFF 0
  else s.afterParse sl a p (fun s b => s.classify sl b p)

/-! ## Random tagging (R485) -/

/-- The Galois LFSR x^32 + x^22 + x^2 + x + 1, shifting right. -/
def lfsrNext (x : Nat) : Nat := if x % 2 = 1 then Nat.xor (x / 2) 0x80200003 else x / 2

/-- The state of a slice's LFSR; before the first load, as at a load of the reset SEED. -/
def State.lfsr (s : State) (sl : Nat) : Nat := s.cnt.lfsr.get (fun k => 0xACE10001 + k) sl

/-- The LFSR advances; the frame is tagged when the low K bits of its new state are zero. -/
def State.tagFrame (s : State) (sl : Nat) (p : Pkt) : State × Pkt :=
  let x := lfsrNext (s.lfsr sl)
  let s1 := { s with cnt := { s.cnt with lfsr := s.cnt.lfsr.set (fun k => 0xACE10001 + k) sl x } }
  let k := min 24 (s.fld Reg.cntSamp 4 0)
  if k = 0 ∨ x % 2 ^ k ≠ 0 then (s1, p)
  else
    let stamp := p.rec_.tick * tickU + p.rec_.frac * tickU / 256
    let g : Tag := { id := s1.sw.nextId, slice := sl, start := s.time.now - (s.tu - stamp) }
    ({ s1 with sw := { s1.sw with nextId := s1.sw.nextId + 1 }, cnt := { s1.cnt with tagged := s1.cnt.tagged ++ [g.id] } },
     { p with rec_ := { p.rec_ with tag := some g } })

/-- A frame takes a lookup slot on its first pass: bandwidth, tagging, then its way. -/
def State.enters (s : State) (sl : Nat) (p : Pkt) : State × Pkt :=
  (s.bwAdd p.rec_.inPort false p.data.length).tagFrame sl p

/-! ## Lookup slots (R204) -/

/-- A frame without an ingress stamp takes the instant of its lookup. -/
def State.stampNow (s : State) (p : Pkt) : Pkt := { p with rec_ := p.rec_.stamped s.time s.tu }

/-- The window of 64 core cycles with what host and management have taken in it, and the core cycle with its four slots. -/
def State.slotWindow (s : State) (sl : Nat) : State :=
  let w := s.cycle / 64
  s.updSlice sl (fun x0 =>
    let x := if x0.window = w then x0 else { x0 with window := w, hostTook := 0 }
    if x.slotCycle = s.cycle then x else { x with slotCycle := s.cycle, slotsUsed := 0, chainServed := false, served := [] })

/-- A slot of the running core cycle is left for a port: a frame that waits in the Chainring has the first. -/
def Slice.slotFree (x : Slice) : Bool := decide (x.slotsUsed + (if x.chain.isEmpty || x.chainServed then 0 else 1) < 4)

/-- A frame of the host or management port takes a slot, the host's first. Every descriptor of a host frame completes with
the frame's length (R441). -/
def State.hostLookup (s : State) (sl : Nat) : State :=
  let x := s.slice sl
  match x.hostQ, x.mgmtQ with
  | h :: rest, _ =>
    let s1 := s.setSlice sl { x with hostQ := rest, hostTook := x.hostTook + 1, slotsUsed := x.slotsUsed + 1 }
    let s2 := h.1.foldl (fun (s : State) (id : Nat) => s.finish id Status.ok h.2.1.data.length) s1
    let r := s2.enters sl (s2.stampNow h.2.1)
    match h.2.2 with
    | some sp => r.1.toPort sl sp r.2
    | none => r.1.firstPass sl r.2
  | [], m :: rest =>
    let s1 := s.setSlice sl { x with mgmtQ := rest, hostTook := x.hostTook + 1, slotsUsed := x.slotsUsed + 1 }
    let r := s1.enters sl (s1.stampNow m.1)
    r.1.toPort sl m.2 r.2
  | [], [] => s

/-- The port whose turn it is: the first with a waiting frame that has had none of this core cycle's slots, from the one after the
last served. -/
def Slice.nextPort (x : Slice) : Option Nat := ((List.range 256).map (fun i => (x.rot + 1 + i) % 256)).find? (fun p =>
  x.ingress.any (fun e => e.1 == p) && !x.served.contains p)

/-- The oldest waiting frame of a port, and the rest. -/
def takeOf (port : Nat) : List (Nat × Pkt) → Option (Pkt × List (Nat × Pkt))
  | [] => none
  | e :: es => if e.1 = port then some (e.2, es) else (takeOf port es).map (fun r => (r.1, e :: r.2))

/-- INGRESS_LOOKUP: the next lookup slot of a slice but for the Chainring's; four a core cycle in all (R204). -/
def State.lookupDo (s0 : State) (sl : Nat) : State :=
  let s := s0.slotWindow sl
  let x := s.slice sl
  let waits := !x.hostQ.isEmpty || !x.mgmtQ.isEmpty
  if x.unit != .running then (if waits || !x.ingress.isEmpty then s.wakeSlice sl else s)
  else if !x.slotFree then s
  else if waits && decide (x.hostTook < min 64 (s.fld Reg.clsCfg 15 8 sl)) then s.hostLookup sl
  else
    match x.nextPort with
    | none => s.hostLookup sl
    | some port =>
      match takeOf port x.ingress with
      | none => s
      | some r =>
        let s1 := s.setSlice sl { x with ingress := r.2, rot := port, slotsUsed := x.slotsUsed + 1, served := port :: x.served }
        let e := s1.enters sl { r.1 with rec_ := { r.1.rec_ with held := false } }
        e.1.firstPass sl e.2

/-- CHAINRING_PASS: the frame at the head of the Chainring takes a slot (R204, R221). -/
def State.chainDo (s0 : State) (sl : Nat) : State :=
  let s := s0.slotWindow sl
  let x := s.slice sl
  match x.chain with
  | [] => s
  | p :: rest =>
    if x.unit != .running then s.wakeSlice sl
    else if x.chainServed || decide (4 ≤ x.slotsUsed) then s
    else
      let s1 := s.setSlice sl { x with chain := rest, chainServed := true, slotsUsed := x.slotsUsed + 1 }
      let a := s1.parse sl p
      s1.afterParse sl a p (fun s b => s.rulePass sl p.rec_.nextSet b p)

/-! ## Commands (07 Table 11) -/

/-- A section of a service context is written as one line. -/
def State.writeService (s : State) (v : Nat) (f : SvcCtx → SvcCtx) : State :=
  s.ctxWrite (fun c => { c with services := c.services.upd (fun _ => {}) v f })

/-- SVC_SET (07 Table 4). -/
def opSvcSet (x : Slot) (s : State) : Turn :=
  withLen x 8 s fun b =>
    (s.writeService x.spec (fun c =>
      { c with valid := bufBit b 0 0, defTc := bits (byteAt b 0) 3 1, ruleSet := bits (byteAt b 1) 5 0, fid := leAt b 2 2,
               meta_ := leAt b 4 2 })).ok

/-- SVC_LEARN (08 Table 4; the buffer holds bytes 8 to 15 of the context). -/
def opSvcLearn (x : Slot) (s : State) : Turn :=
  withLen x 8 s fun b =>
    (s.writeService x.spec (fun c =>
      { c with lValid := bufBit b 0 0, mode := bits (byteAt b 0) 2 1, excess := bufBit b 0 3, unkDa := bits (byteAt b 0) 5 4,
               floodEn := bufBit b 0 6, limit := leAt b 2 2, floodGrp := leAt b 4 2 })).ok

/-- SVC_MAP_UP. -/
def opSvcMapUp (x : Slot) (s : State) : Turn :=
  withLen x 16 s fun b =>
    let n := leAt b 0 4
    checks [(decide (n > 786431) || n / 4096 / 24 != x.spec, Status.portRange)] s fun _ =>
      let v : MapUp :=
      { svc := leAt b 4 2, valid := bufBit b 6 0, pin := bits (byteAt b 6) 2 1, opaque_ := bufBit b 6 3, pinVal := leAt b 8 4 }
      (s.ctxWrite (fun c => { c with mapUp := c.mapUp.set (fun _ => {}) n v })).ok

/-- The match entry of a buffer (R213): a VID that its MODE does not use is taken as 0. DESIGN CHOICE (log entry 79): a MODE above 2
is stored, under a key that no search uses; the spec gives it no meaning and no status. -/
def matchOf (b : List Byte) : Match_ :=
  let mode := byteAt b 1
  { valid := true, k := byteAt b 0, mode := mode, ovid := if mode = 0 then 0 else leAt b 2 2, ivid := if mode ≤ 1 then 0 else leAt b 4 2,
    svc := leAt b 6 2 }

/-- k is not owned by the slice. -/
def State.portNotOwned (s : State) (sl k : Nat) : Bool := !s.lpExists k || s.portSlice k != sl

/-- SVC_MATCH_ADD. -/
def opSvcMatchAdd (x : Slot) (s : State) : Turn :=
  withLen x 8 s fun b =>
    let m := matchOf b
    let free := (matchWays x.spec m.k m.mode m.ovid m.ivid).find? (fun w => !(s.matchAt w).valid)
    let place := match s.matchFind x.spec m.k m.mode m.ovid m.ivid with
      | some w => some w
      | none => free
    checks [(place.isNone, Status.svcFull), (s.portNotOwned x.spec m.k, Status.svcPort)] s fun _ =>
      (s.ctxWrite (fun c => { c with matches_ := c.matches_.set (fun _ => {}) (place.getD 0) m })).ok

/-- SVC_MATCH_DEL. -/
def opSvcMatchDel (x : Slot) (s : State) : Turn :=
  withLen x 8 s fun b =>
    let m := matchOf b
    let place := s.matchFind x.spec m.k m.mode m.ovid m.ivid
    checks [(s.portNotOwned x.spec m.k, Status.svcPort), (place.isNone, Status.matchNone)] s fun _ =>
      (s.ctxWrite (fun c => { c with matches_ := c.matches_.set (fun _ => {}) (place.getD 0) {} })).ok

/-- Entry i of a RULE_WRITE buffer: its index and the rule. -/
def ruleOf (b : List Byte) (i : Nat) : Nat × Rule :=
  let e := cut b (144 * i) 144
  (leAt e 136 4, { valid := bufBit e 140 0, value := leAt e 0 60, mask := leAt e 60 60, action := leAt e 120 16 })

/-- RULE_WRITE (R228): every entry is checked before any is written. -/
def opRuleWrite (x : Slot) (s : State) : Turn :=
  withBuf x (fun l => l % 144 == 0 && decide (l ≤ 9216)) s fun b =>
    let l := (List.range (x.len / 144)).map (ruleOf b)
    checks [(decide (x.spec > 7) || l.any (fun e => decide (24575 < e.1)), Status.ruleRange)] s fun _ =>
      (l.foldl (fun (s : State) (e : Nat × Rule) =>
        s.ctxWrite (fun c => { c with rules := c.rules.set (fun _ => {}) (24576 * x.spec + e.1) e.2 })) s).ok

/-- RSET_WRITE (R228). -/
def opRsetWrite (x : Slot) (s : State) : Turn :=
  withLen x 24 s fun b =>
    let d : RuleSet := { ktype := bits (byteAt b 1) 1 0, base := leAt b 2 2, size := leAt b 4 2, miss := leAt b 8 16 }
    checks [(d.ktype == 3 || decide (d.base + d.size > 24576) || decide (byteAt b 0 > 63) || decide (x.spec > 7), Status.rsetBad)] s fun _ =>
      (s.ctxWrite (fun c => { c with ruleSets := c.ruleSets.set (fun _ => {}) (64 * x.spec + byteAt b 0) d })).ok

/-- INDIR_WRITE (R224): entries in buffer order. -/
def opIndirWrite (x : Slot) (s : State) : Turn :=
  withBuf x (fun l => decide (4 ≤ l) && l % 2 == 0) s fun b =>
    let g := byteAt b 0
    let first := leAt b 2 2
    let n := (x.len - 4) / 2
    if n = 0 then s.ok
    else
      checks [(decide (first + n > 512) || decide (g > 63) || decide (x.spec > 7), Status.indirRange)] s fun _ =>
        ((List.range n).foldl (fun (s : State) (i : Nat) =>
          s.ctxWrite (fun c => { c with indir := c.indir.set (fun _ => 0) (512 * (64 * x.spec + g) + first + i) (leAt b (4 + 2 * i) 2) })) s).ok

end Sys2Proof.Machine
end

