-- ==== Sys2Proof/Machine/Uplinks.lean ====
section
/-! DEFINITION. Machine/Uplinks.lean: uplink ports and their lanes (13 R354 to R372): bring-up, down events, monitors,
Freewheel, received frames; and the recovered-clock outputs (15 R420 to R423). -/

namespace Sys2Proof.Machine

/-! ## Lanes -/

def UplPort.lane (x : UplPort) (j : Nat) : Lane := (x.lanes.drop j).headD {}

/-- The port with its lanes listed, one changed. -/
def UplPort.setLane (x : UplPort) (n j : Nat) (f : Lane → Lane) : UplPort :=
  { x with lanes := (List.range n).map (fun i => if i = j then f (x.lane i) else x.lane i) }

def State.lane (s : State) (p j : Nat) : Lane := (s.port p).lane j
def State.updLane (s : State) (p j : Nat) (f : Lane → Lane) : State := s.updPort p (fun x => x.setLane s.lanesPerPort j f)
/-- All lanes of a port. -/
def State.lanesOf (s : State) (p : Nat) : List Lane := (List.range s.lanesPerPort).map (s.lane p)

def State.portEn (s : State) (p : Nat) : Bool := s.flg Reg.uplCtrl 0 p
/-- The receiver of a lane runs: its port is enabled, the lane exists and has left Kickstand. -/
def State.laneRuns (s : State) (p j : Nat) : Bool :=
  s.portEn p && decide (j < s.lanesPerPort) && (s.lane p j).state != .kickstand
/-- A mode without FEC (13 Table 2). -/
def State.noFec (s : State) (p : Nat) : Bool :=
  s.lanesPerPort == 1 && (s.fld Reg.uplCfg 1 0 p == 2 || (s.fld Reg.uplCfg 1 0 p == 1 && !s.flg Reg.uplCfg 4 p))

/-! ## Recovered-clock outputs (R420, R421) -/

def State.rclk (s : State) (n : Nat) : Rclk := if n = 0 then s.time.rclk0 else s.time.rclk1
def State.setRclk (s : State) (n : Nat) (r : Rclk) : State :=
  if n = 0 then { s with time := { s.time with rclk0 := r } } else { s with time := { s.time with rclk1 := r } }

def State.rclkSrc (s : State) (n : Nat) : Nat := s.fld (Reg.timRclk n) 6 0

/-- Symbol rate of the lanes of a port, in kBd (13 Table 2). -/
def State.symbolRate (s : State) (p : Nat) : Nat :=
  if s.lanesPerPort = 1 then
    match s.fld Reg.uplCfg 1 0 p with
    | 1 => 25781250
    | 2 => 10312500
    | _ => 53125000
  else 53125000

/-- A setting under which an output is held low: no source, or a frequency above 250 MHz (R420). -/
def State.rclkBad (s : State) (n : Nat) : Bool :=
  let src := s.rclkSrc n
  let div := s.fld (Reg.timRclk n) 10 8
  if src ≥ 65 then true
  else if src = 64 then decide (156250 / 2 ^ div > 250000)
  else decide (s.symbolRate (src / s.lanesPerPort) > 250000 * 2 ^ (div + 4))

/-- No squelch condition of a lane-sourced output stands (R421). -/
def State.rclkClean (s : State) (n : Nat) : Bool :=
  let src := s.rclkSrc n
  let p := src / s.lanesPerPort
  let l := s.lane p (src % s.lanesPerPort)
  s.life.pwr != .standby && (src == 64 || ((s.port p).up && s.portEn p && !l.los && !l.lol && l.state != .kickstand && l.state != .freewheel))

/-- An output is squelched or resumes, with its report (R421). -/
def State.rclkPut (s : State) (n : Nat) (squelched : Bool) : State :=
  let r := s.rclk n
  if r.squelched = squelched then s
  else ((s.setRclk n { r with squelched := squelched }).report
    { cls := 9, cause := .rclkSquelch, site := siteTime, obj := n, exit_ := !squelched }).raise 4 (3 + n)

/-- One output brought up to date: squelched at once, clean time noted, resumed at once without HOLD or from REFCLK_ETH. -/
def State.rclkEval (s : State) (n : Nat) : State :=
  if s.rclkBad n || !s.rclkClean n then (s.setRclk n { s.rclk n with clean := none }).rclkPut n true
  else
    let s1 := s.setRclk n { s.rclk n with clean := some ((s.rclk n).clean.getD s.time.now) }
    if s.rclkSrc n = 64 ∨ s.fld (Reg.timRclk n) 31 24 = 0 then s1.rclkPut n false else s1

def State.rclkAll (s : State) : State := (s.rclkEval 0).rclkEval 1

/-- A write of `TIM_RCLKn`: the clean time of the new source starts afresh; a bad setting is counted (R420). -/
def State.rclkWrite (s : State) (n : Nat) (v : Word) : State :=
  let s1 := s.setReg (Reg.timRclk n) v
  let s2 := (s1.setRclk n { s1.rclk n with clean := none }).rclkEval n
  if s2.rclkBad n then s2.bump .xRclkBad n else s2

/-- RCLK_RESUME: no condition has stood for HOLD × 10 ms. -/
def State.rclkResume (s : State) (n : Nat) : State :=
  match (s.rclk n).clean with
  | some t =>
    if !s.rclkBad n && s.rclkClean n && decide (t + s.fld (Reg.timRclk n) 31 24 * 10 * msU ≤ s.time.now) then s.rclkPut n false else s
  | none => s

/-- FREQUENCY_GATE: the offset measured over a gate (R423), in 0.001 ppm, held in 31 bits. -/
def State.frequencyGate (s : State) (n : Nat) (foff : Int) : State :=
  if s.rclkSrc n ≥ 65 || !s.time.refOk then s
  else s.setRclk n { s.rclk n with foff := max (-(2 ^ 30 : Int)) (min foff (2 ^ 30 - 1)) }

/-! ## Up and down (R360, R361, R372) -/

/-- A report of a port or lane (class 7). -/
def State.uplReport (s : State) (p : Nat) (cause : Cause) (lane : Nat) (exit_ : Bool) : State :=
  s.report { cls := 7, cause := cause, site := sitePort p, obj := p, obj2 := lane, exit_ := exit_ }

/-- `UPL_MON.SRC`, with 3 acting as 2 (R371). -/
def State.monSrc (s : State) (p : Nat) : Nat := min 2 (s.fld Reg.uplMon 1 0 p)
/-- Counts a judgement made under SRC 3. -/
def State.countSrc3 (s : State) (p : Nat) : State := if s.fld Reg.uplMon 1 0 p = 3 then s.bump .xUplSrc3 p else s

/-- The conditions of R360 but for the hold. -/
def State.upConds (s : State) (p : Nat) : Bool :=
  let x := s.port p
  s.portEn p && x.leaving.isNone && x.deskewed && !x.lf && !x.rf &&
    (s.lanesOf p).all (fun l => l.lock && (s.monSrc p == 1 || (!l.los && !l.lol)))

/-- The minimum down time and the flush of a port are over (R271). -/
def State.mayRise (s : State) (p : Nat) : Bool :=
  let x := s.swPort (192 + p)
  x.flush.isNone && (match x.downAt with
    | some d => decide (d + 20 * usU ≤ s.time.now)
    | none => true)

/-- Link-up is reported once the hold is over and R271 lets it (13 Table 3 step 7). -/
def State.tryUp (s : State) (p : Nat) : State :=
  let x := s.port p
  if x.up || !x.held || !s.mayRise p then s
  else
    let s1 := s.setPort p { x with up := true, lastEligible := s.time.now }
    let s2 := s1.setSwPort (192 + p) { s1.swPort (192 + p) with downAt := none }
    ((s2.uplReport p .uplinkUp 0 false).raise (6 + s.portSlice p) 4).rclkAll

/-- The receive side of a port that transmits detects Local Fault: it is not aligned, or receives Local Fault (R356, 13 Table 3 step 2). -/
def UplPort.localFault (x : UplPort) : Bool := !x.lanes.isEmpty && (!x.deskewed || x.lf)

/-- Remote Fault is sent while Local Fault is detected (R356). -/
def State.rfEval (s : State) (p : Nat) : State :=
  let x := s.port p
  if x.rfSent = x.localFault then s else (s.setPort p { x with rfSent := x.localFault }).emit (.remoteFault p x.localFault)

/-- The hold of R360 starts, goes on, or ends where a condition fails; Remote Fault follows the receive side. -/
def State.holdEval (s : State) (p : Nat) : State :=
  let s := s.rfEval p
  let x := s.port p
  if x.up then s
  else if !s.upConds p then s.setPort p { x with holdSince := none, held := false }
  else
    let x1 := { x with holdSince := some (x.holdSince.getD s.time.now) }
    if s.fld Reg.uplCfg 23 16 p = 0 then (s.setPort p { x1 with held := true }).tryUp p else s.setPort p x1

/-- UP_HOLD_EXPIRY. -/
def State.upHoldEnd (s : State) (p : Nat) : State :=
  let x := s.port p
  match x.holdSince with
  | some t => if t + s.fld Reg.uplCfg 23 16 p * 100 * usU ≤ s.time.now then (s.setPort p { x with held := true }).tryUp p else s
  | none => s

/-- An up port goes down with a cause (R361, R270, R372). -/
def State.goDown (s : State) (p cause : Nat) : State :=
  let x := s.port p
  if !x.up then s
  else
    let s1 := s.setPort p { x with up := false, cause := cause, downSince := s.time.now, holdSince := none, held := false, txFw := none }
    let s2 := (((s1.bump .uplDownEvents p).portDown (192 + p)).dropPasses (192 + p)).uplReport p .uplinkDown cause false
    (s2.raise (6 + s.portSlice p) 4).rclkAll

/-- FLUSH_END: the flush of a switch port completes (R270, R271). -/
def State.flushEndDo (s : State) (sp : Nat) : State :=
  if (s.swPort sp).flush.isNone then s
  else
    let s1 := s.setSwPort sp { s.swPort sp with flush := none }
    if 192 ≤ sp ∧ sp < 256 then s1.tryUp (sp - 192) else s1

/-- PORT_MINIMUM_DOWN_EXPIRY: 20 µs after the down event (R271). -/
def State.minDownEnd (s : State) (p : Nat) : State := if s.mayRise p then s.tryUp p else s

/-! ## Enable, disable, bring-up (R355, R359, R362) -/

/-- Why an enable is refused (13 Table 11); 0: it is not. -/
def State.uplRefusal (s : State) (p : Nat) : Nat :=
  if !s.lpExists p then 1
  else if s.lanesPerPort = 1 ∧ s.fld Reg.uplCfg 1 0 p = 3 then 2
  else if s.fld Reg.uplLock 22 20 p = 0 ∨ s.fld Reg.uplLock 18 16 p = 0 ∨ s.fld Reg.uplLock 15 8 p = 0 ∨ s.fld Reg.uplLock 7 0 p = 0 then 3
  else 0

/-- Every lane in Kickstand: adaptation, lock and monitors are gone. -/
def UplPort.kickstand (x : UplPort) : UplPort :=
  { x with lanes := [], deskewed := false, lf := false, rf := false, leaving := none, holdSince := none, held := false, txFw := none,
           rxFw := none, rxFwLanes := [], rfSent := false }

/-- PORT_ENABLE: 1 is written to `UPL_CTRL.EN`. -/
def State.portEnableDo (s : State) (p : Nat) : State :=
  if s.portEn p then s
  else
    match s.uplRefusal p with
    | 0 =>
      (s.setBit Reg.uplCtrl 0 true p).updPort p (fun x => { x.kickstand with leaving := some s.time.now, downSince := s.time.now })
    | n => (s.updPort p (fun x => { x with refuse := n })).bump .uplRefusedEnables p

/-- PORT_DISABLE: 0 is written: the down event with cause 1, then Kickstand (R361). -/
def State.portDisableDo (s : State) (p : Nat) : State :=
  if !s.portEn p then s
  else (((s.goDown p 1).setBit Reg.uplCtrl 0 false p).updPort p (·.kickstand)).rclkAll

/-- KICKSTAND_EXIT_DONE: the lanes transmit, with Remote Fault, and adapt; LOS stands on each until the partner's signal is found, where
the LOS detector is on (log entry 44). -/
def State.kickstandExit (s : State) (p : Nat) : State :=
  let x := s.port p
  if !s.portEn p || x.leaving.isNone then s
  else
    (s.setPort p { x with
      leaving := none,
      lanes := List.replicate s.lanesPerPort { state := .adapting, los := s.fld Reg.uplMon 11 4 p != 0 } }).rfEval p

/-- ADAPTATION_DONE: a lane's equaliser has adapted and its CDR is locked (13 Table 3 step 4). -/
def State.adaptationDone (s : State) (p j : Nat) : State :=
  let l := s.lane p j
  if s.laneRuns p j && l.state == .adapting && !l.los then s.updLane p j (fun l => { l with state := .running }) else s

/-- Headers or markers that give a lane lock (R363, R364). -/
def State.lockAt (s : State) (p : Nat) : Nat := if s.noFec p then s.fld Reg.uplLock 7 0 p else s.fld Reg.uplLock 18 16 p
/-- Invalid headers of 64, or missing markers, that lose it; SH_LOSS above 64 acts as 64 (13 Table 9). -/
def State.lossAt (s : State) (p : Nat) : Nat := if s.noFec p then min 64 (s.fld Reg.uplLock 15 8 p) else s.fld Reg.uplLock 22 20 p

/-- LANE_LOCK: `n` consecutive headers or markers; with the last lane the port is deskewed (R363, R364, 13 Table 3 step 5). -/
def State.laneLock (s : State) (p j n : Nat) : State :=
  if !s.laneRuns p j || (s.lane p j).state == .adapting || decide (n < s.lockAt p) then s
  else
    let s1 := s.updLane p j (fun l => { l with lock := true })
    let s2 := if (s1.lanesOf p).all (·.lock) then s1.updPort p (fun x => { x with deskewed := true }) else s1
    s2.holdEval p

/-- A lane loses lock (13 Table 4). -/
def State.lockLost (s : State) (p j : Nat) : State :=
  if !s.laneRuns p j || !(s.lane p j).lock then s
  else
    let s1 := (s.updLane p j (fun l => { l with lock := false })).updPort p (fun x => { x with deskewed := false })
    ((s1.bump .uplLockLosses p).goDown p (if s.noFec p then 4 else 5)).holdEval p

/-- LOCK_LOSS (R363, R364): in Freewheel the receiver expects no header or marker (R368). -/
def State.lockLoss (s : State) (p j n : Nat) : State :=
  if n < s.lossAt p || (s.lane p j).state == .freewheel then s else s.lockLost p j

/-- DESKEW_FAIL: above 180 ns the lanes hunt for lock again (R362, R364; log entry 44). -/
def State.deskewFail (s : State) (p skew : Nat) : State :=
  if !s.portEn p || !(s.port p).deskewed || decide (skew ≤ 180000) then s
  else
    ((s.updPort p (fun x => { x with deskewed := false, lanes := x.lanes.map (fun (l : Lane) => { l with lock := false }) })).goDown p 6).holdEval p

/-- LOCAL_FAULT, REMOTE_FAULT: four consecutive fault sequences (13 Table 4). -/
def State.faultSeen (s : State) (p : Nat) (remote : Bool) : State :=
  if !s.portEn p || !(s.lanesOf p).all (·.lock) then s
  else
    let s1 := s.updPort p (fun x => if remote then { x with rf := true } else { x with lf := true })
    (s1.goDown p (if remote then 8 else 7)).holdEval p

/-- FAULT_SEQUENCES_END: the named kinds are received no more. -/
def State.faultsEnd (s : State) (p : Nat) (loc rem : Bool) : State :=
  (s.updPort p (fun x => { x with lf := x.lf && !loc, rf := x.rf && !rem })).holdEval p

/-- RECOVERY_CYCLE: the lanes of a port that stays down enter Kickstand and bring-up starts again (R362). -/
def State.recoveryCycle (s : State) (p : Nat) : State :=
  let x := s.port p
  let n := s.fld Reg.uplCfg 31 24 p
  if !s.portEn p || x.up || n == 0 || decide (s.time.now < x.downSince + n * 10 * msU) then s
  else (s.setPort p { x.kickstand with leaving := some s.time.now, downSince := s.time.now }).rclkAll

/-! ## Monitors (R368, R370, R371) -/

/-- LOS is declared on a lane. -/
def State.losEnter (s : State) (p j : Nat) : State :=
  let s1 := ((s.updLane p j (fun l => { l with los := true })).bump .uplLosEntries p).uplReport p .los j false
  let s2 := s1.countSrc3 p
  ((if s.monSrc p = 1 then s2 else s2.goDown p 2).holdEval p).rclkAll

/-- LOS_DETECT: the amplitude has stayed below LOS_THR for 100 ns. After LPI the receiver enters Freewheel instead, whatever FW_EN says
of the transmitter (R368; log entry 44). -/
def State.losDetect (s : State) (p j mv : Nat) (afterLpi : Bool) : State :=
  let l := s.lane p j
  if !s.laneRuns p j || l.los || l.state == .freewheel || decide (s.fld Reg.uplMon 11 4 p ≤ mv) then s
  else if afterLpi && l.state == .running && s.fld Reg.uplLock 31 24 p != 0 then
    ((s.updLane p j (fun l => { l with state := .freewheel })).updPort p (fun x =>
      { x with rxFw := some (x.rxFw.getD s.time.now), rxFwLanes := x.rxFwLanes ++ [j] })).rclkAll
  else s.losEnter p j

/-- A lane leaves receive Freewheel. -/
def State.leaveRxFw (s : State) (p j : Nat) : State :=
  (s.updLane p j (fun l => { l with state := .running })).updPort p (fun x =>
    let rest := x.rxFwLanes.filter (· != j)
    { x with rxFwLanes := rest, rxFw := if rest.isEmpty then none else x.rxFw })

/-- The partner's quiet has lasted `UPL_LOCK.FW_MAX` ms. -/
def State.fwMaxOver (s : State) (p : Nat) : Bool :=
  match (s.port p).rxFw with
  | some t => decide (t + s.fld Reg.uplLock 31 24 p * msU ≤ s.time.now)
  | none => false

/-- FW_MAX_EXPIRY: LOS is declared with cause 2. -/
def State.fwMaxEnd (s : State) (p j : Nat) : State :=
  if (s.lane p j).state == .freewheel && s.fwMaxOver p then (s.leaveRxFw p j).losEnter p j else s

/-- RECEIVE_FREEWHEEL_EXIT: the signal returns; a LOS that falls due then prevails (R368). -/
def State.rxFwExit (s : State) (p j : Nat) : State :=
  if (s.lane p j).state != .freewheel then s
  else if s.fwMaxOver p then s.fwMaxEnd p j
  else (s.leaveRxFw p j).rclkAll

/-- LOS_CLEAR: the amplitude has stayed above LOS_THR for 10 µs. -/
def State.losClear (s : State) (p j mv : Nat) : State :=
  if !s.laneRuns p j || !(s.lane p j).los || decide (mv ≤ s.fld Reg.uplMon 11 4 p) then s
  else (((s.updLane p j (fun l => { l with los := false })).uplReport p .los j true).holdEval p).rclkAll

/-- LOL_DETECT: the CDR loses phase lock; suppressed in Freewheel. -/
def State.lolDetect (s : State) (p j : Nat) : State :=
  let l := s.lane p j
  if !s.laneRuns p j || l.lol || l.state != .running then s
  else
    let s1 := (((s.updLane p j (fun l => { l with lol := true })).bump .uplLolEntries p).uplReport p .lol j false).countSrc3 p
    ((if s.monSrc p = 1 then s1 else s1.goDown p 3).holdEval p).rclkAll

/-- LOL_CLEAR. -/
def State.lolClear (s : State) (p j : Nat) : State :=
  if !s.laneRuns p j || !(s.lane p j).lol then s
  else (((s.updLane p j (fun l => { l with lol := false })).uplReport p .lol j true).holdEval p).rclkAll

/-- A change of an eye state: its counter, report and interrupt. -/
def State.eyeState (s : State) (p j : Nat) (fail was now : Bool) : State :=
  if was = now then s
  else
    let s1 := if now then s.bump (if fail then .uplEyeFailEntries else .uplEyeDegradeEntries) p else s
    (s1.uplReport p (if fail then .eyeFail else .eyeDegrade) j (!now)).raise (6 + s.portSlice p) 5

/-- EYE_SWEEP: the end of a sweep (R370). -/
def State.eyeSweep (s : State) (p j h v : Nat) : State :=
  let l := s.lane p j
  if !s.laneRuns p j || l.state != .running || s.fld Reg.uplMon 31 24 p == 0 then s
  else
    let deg := s.fld Reg.uplMon 17 12 p
    let failAt := s.fld Reg.uplMon 23 18 p
    let low := if h < failAt then l.low + 1 else 0
    let good := if deg ≤ h then l.good + 1 else 0
    let degrade := (l.degrade && decide (good < 2)) || decide (h < deg)
    let fail := (l.fail && decide (good < 2)) || decide (2 ≤ low)
    let s1 := s.updLane p j (fun l => { l with eyeH := h, eyeV := v, low := low, good := good, degrade := degrade, fail := fail })
    let s2 := (s1.eyeState p j false l.degrade degrade).eyeState p j true l.fail fail
    if !fail || l.fail then s2
    else
      let s3 := s2.countSrc3 p
      if s.monSrc p = 0 then s3 else (s3.goDown p 9).holdEval p

/-! ## Transmit Freewheel (R366, R367) -/

/-- An egress queue of a port holds an eligible frame. -/
def State.portEligible (s : State) (p : Nat) : Bool := ((s.portSettle p).portPick p).isSome

/-- TRANSMIT_FREEWHEEL_ENTRY: LPI is sent, then electrical idle. -/
def State.txFwEnter (s : State) (p : Nat) : State :=
  let x := s.port p
  if !s.flg Reg.uplCfg 7 p || !x.up || x.txFw.isSome || s.portEligible p
    || decide (s.time.now < x.lastEligible + s.fld Reg.uplCfg 15 8 p * usU) then s
  else (s.setPort p { x with txFw := some s.time.now }).emit (.lineIdle p true false)

/-- TRANSMIT_FREEWHEEL_EXIT: the driver is restored, with a training burst unless LPI is still being sent. -/
def State.txFwExit (s : State) (p : Nat) : State :=
  match (s.port p).txFw with
  | none => s
  | some t =>
    if !s.portEligible p then s
    else
      (s.updPort p (fun x => { x with txFw := none, lastEligible := s.time.now })).emit
        (.lineIdle p false (decide (t + usU ≤ s.time.now)))

/-! ## Received frames (R357, R365, R411) -/

/-- Counts what the RS-FEC of each lane has found (R365). -/
def State.countFec (s : State) (p : Nat) (fec : List (Nat × Nat × Nat)) : State :=
  fec.foldl (fun (s : State) (x : Nat × Nat × Nat) =>
    if x.1 < s.lanesPerPort then
      (s.bump (.uplCorrectedSymbolsLane x.1) p x.2.1).bump (.uplUncorrectableCodewordsLane x.1) p x.2.2
    else s) s

/-- UPLINK_FRAME_RX: the MAC's checks, then the ingress buffer of the port's slice. The four bytes of the FCS count in the
length limits. -/
def State.uplFrameRx (s : State) (p : Nat) (frame : List Byte) (fcsOk : Bool) (fec : List (Nat × Nat × Nat)) : State :=
  if !(s.port p).up then s
  else
    let s1 := s.countFec p fec
    let n := frame.length + 4
    if fec.any (fun x => decide (x.2.2 ≠ 0)) then s1.bump .xUplCodeword p
    else if !fcsOk then s1.bump .uplFcsErrors p
    else if n < 64 then s1.bump .uplRunts p
    else if n > 16383 then s1.bump .uplOversize p
    else if beAt frame 12 2 = 0x8808 then s1.bump .uplMacControlDrops p
    else
      let r : FrameRec := { len := frame.length, inPort := 192 + p }
      let r1 := r.stamped s.time s.tu
      let r2 := { r1 with present := r1.present - ((s.fld Reg.timUplDly 15 0 p * nsP / 1000 : Nat) : Int) }
      ((s1.bump .uplRxFrames p).bump .uplRxBytes p frame.length).enterSlice (s.portSlice p) (192 + p) { rec_ := r2, data := frame }

end Sys2Proof.Machine
end

