-- ==== Sys2Proof/Machine/Life.lean ====
section
/-! DEFINITION. Machine/Life.lean: the life of the device: fast-clock units (01 R27 to R34), channels enabled, disabled and
reset (R44, R99, R519 to R521), sensors and the thermal trip (R465, R525), cold, warm and host reset, and standby (20). -/

namespace Sys2Proof.Machine

/-- The fast clocks run and no reset stands: the data plane takes its events. -/
def State.clocksRun (s : State) : Bool :=
  !s.life.por && s.life.warm == .none && !s.life.tripped && s.life.pwr == .running

/-- What the data plane does while its clocks run; nothing otherwise. -/
def State.fastDo (s : State) (k : State → State) : State := if s.clocksRun then k s else s

/-- What the always-on domain does: everything outside cold reset and a held warm reset (R510, R517). -/
def State.alwaysDo (s : State) (k : State → State) : State := if s.life.por || s.life.warm != .none then s else k s

/-! ## Slices and channel units (R27 to R34) -/

/-- A command whose RING_SPEC names a slice. -/
def sliceOpcode (op : Nat) : Bool := (decide (0x32 ≤ op) && decide (op ≤ 0x37)) || op == 0x40 || (decide (0x43 ≤ op) && decide (op ≤ 0x47))

/-- A command whose RING_SPEC names a channel: it is one for the channel's slice. -/
def chanOpcode (op : Nat) : Bool :=
  (decide (0x10 ≤ op) && decide (op ≤ 0x12)) || (decide (0x16 ≤ op) && decide (op ≤ 0x1A)) || (decide (0x20 ≤ op) && decide (op ≤ 0x25))

/-- A command for a slice is pending (R27): fetched, and not complete. -/
def State.sliceCommand (s : State) (sl : Nat) : Bool :=
  s.host.slots.any (fun x => (x.phase == .fetched || x.phase == .ready || x.phase == .effect)
    && ((sliceOpcode x.opcode && x.spec == sl) || (chanOpcode x.opcode && x.spec / 24 == sl)))

/-- Cells are queued in a slice or for it: in its VOQs, on the way to it, in its egress queues or its residue store. -/
def State.sliceCells (s : State) (sl : Nat) : Bool :=
  s.sw.voqs.any (fun e => (e.1 / 128 == sl || e.1 / 16 % 8 == sl) && !e.2.frames.isEmpty)
    || s.sw.cells.any (fun x => x.voq / 16 % 8 == sl)
    || s.sw.reseq.any (fun e => e.1 / 16 % 8 == sl && !e.2.held.isEmpty)
    || s.sw.queues.any (fun e => s.queueSlice e.1 == sl && !e.2.frames.isEmpty)
    || !(s.residueOf sl).isEmpty

/-- SLICE_STOP (R27, R28): no frame for 100 µs, no cell, no command. -/
def State.sliceStop (s : State) (sl : Nat) : State :=
  let x := s.slice sl
  if x.unit == .running && decide (x.lastUse + 100 * usU ≤ s.time.now) && x.ingress.isEmpty && x.hostQ.isEmpty && x.mgmtQ.isEmpty
    && x.chain.isEmpty && !s.sliceCells sl && !s.sliceCommand sl then
    s.setSlice sl { x with unit := .stopped, stoppedAt := some s.time.now }
  else s

/-- SLICE_WAKE_DONE (R27, R30): the slice accepts work; the frames that it held wait in their ports' order. -/
def State.sliceWakeDone (s : State) (sl : Nat) : State :=
  let x := s.slice sl
  if x.unit == .waking then s.setSlice sl { x with unit := .running, lastUse := s.time.now } else s

/-- A channel that may run: enabled, not being reset, and the PON lanes are out of Kickstand (R373). -/
def State.chanMayRun (s : State) (c : Nat) : Bool := s.flg Reg.pchCtrl 0 c && (s.ch c).resetting.isNone && s.life.live

/-- Work for a stopped channel starts its unit, and transmit-disable goes (R27, R29, R376); a unit that has stopped in this core
cycle stays running (R28). -/
def State.chanWake (s : State) (c : Nat) : State :=
  if s.chanMayRun c && s.chanWork c && (s.ch c).unit == .stopped then
    let kept := s.thisCycle (s.ch c).stoppedAt
    (s.updCh c (fun p => { p with unit := if kept then .running else .waking, framing := kept })).txDis c false
  else s

/-- CHANNEL_UNIT_WAKE_DONE (R27, R32): the unit of an enabled channel with work runs; framing follows at the next PHY frame
boundary. -/
def State.chanWakeDone (s : State) (c : Nat) : State :=
  if s.chanMayRun c && s.chanWork c && (s.ch c).unit != .running then
    (s.updCh c (fun p => { p with unit := .running, idleFrames := 0 })).txDis c false
  else s

/-- The eighth PHY frame without work of a channel has ended (R27). -/
def State.idleOver (s : State) (c : Nat) : Bool :=
  let p := s.ch c
  !s.chanWork c && (decide (9 ≤ p.idleFrames) || (p.idleFrames == 8 && decide (s.phyFrame < s.frameNo)))

/-- CHANNEL_UNIT_STOP (R27, R29): the channel is disabled, or has been without work for eight frames. A unit that still wakes
when its channel is disabled stops too. -/
def State.chanUnitStop (s : State) (c : Nat) : State :=
  let p := s.ch c
  let en := s.flg Reg.pchCtrl 0 c
  if p.unit == .stopped then s
  else if (!en && !p.framing) || (en && p.unit == .running && s.idleOver c) then
    (s.stopFraming c).updCh c (fun p => { p with unit := .stopped, stoppedAt := if en then some s.time.now else none, idleFrames := 0 })
  else s

/-! ## Enable, disable and reset of a channel (R44, R91, R99, R519 to R521) -/

/-- A valid profile has a zero or out-of-range field (02 Table 8, R91). -/
def State.profileFieldBad (s : State) (c n : Nat) : Bool :=
  let dlm := s.bp c n 19 16
  s.bp c n 31 24 == 0 || !(dlm == 4 || dlm == 8) || s.bp c n 15 8 == 0 || s.bp c n 3 0 == 0 || decide (8 < s.bp c n 3 0)
    || (s.usRate c == 4 && (!s.flg (Reg.pchBpCtl n) 20 c || dlm != 8))

/-- Why an enable is refused (02 Table 4); 0: it is not. The lowest-numbered cause. -/
def State.enableRefusal (s : State) (c : Nat) : Nat :=
  let valid := (List.range 4).filter (s.bpValid c)
  let brst := s.fld Reg.pchBrst 7 0 c + s.fld Reg.pchBrst 15 8 c
  if !modeOk (s.mode c) (s.usRate c) then 1
  else if !s.bpValid c 0 then 2
  else if valid.any (s.profileFieldBad c) then 3
  else if valid.any (fun n => decide (s.bp c n 3 0 * s.bp c n 15 8 < 16)) then 4
  else if valid.any (fun n => decide (s.bp c n 31 24 < brst)) then 5
  else if s.fld Reg.pchDln 2 0 c = 0 ∨ s.fld Reg.pchDln 6 4 c = 0 then 6
  else 0

/-- Some record is eligible on a channel. -/
def State.anyEligible (s : State) (c : Nat) : Bool := s.records.any (fun e => s.recordEligible c e.1)

/-- The checks of R44: the channel starts, or EN falls back to 0. Where framing has not stopped yet, what was queued before the
disable is not sent (R51, R271). -/
def State.enableCheck (s : State) (c : Nat) : State :=
  match s.enableRefusal c with
  | 0 =>
    let s1 := (if (s.ch c).stopping then s.cutTail c else s).setBit Reg.pchCtrl 0 true c
    (s1.updCh c (fun p => { p with used := true, eligible := s1.anyEligible c, rounds := .idle, firstDone := false, stopping := false,
                                   idleFrames := 0 })).chanWake c
  | n =>
    (((s.setBit Reg.pchCtrl 0 false c).updCh c (fun p => { p with refuse := n })).bump .chRefusedEnables c).raise (chanGroup c) 0

/-- CHANNEL_ENABLE (R44); during a channel reset EN reads 1 and the checks wait (R521). The spec does not say what a write of 1
does while EN reads 1: DESIGN CHOICE, no check is made and nothing changes (log entry 1). -/
def State.channelEnableDo (s : State) (c : Nat) : State :=
  if s.flg Reg.pchCtrl 0 c then s
  else if (s.ch c).resetting.isSome then s.setBit Reg.pchCtrl 0 true c
  else s.enableCheck c

/-- The context of a terminal when its channel is disabled (R99). -/
def State.disableTermOf (c : Nat) (s : State) (e : Nat × Term) : State :=
  match e.2.state with
  | .assigned | .ranging => s.freeTerm c e.1
  | .operation => if e.2.detached then s else s.loseTerm c e.1 3 0
  | _ => s

/-- CHANNEL_DISABLE (R99, R143, R267): moves, contexts, the port's down event; framing stops at the next PHY frame boundary. -/
def State.channelDisableDo (s : State) (c : Nat) : State :=
  if !s.flg Reg.pchCtrl 0 c then s
  else if (s.ch c).resetting.isSome then s.setBit Reg.pchCtrl 0 false c
  else
    let s1 := (s.setBit Reg.pchCtrl 0 false c).channelGone c
    let s2 := (s1.termsOf c).foldl (State.disableTermOf c) s1
    let s3 := (s2.portDown c).dropPasses c
    s3.updCh c (fun p => { p with stopping := p.framing, eligible := false, rounds := .idle, ploamHost := [], ploamHw := [], disc := [] })

/-- A port context that a channel reset leaves to a move: its terminal has passed its detach. -/
def State.portKept (s : State) (k : Nat) : Bool := s.detachedCtx (256 * (k / 4096) + (s.ctx.xgem.get (fun _ => {}) k).term)

/-- The tables of a channel after its reset (R520, item 1). -/
def State.clearChannelTables (s : State) (c : Nat) : State :=
  let keepPort (k : Nat) : Bool := k / 4096 != c || s.portKept k
  let keepSla (k : Nat) : Bool := k / 1024 != c || s.detachedCtx (256 * c + (s.slaOf c (k % 1024)).term)
  let s1 := s.ctxWrite (fun t => { t with sla := t.sla.keep keepSla, xgem := t.xgem.keep keepPort, mapUp := t.mapUp.keep keepPort })
  { s1 with allocs := s1.allocs.keep keepSla, sdus := s1.sdus.keep keepPort }

/-- Requests of a channel's line leave the cipher subsystem. -/
def State.dropLineReqs (s : State) (c : Nat) : State :=
  let ours (r : CphReq) : Bool := match r.user with
    | .upKs k _ _ _ => k == c
    | .dsKs k => k == c
    | .mic k => k == c
    | .pass port _ _ => port == c
  (s.cph.reqs.filter ours).foldl State.failReq
    { s with cph := { s.cph with waiting := s.cph.waiting.filter (fun r => !ours r) } }

/-- CHANNEL_RESET (R519 to R521): everything of the channel that R520 names. -/
def State.channelResetDo (s : State) (c : Nat) : State :=
  if (s.ch c).resetting.isSome then s.bump .xChannelResetAgain c
  else if s.flg Reg.pchCtrl 0 c then s
  else
    let spilled := s.sw.queues.any (fun e => s.flushTakes c e.1 && decide (0 < e.2.spilled))
    let s1 := (s.channelGone c).clearChannelTables c
    let s2 := (((s1.termsOf c).filter (fun e => e.2.state != .free && !e.2.detached)).map (·.1)).foldl (fun (s : State) i => s.freeTerm c i) s1
    let s3 := (((s2.portDown c).cutTail c).dropLineReqs c).resetChannelTm c s2.detachedCtx
    let s4 := (s3.setGnt c { snapped := (s.gntCh c).snapped }).txDis c true
    s4.updCh c (fun p =>
      { used := p.used, eligible := s3.anyEligible c, txDisable := true, resetting := some (s.time.now, spilled), upFrame := p.upFrame, rssi := p.rssi,
        refTokens := p.refTokens, referred := p.referred, quarantine := p.quarantine, admitted := p.admitted, parked := p.parked })

/-- CHANNEL_RESET_DONE (R521): the checks of R44 where EN was written 1 meanwhile. -/
def State.channelResetEnd (s : State) (c : Nat) : State :=
  if (s.ch c).resetting.isNone then s
  else
    let s1 := s.updCh c (fun p => { p with resetting := none, used := false })
    if s1.flg Reg.pchCtrl 0 c then s1.enableCheck c else s1

/-- DISCOVERY_ENABLE (R103, 04 Table 2): refused beyond 60.0 km, or 40.0 km of differential, or with PERIOD below 8. -/
def State.discEnableDo (s : State) (c : Nat) : State :=
  let min_ := s.fld Reg.actReach 9 0 c
  let diff := s.fld Reg.actReach 25 16 c
  if min_ + diff > 600 ∨ diff > 400 ∨ s.fld Reg.actDisc 7 1 c < 8 then (s.setBit Reg.actDisc 0 false c).bump .xDiscRefused c
  else (s.setBit Reg.actDisc 0 true c).chanWake c

/-! ## Resets that act on the host interface (R21, R452, R453) -/

/-- Registers of the HIF block. -/
def inHif (off : Nat) : Bool := decide (0x100000 ≤ off) && decide (off < 0x140000)
/-- The host path's select registers (instance 0). -/
def isSelect (off : Nat) : Bool := off == Reg.pchSel || off == Reg.slcSel || off == Reg.uplSel || off == Reg.cclSel

/-- Commands of a ring that goes: those fetched take effect, and their completions are discarded (R21, R452). Posted buffers,
counter pages and the descriptors of a chain without its end go with their ring. -/
def Slot.orphaned (p : Nat → Bool) (x : Slot) : Slot := if p x.ring then { x with orphan := true, events := [] } else x

/-- A descriptor that waits only for its ring: a receive buffer or a counter page. -/
def Slot.standing (x : Slot) : Bool := x.opcode == Op.rxBuf || x.opcode == Op.cntPage

/-- A descriptor of a chain whose last descriptor was not fetched: its frame is not sent (R21). -/
def State.openChain (s : State) (x : Slot) : Bool :=
  (x.opcode == Op.pktTx || x.opcode == Op.omciTx) && bit x.flags 3 &&
    !s.host.slots.any (fun y => y.ring == x.ring && y.opcode == x.opcode && y.orphan == x.orphan && decide (x.id < y.id) && !bit y.flags 3)

/-- The slots after the rings that a test names have gone. -/
def State.orphanRings (s : State) (p : Nat → Bool) : State :=
  { s with
    host := { s.host with
      slots := (s.host.slots.filter (fun x => !(p x.ring && (x.standing || s.openChain x)))).map (Slot.orphaned p),
      rings := s.host.rings.filter (fun e => !p e.1) },
    cnt := { s.cnt with pages := s.cnt.pages.filter (fun g => !p g.ring) } }

/-- The stored status fields whose Kept over column is a dash go to their reset values (R9): PCH_STAT.REFUSE, GNT_STAT, UPL_STAT
REFUSE and CAUSE, the eye openings of SDS_LSTAT, CXM_STAT.ERR. Fields that show a live state go on showing it. -/
def State.clearDashes (s : State) : State :=
  let eye (l : Lane) : Lane := { l with eyeH := 0, eyeV := 0 }
  { s with
    chans := s.chans.mapVals (fun _ => {}) (fun _ p => { p with refuse := 0 })
    gnt := s.gnt.mapVals (fun _ => {}) (fun _ g => { g with last := 0, peak := 0 })
    upl := s.upl.mapVals (fun _ => {}) (fun _ x => { x with refuse := 0, cause := 0, lanes := x.lanes.map eye })
    cxm := { s.cxm with err := 0 } }

/-- The host interface goes into reset (R21, R453): HIF registers except PCIE_ONLY, rings, interrupt and MSI-X state, the
mailbox's request and reply; and the status fields that no reset keeps (R9). The time unit keeps all its state (R425). -/
def State.hostDown (s : State) : State :=
  let only := s.flg Reg.hifCfg 24
  let s1 := (s.orphanRings (fun _ => true)).clearDashes
  let s2 := { s1 with
    regs := s1.regs.filter (fun e => !(inHif (e.1 % 0x4000000) || (e.1 < 0x4000000 && isSelect e.1) || e.1 == Reg.fltInj)),
    host := { slots := s1.host.slots, nextSlot := s1.host.nextSlot },
    mgt := { s1.mgt with mbx := { s1.mgt.mbx with pending := none, reply := false } } }
  s2.setBit Reg.hifCfg 24 only

/-- HOST_RESET. A reset that is already in force, a warm reset and a trip hold the interface down themselves. -/
def State.hostResetDo (s : State) : State :=
  if s.life.por || s.life.warm != .none || s.life.tripped then s else s.hostDown

/-- HOST_LINK_TRAINED (R426, R427): CXL mode where the host accepts it and PCIE_ONLY is 0. -/
def State.linkTrained (s : State) (cxl : Bool) (width rate : Nat) : State :=
  if s.life.por || s.life.warm != .none || s.life.tripped then s
  else
    { s with host := { s.host with inReset := false, cxl := cxl && !s.flg Reg.hifCfg 24, width := width % 32, rate := rate % 8 } }

/-- VF_FLR (R452): that VF's rings, their entries and its counter pages. The ring window of a VF stands. -/
def State.vfReset (s : State) (v : Nat) : State :=
  if s.host.inReset || s.host.cxl || v = 0 then s
  else
    let mine (r : Nat) : Bool := s.vfHolds r v
    let entry (off : Nat) : Bool := decide (0x110000 ≤ off) && decide (off < 0x118000) && mine ((off - 0x110000) / 0x20)
    let s1 := s.orphanRings mine
    { s1 with regs := s1.regs.filter (fun e => !entry (e.1 % 0x4000000)),
              host := { s1.host with msix := s1.host.msix.filter (fun e => e.1 / 65536 != v) } }

/-! ## Cold and warm reset (R509 to R518) -/

/-- The outputs fall silent: transmit-disable on every channel, PPS_OUT low. -/
def State.quietOutputs (s : State) : State :=
  let s1 := (s.chans.map (·.1)).foldl (fun (s : State) c => s.txDis c true) s
  if s1.time.ppsOut then ({ s1 with time := { s1.time with ppsOut := false } }).emit (.ppsOut false) else s1

/-- What every reset of the device keeps: the model's own fields, time, fuses, flash, device memory (R507, R509). -/
def State.resetBase (s : State) : State :=
  { State.reset with
    pending := s.pending, outs := s.outs, free := s.free,
    time := { now := s.time.now, refOk := s.time.refOk },
    life := { fuseSecv := s.life.fuseSecv, fuseProgrammed := s.life.fuseProgrammed, fuseRevoked := s.life.fuseRevoked },
    ctxShadow := s.ctxShadow, records := s.records,
    fwd := { shadow := s.fwd.shadow },
    cxm := { directory := s.cxm.directory, mem := s.cxm.mem },
    mgt := { flash := s.mgt.flash, flashLog := s.mgt.flashLog, jtag := s.mgt.jtag } }

/-- COLD_RESET (R510): PORn falls. -/
def State.coldResetDo (s : State) : State :=
  if s.life.por then s
  else
    let s1 := s.quietOutputs.resetBase
    { s1 with life := { s1.life with por := true } }

/-- COLD_START (R402, R512): PORn rises; the tick counter starts at 0. -/
def State.coldStartDo (s : State) : State :=
  if !s.life.por then s
  else { s with life := { s.life with por := false }, time := { s.time with tick := 0, tickFrac := 0 } }

/-- Keys of `HBM_DLYn`. -/
def isHbmDly (k : Nat) : Bool := decide (Reg.hbmDly 0 ≤ k) && decide (k ≤ Reg.hbmDly 63)

/-- The device after steps 1 to 4 of a warm reset (20 Tables 2 and 4); the cause as `GLB_RSTC` gives it. -/
def State.warmState (s : State) (cause : Nat) : State :=
  let s1 := s.quietOutputs
  let b := s1.resetBase
  { b with
    time := { b.time with tick := s1.time.tick, tickFrac := s1.time.tickFrac },
    phyFrame := s1.phyFrame,
    life := { b.life with rstCount := min 65535 (s1.life.rstCount + 1), rstCause := cause, warm := .held },
    regs := s1.regs.keep isHbmDly,
    mgt := { b.mgt with log := s1.mgt.log, logSeq := s1.mgt.logSeq, logRead := s1.mgt.logRead, logCopied := s1.mgt.logCopied } }

/-- WARM_RESET_START (R517, R518): WRSTn is sampled low, or the mailbox's 1 ms is over. -/
def State.warmStart (s : State) (wrst : Bool) : State :=
  let due := match s.life.warmDue with
    | some t => decide (t ≤ s.time.now)
    | none => false
  if s.life.por || s.life.tripped || s.life.warm != .none || !(wrst || due) then s
  else
    let s1 := s.warmState (if wrst then 1 else 2)
    s1.logWrite .warm LogCode.warm.sev ((Config.logItems [s1.life.rstCause] ++ List.replicate 16 0).take 16)

/-- WARM_RESET_RELEASE (20 Table 4 step 5). -/
def State.warmRelease (s : State) : State :=
  if s.life.warm == .held && !s.life.por then { s with life := { s.life with warm := .none } } else s

/-- The firmware writes `HBM_DLYn` from the board's delay record (17 Table 1 step 4): 3 bytes an entry, CA, RD_DQS, WR_DQ. -/
def State.writeDelays (s : State) (l : List Byte) : State :=
  (List.range 64).foldl (fun (s : State) n =>
    s.setReg (Reg.hbmDly n) (BitVec.ofNat 32 (byteAt l (3 * n) * 65536 + byteAt l (3 * n + 1) * 256 + byteAt l (3 * n + 2)))) s

/-- The board delays that the firmware reads at its boot: those of the record after a cold reset, none after a warm one (R456). -/
def State.delaysRead (s : State) : Option (List Byte) := if s.life.rstCause = 0 then s.boardDelays else none

/-- BOOT_READY (R456, R457, R511): the firmware of the ROM's choice is up; after a cold reset it has read the board delay record. The
row names the boot's outcome; one that is not what the boot finds in the flash is no boot of this device (log entry 57). -/
def State.bootReadyDo (s : State) (slot fwVer secVer : Nat) (delays : Option (List Byte)) : State :=
  if s.life.por || s.life.warm != .none || s.life.tripped || s.mgt.ready || s.mgt.switching || s.mgt.recovery then s
  else if s.bootChoice != some slot || !s.slotIs slot fwVer secVer || s.delaysRead != delays then s
  else
    let s1 :=
      if s.life.rstCause != 0 then s
      else match delays with
        | some l => s.writeDelays l
        | none => s.logMgt .dlyBad []
    s1.firmwareUp slot

/-! ## Sensors and the thermal trip (R465, R525) -/

/-- The thermal trip: THERMTRIPn, steps 1 to 3 of a warm reset, the stacks in self-refresh, the links down, the log entry. -/
def State.trip (s : State) : State :=
  let s1 := { s with life := { s.life with tripped := true, warm := .none, warmDue := none } }
  let s2 := (s1.emit .thermTrip).quietOutputs
  let s3 := { s2 with
    chans := s2.chans.mapVals (fun _ => {}) (fun _ p => { p with unit := .stopped, receiver := .stopped, framing := false, stopping := false }),
    upl := s2.upl.mapVals (fun _ => {}) (fun _ x => { x.kickstand with up := false }),
    cph := {},
    hbm := { s2.hbm with state := if s2.hbm.state == HbmState.notStarted then HbmState.notStarted else HbmState.selfRefresh, waking := false },
    cxm := { s2.cxm with link := false, cap := 0 } }
  s3.hostDown.logMgt .thermTrip []

/-- A threshold condition: it begins when a sensor reaches the level, and ends when every sensor is 2 °C below it. -/
def overLevel (was : Bool) (level : Int) (temps : List Int) : Bool :=
  temps.any (fun t => decide (4 * level ≤ t)) || (was && temps.any (fun t => decide (4 * (level - 2) < t)))

/-- SENSOR_SAMPLE (R465, R466, R525). -/
def State.sensorsDo (s : State) (temps : List Int) (volts : List Nat) : State :=
  if s.life.por then s
  else
    let warn := overLevel s.mgt.warn (signed 8 (s.fld Reg.mgtTherm 15 8)) temps
    let crit := overLevel s.mgt.crit (signed 8 (s.fld Reg.mgtTherm 23 16)) temps
    let s1 := { s with mgt := { s.mgt with temps := temps, volts := volts, warn := warn, crit := crit } }
    let s2 := if warn && !s.mgt.warn then s1.raise 3 0 else s1
    let s3 := if crit && !s.mgt.crit then s2.raise 3 1 else s2
    if !s.life.tripped && temps.any (fun t => decide (520 ≤ t)) then s3.trip else s3

/-! ## Standby (R522 to R524) -/

/-- Why a standby entry is refused (20 Table 8); 0: it is not. -/
def State.standbyRefusal (s : State) : Nat :=
  if (List.range 192).any (fun c => s.flg Reg.pchCtrl 0 c) || (List.range 64).any (fun p => s.flg Reg.uplCtrl 0 p) then 1
  else if s.chans.any (fun e => e.2.resetting.isSome) || s.sw.ports.any (fun e => e.2.flush.isSome) || !s.drl.moves.isEmpty then 2
  else if !s.life.locked then 3
  else 0

/-- The frames that slices, VOQs and egress queues hold are discarded; a frame of a PKT_TX descriptor has been taken. -/
def State.discardQueues (s : State) : State :=
  let taken := s.slices.flatMap (fun e => e.2.hostQ.flatMap (fun (h : List Nat × Pkt × Option Nat) => h.1.map (fun (i : Nat) => (i, h.2.1.rec_.len))))
  let s1 := taken.foldl (fun (s : State) (x : Nat × Nat) => s.finish x.1 Status.ok x.2) s
  let ahead := s1.sw.voqs.flatMap (fun e => e.2.frames.filter (fun (f : VFrame) => f.dk == 1))
  let s2 := ahead.foldl (fun (s : State) (f : VFrame) => s.dropPkt f.pkt f.dest 6) s1
  let s3 := s2.clearQueues (fun _ => true)
  { s3 with
    slices := s3.slices.mapVals (fun _ => {}) (fun _ x => { x with unit := .stopped, ingress := [], hostQ := [], mgmtQ := [], chain := [] }),
    sw := { s3.sw with voqs := [], cells := [], reseq := [], residue := [], withhold := [] },
    fwd := { s3.fwd with queues := [] }, sdus := [],
    cnt := { s3.cnt with local_ := [], stat := 0, bw := [], samples := [], tagged := [] } }

/-- Clusters zeroise their staging and gate; what they held is gone, and generations that only they kept are zeroised. -/
def State.gateClusters (s : State) : State :=
  let s1 := { s with cph := { s.cph with reqs := [], waiting := [], clusters := [] } }
  ((s1.cph.keys.filter (fun e => e.2.retired.isSome)).map (·.1)).foldl State.zeroise s1

/-- Standby is in force (20 Table 5, steps 2 to 5; fetched commands have taken effect before). -/
def State.standbyDo (s : State) : State :=
  let s1 := s.discardQueues.gateClusters.clearDashes
  let s2 := { s1 with
    life := { s1.life with pwr := .standby },
    chans := s1.chans.mapVals (fun _ => {}) (fun _ p =>
      { p with unit := .stopped, receiver := .stopped, framing := false, stopping := false, pend := [], planned := [], deferred := [],
               parked := [], disc := [], dsLoad := 0, usLoad := 0 }),
    gnt := s1.gnt.mapVals (fun _ => {}) (fun _ g => { snapped := g.snapped, coop := g.coop, rot := g.rot }),
    upl := s1.upl.mapVals (fun _ => {}) (fun _ x => x.kickstand),
    hbm := { s1.hbm with state := .selfRefresh, waking := false, prefetch := [], panic := [] },
    flt := { s1.flt with inject := none },
    mgt := { s1.mgt with mbx := { s1.mgt.mbx with reply := false } },
    regs := s1.regs.filter (fun e => e.1 != Reg.fltInj) }
  s2.rclkAll

/-- STANDBY_EXIT (R524): buckets full, credits 0, OAM endpoints and gate lists restart, the held reports go to the host. -/
def State.standbyLeave (s : State) : State :=
  if s.life.pwr != .standby then s
  else
    let s1 := ({ s with life := { s.life with pwr := .running } }).fillBuckets.oamRestart
    let q := s1.flt.queue
    q.foldl State.reportEvent (({ s1 with flt := { s1.flt with queue := [] } }).rclkAll)

end Sys2Proof.Machine
end

