-- ==== Sys2Proof/Machine/Telemetry.lean ====
section
/-! DEFINITION. Machine/Telemetry.lean: the counter reader (18): sweeps, counter pages, bandwidth windows, tagging. -/

namespace Sys2Proof.Machine

/-! ## Counter set kinds (18 Table 1) -/

/-- A counter set kind: objects, counters per object, objects per page, and whether VF-mappable processes may read it. -/
structure CtrKind where
  objects : Nat
  cpo : Nat
  perPage : Nat
  deriving DecidableEq, Repr

/-- 18 Table 1, kinds 0 to 17. -/
def ctrKinds : List CtrKind := [
  { objects := 192, cpo := 32, perPage := 15 },
  { objects := 49152, cpo := 16, perPage := 31 },
  { objects := 394752, cpo := 8, perPage := 63 },
  { objects := 64, cpo := 40, perPage := 12 },
  { objects := 2048, cpo := 8, perPage := 63 },
  { objects := 65536, cpo := 8, perPage := 63 },
  { objects := 266, cpo := 8, perPage := 63 },
  { objects := 8, cpo := 64, perPage := 7 },
  { objects := 262144, cpo := 8, perPage := 63 },
  { objects := 524288, cpo := 2, perPage := 252 },
  { objects := 16384, cpo := 8, perPage := 63 },
  { objects := 1, cpo := 64, perPage := 1 },
  { objects := 32, cpo := 16, perPage := 31 },
  { objects := 131072, cpo := 4, perPage := 126 },
  { objects := 65536, cpo := 8, perPage := 63 },
  { objects := 1, cpo := 256, perPage := 1 },
  { objects := 1, cpo := 64, perPage := 1 },
  { objects := 9, cpo := 0, perPage := 0 }]

def ctrKind (k : Nat) : CtrKind := (ctrKinds.drop k).headD { objects := 0, cpo := 0, perPage := 0 }

/-- An accumulator (R475, R477). -/
def State.acc (s : State) (c : Ctr) (obj : Nat) : Nat := s.cnt.acc.get (fun _ => 0) (c.key obj)

/-- A key of a counter of the catalogue; the others are the model's own (log entry 12). -/
def keyListed (k : Nat) : Bool := decide (k / 2 ^ 40 < 17)

/-! ## Pages (R478, R479) -/

/-- OBJECTS of a page (R478); `window` is the end of a VF's service window. -/
def pageObjects (kind first : Nat) (window : Option Nat) : Nat :=
  let k := ctrKind kind
  let n := min k.perPage (k.objects - first)
  match window with
  | some e => min n (e - first)
  | none => n

/-- The counters of a page. -/
def State.pageBody (s : State) (p : Page) : List Byte :=
  let cpo := (ctrKind p.kind).cpo
  (List.range p.objects).flatMap (fun k => (List.range cpo).flatMap (fun i => toLe 8 (s.acc ⟨p.kind, i⟩ (p.first + k))))

/-- Bytes 8 to 4,095 of a page. -/
def State.pageRest (s : State) (p : Page) (from_ to_ : Nat) : List Byte :=
  let head := toLe 2 p.kind ++ toLe 2 (ctrKind p.kind).cpo ++ toLe 4 p.first ++ toLe 4 p.objects ++ toLe 4 0 ++ toLe 8 from_ ++ toLe 8 to_
    ++ List.replicate 24 0
  let b := head ++ s.pageBody p
  b ++ List.replicate (4088 - b.length) 0

/-- The completion of a page is rewritten (R479, R487). -/
def State.pageDone (s : State) (p : Page) : State :=
  let size := s.ringSize p.ring
  (s.emit (.completion p.ring p.idx (s.ringCmpl p.ring + 16 * (p.idx % size)) 0 s.cnt.stat p.cookie (phaseOf size p.idx) false)).ringSignal p.ring

/-- A page is rewritten for the sweep just made (R479). -/
def State.pageWrite (tick : Nat) (s : State) (p : Page) : State :=
  if !s.ringRuns p.ring then s
  else
    let s1 :=
      if p.kind = 17 then s
      else
        let n := s.cnt.sweep
        ((s.emit (.dma p.addr (toLe 8 (2 * n - 1)))).emit (.dma (p.addr + 8) (s.pageRest p tick tick))).emit (.dma p.addr (toLe 8 (2 * n)))
    s1.pageDone p

/-! ## Bandwidth windows (R484) -/

/-- One direction of a port at the end of a window. -/
def BwDir.close (d : BwDir) : BwDir :=
  { cur := 0, last := d.cur, min := if d.windows = 0 then d.cur else Nat.min d.min d.cur, max := Nat.max d.max d.cur, windows := d.windows + 1 }

/-- BANDWIDTH_WINDOW. -/
def State.windowDo (s : State) : State :=
  let w := min (s.fld Reg.cntBw 19 0) 1000000
  if w = 0 ∨ s.time.now < s.cnt.winAt + w * usU then s
  else
    { s with cnt := { s.cnt with
        winAt := s.time.now,
        bw := (List.range 532).foldl (fun (t : Tab BwDir) k => t.upd (fun _ => {}) k BwDir.close) s.cnt.bw } }

/-! ## The sweep (R474 to R476, R484) -/

/-- The sweep period in units: 0 where sweeps run back to back. -/
def State.sweepPeriod (s : State) : Nat := let p := s.fld Reg.cntCfg 7 0; if p < 5 then 0 else min p 100 * msU

/-- CNT_SATURATED of the counters that have saturated since their last read (R476). -/
def State.saturated (s : State) : State :=
  let hit := (s.cnt.local_.filter (fun e => keyListed e.1 && e.2 == 2 ^ 48 - 1 && !s.cnt.sat.contains e.1)).map (·.1)
  hit.foldl (fun (s : State) k =>
    (({ s with cnt := { s.cnt with sat := s.cnt.sat ++ [k] } }).bump .devSaturatedCounters 0).report
      { cls := 11, cause := .cntSaturated, site := siteCxl, obj := k / 256 % 2 ^ 32, obj2 := k / 2 ^ 40 * 256 + k % 256 }) s

/-- The bandwidth values of one port and direction, written unaccumulated (R484). MIN and MAX of a sweep in which no window
ended are free values. -/
def State.bwSweep (s : State) (e : Nat × BwDir) : State :=
  let d := e.2
  let put (s : State) (i v : Nat) : State :=
    { s with cnt := { s.cnt with acc := s.cnt.acc.set (fun _ => 0) ((Ctr.mk 6 (4 * (e.1 % 2) + i)).key (e.1 / 2)) (v % 2 ^ 64) } }
  let open_ := d.windows == 0
  let a := Config.freeValue s.free
  let b := Config.freeValue (s.free + 1)
  let s1 := if open_ then { s with free := s.free + 2 } else s
  put (put (put (put s1 0 d.last) 1 (if open_ then a else d.min)) 2 (if open_ then b else d.max)) 3 d.windows

/-- Bandwidth at a sweep: the values are written, and MIN, MAX and WINDOWS restart; without windows every value is 0. -/
def State.bwSweepAll (s : State) : State :=
  if s.fld Reg.cntBw 19 0 = 0 then
    { s with cnt := { s.cnt with acc := s.cnt.acc.filter (fun e => e.1 / 2 ^ 40 != 6), bw := [] } }
  else
    let s1 := s.cnt.bw.foldl State.bwSweep s
    { s1 with cnt := { s1.cnt with bw := s1.cnt.bw.mapVals (fun _ => {}) (fun _ d => { cur := d.cur, last := d.last }) } }

/-- Every local counter is read, cleared and added to its accumulator. -/
def State.foldCounters (s : State) : State :=
  let mine := s.cnt.local_.filter (fun e => keyListed e.1)
  { s with cnt := { s.cnt with
      acc := mine.foldl (fun (t : Tab Nat) (e : Nat × Nat) => t.upd (fun _ => 0) e.1 (fun v => (v + e.2) % 2 ^ 64)) s.cnt.acc,
      local_ := s.cnt.local_.filter (fun e => !keyListed e.1), sat := [] } }

/-- COUNTER_SWEEP (R474 to R479): not due before its period is over; skipped while device memory is unavailable. A bandwidth window that
ends now counts in it (R484). -/
def State.sweepDo (s : State) : State :=
  if s.time.now < s.cnt.sweepAt + s.sweepPeriod then s
  else
    let s0 := { s with cnt := { s.cnt with sweepAt := s.time.now } }
    if !s0.cxm.link then s0.saturated.bump .devSweepsSkipped 0
    else
      let s1 := s0.windowDo.saturated.foldCounters.bwSweepAll
      let n := s1.cnt.sweep + 1
      let s2 := { s1 with cnt := { s1.cnt with sweep := n, stat := n % 2 ^ 32 } }
      s2.cnt.pages.foldl (State.pageWrite (s2.time.tick % 2 ^ 64)) s2

/-! ## Sample records and tagging (R485, R487) -/

/-- A record goes into one live SAMPLE page, and WRITTEN rises. -/
def State.sampleTo (rec_ : List Byte) (s : State) (p : Page) : State :=
  let n := p.written
  let s1 := (s.emit (.dma (p.addr + 64 + 64 * (n % 63)) rec_)).emit (.dma p.addr (toLe 8 (n + 1)))
  { s1 with cnt := { s1.cnt with pages := s1.cnt.pages.map (fun (q : Page) => if q.slot = p.slot then { q with written := n + 1 } else q) } }

/-- SAMPLE_RECORD_WRITE: the next record of a slice's queue goes into every live SAMPLE page that names the slice or 8; at
most 4 × 10^6 records a second. -/
def State.sampleWrite (s : State) (sl : Nat) : State :=
  match s.cnt.samples.get (fun _ => []) sl with
  | [] => s
  | r :: rs =>
    if s.time.now < s.cnt.sampleAt + 250 * nsU then s
    else
      let s1 := { s with cnt := { s.cnt with samples := s.cnt.samples.set (fun _ => []) sl rs, sampleAt := s.time.now } }
      (s1.cnt.pages.filter (fun p => p.kind == 17 && (p.first == sl || p.first == 8) && s.ringRuns p.ring)).foldl (State.sampleTo r) s1

/-- CNT_SAMP_WRITE: K is stored, and slice s's LFSR takes SEED + s, or 1 for 0. -/
def State.sampSet (s : State) (value : Nat) : State :=
  let seed := (s.reg Reg.cntSeed).toNat
  let s1 := s.setReg Reg.cntSamp (BitVec.ofNat 32 (value % 32))
  { s1 with cnt := { s1.cnt with
      lfsr := (List.range 8).foldl (fun (t : Tab Nat) k =>
        let v := (seed + k) % 2 ^ 32
        t.set (fun j => 0xACE10001 + j) k (if v = 0 then 1 else v)) s1.cnt.lfsr } }

end Sys2Proof.Machine
end

