-- ==== Sys2Proof/Machine/TermCmd.lean ====
section
/-! DEFINITION. Machine/TermCmd.lean: the activation commands of 16 Table 18, XGEM_PORT_SET (R438), MOD_ACCESS (R377) and the
packets of OMCI_TX (R135). -/

namespace Sys2Proof.Machine

/-- The checks of a command that names a terminal context: 4 bytes, byte 0 the index. -/
def withTerm (x : Slot) (s : State) (bad : Term → Bool) (status : Nat) (k : Nat → Turn) : Turn :=
  withLen x 4 s fun b =>
    let i := byteAt b 0
    checks [(decide (x.spec > 191), Status.chRange), (bad (s.term x.spec i), status)] s fun _ => k i

/-- A terminal whose move has reached its arrival point, or reaches it in this core cycle, is no longer its source's (R197, log
entry 42). -/
def State.movedOn (s : State) (c i : Nat) : Bool := match s.moveFrom c i with
  | some m => m.arrived || s.arrivesNow m
  | none => false

/-- A move of a context ends before a command takes it out of service: cause HOST (log entry 42). -/
def State.endMove (s : State) (c i : Nat) : State :=
  match s.moveFrom c i with
  | some m => s.abortMove m .host
  | none => s

/-- TERM_DEACTIVATE (R127). -/
def opTermDeactivate (x : Slot) (s : State) : Turn :=
  withTerm x s (fun t => t.state != .operation || s.movedOn x.spec (byteAt (x.buf.getD []) 0)) Status.ctxState fun i =>
    let s1 := s.endMove x.spec i
    (if (s1.term x.spec i).state = .operation then s1.loseTerm x.spec i 4 1 else s1).ok

/-- A context enters DISABLED (R127, R272): its queue set is flushed, and the bar goes to the terminal. -/
def State.disableTerm (s : State) (c i : Nat) : State :=
  let t := s.term c i
  let s1 := s.ploamTo c i (.disableSn true)
  let s2 := if t.state = .operation then s1.bindingDown t.binding else s1
  let s3 := if t.state.active then s2.quarantineId c t.onuId else s2
  let s4 := (s3.setTerm c i { t.parked .disabled with holdUntil := none }).loseTermSet (ctxNo c i)
  if t.state = .operation then s4.termLostEvent c i 4 else s4

/-- TERM_DISABLE. -/
def opTermDisable (x : Slot) (s : State) : Turn :=
  withTerm x s (fun t => t.state == .free || t.state == .disabled || s.movedOn x.spec (byteAt (x.buf.getD []) 0))
    Status.ctxState fun i => ((s.endMove x.spec i).disableTerm x.spec i).ok

/-- TERM_ENABLE_SN: to LOST, and the bar is lifted; the terminal becomes LOST, so its record is written (R128). -/
def opTermEnableSn (x : Slot) (s : State) : Turn :=
  withTerm x s (fun t => t.state != .disabled) Status.ctxState fun i =>
    (((s.ploamTo x.spec i (.disableSn false)).toLost x.spec i false).recordWrite x.spec i).ok

/-- TERM_RELEASE: the context becomes FREE and its queue set is flushed at once (R127, R272). -/
def opTermRelease (x : Slot) (s : State) : Turn :=
  withTerm x s (fun t => t.state != .lost && t.state != .disabled) Status.ctxActive fun i =>
    ((s.flushTermSet (ctxNo x.spec i)).freeTerm x.spec i).ok

/-- PLOAM_SEND (R132, R134). -/
def opPloamSend (x : Slot) (s : State) : Turn :=
  withLen x 52 s fun b =>
    let c := x.spec
    let i := byteAt b 0
    let bcast := bufBit b 1 0
    checks [(decide (c > 191), Status.chRange), (!bcast && (s.term c i).state != .operation, Status.notOperating)] s fun _ =>
      let m : PloamMsg :=
      { ctx := if bcast then none else some i, onuId := if bcast then Config.broadcastOnuId (s.mode c) else (s.term c i).onuId,
        sn := if bcast then 0 else (s.term c i).sn, body := .host (cut b 4 48) }
      (s.updCh c (fun p => { p with ploamHost := p.ploamHost ++ [m] })).ok

/-- CHANNEL_MODE (R43): the moves toward the channel end with TGT_DOWN (R198). -/
def opChannelMode (x : Slot) (s : State) : Turn :=
  withLen x 4 s fun b =>
    let c := x.spec
    let mode := bits (byteAt b 0) 1 0
    let rate := bits (byteAt b 1) 2 0
    checks [(decide (c > 191), Status.chRange), (!modeOk mode rate, Status.modeBad),
      (s.flg Reg.pchCtrl 0 c || (s.ch c).used, Status.chBusy)] s fun _ =>
      let s1 := (s.drl.moves.filter (fun m => m.tgt == c)).foldl (fun (s : State) (m : Move) => s.abortMove m .tgtDown) s
      (s1.setReg Reg.pchCfg (BitVec.ofNat 32 (rate * 16 + mode)) c).ok

/-- RSSI_ARM (R69): the channel is armed; the completion comes with the trigger or the timeout. -/
def opRssiArm (x : Slot) (s : State) : Turn :=
  withLen x 4 s fun b =>
    let c := x.spec
    let id := leAt b 0 2
    let dark := bufBit b 2 0
    let held := (s.termsOf c).any (fun e => e.2.state == .operation && e.2.onuId == id)
    checks [(decide (c > 191), Status.chRange), (s.fld Reg.pchRssi 31 16 c == 0, Status.rssiOff),
      ((s.ch c).rssi.isSome, Status.rssiBusy), (!dark && !held, Status.notOperating)] s fun _ =>
      (s.updCh c (fun p => { p with rssi := some { slot := x.id, dark := dark, onuId := id, at_ := s.time.now } }), .pend)

/-- XGEM_PORT_SET (R438). -/
def opXgemPortSet (x : Slot) (s : State) : Turn :=
  withLen x 16 s fun b =>
    let n := leAt b 0 4
    let c := n / 4096
    let p : XgemPort :=
    { valid := bufBit b 7 0, portId := leAt b 4 2, term := byteAt b 6, enc := bufBit b 7 1, omcc := bufBit b 7 2 }
    let other (e : Nat × XgemPort) : Bool := e.2.valid && e.1 != n && e.1 / 4096 == c
    let dup := s.ctx.xgem.any (fun e => other e && (e.2.portId == p.portId || (p.omcc && e.2.omcc && e.2.term == p.term)))
    let write (v : XgemPort) : Turn := (s.ctxWrite (fun t => { t with xgem := t.xgem.set (fun _ => {}) n v })).ok
    checks [(decide (n > 786431), Status.portRange)] s fun _ =>
      if !p.valid then write {}
      else checks [(dup, Status.portidDup), ((s.term c p.term).state == .free, Status.ctxState)] s fun _ => write p

/-! ## MOD_ACCESS (R377) -/

/-- The access of a channel's module that has no answer yet. -/
def State.modQueue (s : State) (c : Nat) : List Slot :=
  s.host.slots.filter (fun x => x.opcode == Op.modAccess && x.spec == c && x.phase == .effect)

/-- An access goes out on its chain. -/
def State.modSend (s : State) (x : Slot) : State :=
  let b := x.buf.getD []
  (s.updCh x.spec (fun p => { p with modAt := s.time.now })).emit (.modAccess x.spec (byteAt b 0 == 1) (byteAt b 1) (byteAt b 2) (byteAt b 3) (if byteAt b 0 = 1 then b.drop 4 else []))

/-- MOD_ACCESS: the access goes out, or waits behind the one that its module has, and the ring behind it (R15). A channel above 191 and
an operation byte above 1 are not in R377's list: the model answers CH_RANGE, and takes the byte as a read (log entry 43). -/
def opModAccess (x : Slot) (s : State) : Turn :=
  let b := x.buf.getD []
  let n := byteAt b 3
  if x.len = 0 then s.fails Status.lenZero
  else if x.buf.isNone then (s.raise 0 1).fails Status.dmaErr
  else
    checks [(decide (x.len < 4) || x.len != (if byteAt b 0 = 1 then 4 + n else 4), Status.lenBad),
      (decide (x.spec > 191), Status.chRange), (n == 0, Status.modZero)] s fun _ =>
      if (s.modQueue x.spec).isEmpty then (s.modSend x, .pend) else (s, .wait)

/-- MOD_ACCESS_DONE: the module has answered, or 2 ms have passed without an answer; the next access takes its turn. An answer after
2 ms is none. -/
def State.modDone (s : State) (c : Nat) (answer : Option (List Byte)) : State :=
  let late := decide ((s.ch c).modAt + 2 * msU < s.time.now)
  match s.modQueue c with
  | [] => s
  | x :: _ =>
    if answer.isNone && decide (s.time.now < (s.ch c).modAt + 2 * msU) then s
    else
    let r : Turn := match (if late then none else answer) with
      | none => s.fails Status.modNoack
      | some d => s.returns x Status.ok 0 (if byteAt (x.buf.getD []) 0 = 1 then [] else (d ++ List.replicate 128 0).take (byteAt (x.buf.getD []) 3))
    match r.2 with
    | .done st res => r.1.finish x.id st res
    | _ => r.1

/-! ## OMCI packets (R135, R136) -/

/-- An OMCI packet of the host goes to the OMCC port of its terminal (R135): answers the status and result of its
completion. Without an OMCC port nothing is sent (log entry 43). -/
def State.omciSend (s : State) (c i : Nat) (bytes : List Byte) : State × Nat × Nat :=
  if (s.term c i).state ≠ .operation then (s, Status.notOperating, 0)
  else
    match s.omccOf c i with
    | none => (s.bump .xNoOmcc c, Status.ok, 0)
    | some (_, p) =>
      let q := qTerm (ctxNo c i) 0
      (s.putSdu c { queue := q, portId := p.portId, keyIdx := if p.enc then (s.term c i).txIndex else 0, rest := bytes, len := bytes.length },
        Status.ok, bytes.length)

end Sys2Proof.Machine
end

