-- ==== Sys2Proof/Machine/CommandEngine.lean ====
section
/-! DEFINITION. Machine/CommandEngine.lean: the rings of the host interface (16 R428 to R447): doorbells, descriptor fetch,
the checks of R435, the order in which commands take effect and complete, and the commands of packet and counter rings. -/

namespace Sys2Proof.Machine

/-! ## Which descriptors a ring takes (R435) -/

/-- A ring that the host produces descriptors on. -/
def hostRing (type : Nat) : Bool := type ≤ 6 && type != 3

/-- An opcode is allowed on a ring type. -/
def opcodeOn (type op : Nat) : Bool :=
  if op = Op.nop then hostRing type
  else if op = Op.pktTx then type == 1
  else if op = Op.rxBuf then type == 2 || type == 6
  else if op = Op.cntPage then type == 4
  else if op = Op.omciTx then type == 5
  else type == 0

/-- The checks that a descriptor meets before any buffer is read; none: it passes (R435). -/
def State.descFault (s : State) (r op : Nat) : Option Nat :=
  if !opcodeKnown op then some Status.opcodeBad
  else if !opcodeOn (s.ringType r) op then some Status.ringType
  else if op != Op.nop && !s.life.locked then some Status.notLocked
  else none

/-! ## Frame chains (R441) -/

/-- The frame or packet that a chain's descriptors carry goes, or they complete with a status. -/
structure Chain where
  ids : List Nat
  data : List Byte
  fault : Option Nat

/-- The earlier descriptors of an orphan's chain (R21): every one of its ring that waits since before the ring went. -/
def State.orphanChain (s : State) (x : Slot) : List Slot :=
  s.host.slots.filter (fun m => m.ring == x.ring && m.opcode == x.opcode && m.phase == .effect && m.orphan && bit m.flags 3
    && decide (m.id < x.id) && !s.host.slots.any (fun y => y.ring == x.ring && y.opcode == x.opcode && y.orphan && !bit y.flags 3
      && decide (m.id < y.id) && decide (y.id < x.id)))

/-- Descriptors of the chain that is not complete yet. -/
def State.chainLen (s : State) (x : Slot) : Nat := if x.orphan then (s.orphanChain x).length else (s.ring x.ring).chain

/-- The chain's length is noted at its ring; a ring that has gone keeps none (R21). -/
def State.setChain (s : State) (x : Slot) (n : Nat) : State :=
  if x.orphan then s else s.updRing x.ring (fun q => { q with chain := n })

/-- The earlier descriptors of a chain that wait for its last one. -/
def State.chainSlots (s : State) (x : Slot) : List Slot :=
  let n := (s.ring x.ring).chain
  if x.orphan then s.orphanChain x
  else
    s.host.slots.filter (fun m => m.ring == x.ring && m.opcode == x.opcode && m.phase == .effect && !m.orphan
      && decide (0 < idxDiff x.idx m.idx) && decide (idxDiff x.idx m.idx ≤ n))

/-- The chain that a last descriptor ends: every descriptor with a length, their bytes, and the length or read that fails. -/
def State.chainOf (s : State) (x : Slot) : Chain :=
  let ms := s.chainSlots x
  let mine := if x.len = 0 then ms else ms ++ [x]
  let total := (mine.map (·.len)).sum
  { ids := mine.map (·.id), data := mine.flatMap (fun m => m.buf.getD []),
    fault := if s.chainLen x ≥ 8 ∨ total > 16383 then some Status.lenBad
      else if mine.any (fun m => m.buf.isNone) then some Status.dmaErr else none }

def State.finishAll (s : State) (ids : List Nat) (status result : Nat) : State :=
  ids.foldl (fun (s : State) (id : Nat) => s.finish id status result) s

/-- One descriptor of a chain: a member waits; one past the eighth completes the chain with LEN_BAD; the last ends it and
hands it on. -/
def State.chained (s : State) (x : Slot) (k : Chain → State → Turn) : Turn :=
  let n := s.chainLen x
  let more := bit x.flags 3
  if more then
    let s1 := s.setChain x (min 9 (n + 1))
    if x.len = 0 then s1.fails Status.lenZero
    else if n ≥ 8 then (s1.finishAll ((s.chainSlots x).map (·.id)) Status.lenBad 0).fails Status.lenBad
    else (s1, .pend)
  else
    let c := s.chainOf x
    let s1 := s.setChain x 0
    if c.ids.isEmpty then s1.fails Status.lenZero
    else
      let r := k c s1
      if x.len = 0 then (r.1, .done Status.lenZero 0) else r

/-- Every descriptor of a chain completes with a status; the verdict is the last one's. -/
def State.chainFails (s : State) (c : Chain) (status : Nat) : Turn := (s.finishAll c.ids status 0).fails status

/-- A service lies in a VF's window (R450). -/
def State.vfService (s : State) (v svc : Nat) : Bool :=
  let b := s.fld (Reg.hifVfSvcb (v - 1)) 15 0
  decide (b ≤ svc) && decide (svc < b + s.fld (Reg.hifVfSvc (v - 1)) 16 0)

/-- PKT_TX (R441): the frame joins its slice's host frames; its completions follow when the pipeline takes it. -/
def opPktTx (x : Slot) (s : State) : Turn :=
  s.chained x fun c s =>
    let v := s.ringOwner x.ring
    let dest := bit x.flags 0
    let sl := s.ringBind x.ring % 8
    if c.fault = some Status.lenBad then s.chainFails c Status.lenBad
    else if dest && decide (x.spec > 271) then s.chainFails c Status.destBad
    else if v != 0 && dest then s.chainFails c Status.denied
    else if v != 0 && !s.vfService v x.spec then s.chainFails c Status.destBad
    else if c.fault.isSome then (s.raise 0 1).chainFails c Status.dmaErr
    else
      let r : FrameRec :=
      { len := c.data.length, inPort := hostPort, svc := if dest then none else some x.spec, tc := bits x.aux 18 16,
        meta_ := bits x.aux 15 0, tsReq := bit x.flags 1, oneStep := bit x.flags 2, cookie := x.cookie }
      let s1 := (s.updSlice sl (fun q => { q with hostQ := q.hostQ ++ [(c.ids, { rec_ := r, data := c.data }, if dest then some x.spec else none)] })).wakeSlice sl
      (s1, .pend)

/-- OMCI_TX (R444): the packet goes to the terminal of RING_SPEC on the ring's channel. -/
def opOmciTx (x : Slot) (s : State) : Turn :=
  s.chained x fun c s =>
    match c.fault with
    | some f => if f = Status.dmaErr then (s.raise 0 1).chainFails c f else s.chainFails c f
    | none =>
      if x.spec > 255 then s.chainFails c Status.notOperating
      else
        let r := s.omciSend (s.ringBind x.ring) x.spec c.data
        (r.1.finishAll c.ids r.2.1 r.2.2, .done r.2.1 r.2.2)

/-- RX_BUF (R442): the buffer is posted. -/
def opRxBuf (x : Slot) (s : State) : Turn :=
  if x.len = 0 then s.fails Status.lenZero else if x.len < 128 then s.fails Status.lenBad else (s, .pend)

/-- CNT_PAGE (R447, R477, R478, R481): the page is laid out, and rewritten at every sweep from then on. -/
def opCntPage (x : Slot) (s : State) : Turn :=
  let v := s.ringOwner x.ring
  let k := ctrKind x.spec
  let base := s.fld (Reg.hifVfSvcb (v - 1)) 15 0
  let window := if v = 0 then none else some (base + s.fld (Reg.hifVfSvc (v - 1)) 16 0)
  let denied := v != 0 && (!s.flg (Reg.hifVfSvc (v - 1)) 31 || x.spec != 5 || !s.vfService v x.aux)
  checks [(x.len == 0, Status.lenZero), (x.len != 4096, Status.lenBad), (decide (x.spec > 17), Status.opcodeBad),
    (decide (x.aux ≥ k.objects), Status.destBad), (denied, Status.cntDenied)] s fun _ =>
    let p : Page :=
    { slot := x.id, ring := x.ring, idx := x.idx, cookie := x.cookie, addr := x.addr, kind := x.spec, first := x.aux,
      objects := pageObjects x.spec x.aux window }
    ({ s with cnt := { s.cnt with pages := s.cnt.pages ++ [p] } }).ok

/-- NOP (R435). -/
def opNop (_ : Slot) (s : State) : Turn := s.ok

/-! ## The commands by opcode (16 Table 4) -/

/-- A TERM_MOVE gives both its channels work (R29). -/
def opTermMoveWake (x : Slot) (s : State) : Turn :=
  let r := opTermMove x s
  ((List.range 4).foldl (fun (s : State) w => s.chanWake (4 * (x.spec / 4) + w)) r.1, r.2)

/-- The effect of a command by its opcode. -/
def opBody (x : Slot) (s : State) : Turn :=
  match x.opcode with
  | 0x00 => opNop x s
  | 0x01 => opPktTx x s
  | 0x02 => opRxBuf x s
  | 0x03 => opCntPage x s
  | 0x04 => opOmciTx x s
  | 0x10 => opChannelMode x s
  | 0x11 => opRssiArm x s
  | 0x12 => opModAccess x s
  | 0x13 => opAllowWrite x s
  | 0x14 => opAllowErase x s
  | 0x15 => opRecordForget x s
  | 0x16 => opTermDeactivate x s
  | 0x17 => opTermDisable x s
  | 0x18 => opTermEnableSn x s
  | 0x19 => opTermRelease x s
  | 0x1A => opPloamSend x s
  | 0x1B => opXgemPortSet x s
  | 0x20 => opAllocSet x s
  | 0x21 => opAllocClear x s
  | 0x22 => opTermProfile x s
  | 0x23 => opCoopAnnounce x s
  | 0x24 => opTermMoveWake x s
  | 0x25 => opTermMoveAbort x s
  | 0x30 => opSvcSet x s
  | 0x31 => opSvcLearn x s
  | 0x32 => opSvcMapUp x s
  | 0x33 => opSvcMatchAdd x s
  | 0x34 => opSvcMatchDel x s
  | 0x35 => opRuleWrite x s
  | 0x36 => opRsetWrite x s
  | 0x37 => opIndirWrite x s
  | 0x38 => opFwdInsert x s
  | 0x39 => opFwdDelete x s
  | 0x3A => opFwdSearch x s
  | 0x3B => opFwdMove x s
  | 0x3C => opFwdNext x s
  | 0x3D => opFwdFlush x s
  | 0x40 => opSwQprof x s
  | 0x41 => opMcGroupSet x s
  | 0x42 => opMcMemberWrite x s
  | 0x43 => opMeterSet x s
  | 0x44 => opShaperSet x s
  | 0x45 => opSchedSet x s
  | 0x46 => opCbsSet x s
  | 0x47 => opGclSet x s
  | 0x50 => opKekSet x s
  | 0x51 => opKeyWrite x s
  | 0x52 => opKeyErase x s
  | 0x53 => opKeyQuery x s
  | 0x54 => opPonKeySet x s
  | 0x55 => opSealSet x s
  | 0x56 => opSealPhase x s
  | 0x57 => opSealEpSet x s
  | 0x58 => opSealEpDel x s
  | 0x59 => opMacsecTxSet x s
  | 0x5A => opMacsecRxSet x s
  | 0x60 => opMegSet x s
  | 0x61 => opMepSet x s
  | 0x62 => opMepDel x s
  | 0x63 => opTimeSet x s
  | 0x64 => opTodQuery x s
  | _ => s.fails Status.opcodeBad

/-- A command takes its turn: its events wait for its completion (R437). -/
def State.applyOp (s : State) (x : Slot) : Turn :=
  let s1 := if sliceOpcode x.opcode && decide (x.spec < 8) then s.wakeSlice x.spec else s
  let r := opBody x { s1 with host := { s1.host with current := some x.id } }
  ({ r.1 with host := { r.1.host with current := none } }, r.2)

/-! ## Order of effects and completions (R433, R436, R437) -/

/-- The phase after a turn. -/
def Verdict.phase (v : Verdict) : SlotPhase :=
  match v with
  | .wait => .ready
  | .pend => .effect
  | .done st res => .done st res

/-- A slot's phase after its turn; one that a later part of the same effect has finished stays so. -/
def Slot.take (id : Nat) (v : Verdict) (x : Slot) : Slot :=
  if x.id = id ∧ x.phase = SlotPhase.ready then { x with phase := v.phase } else x

/-- Commands that take effect when their completions are written (R43, R108, R127, R169, R203, R229, R298, 16 Table 18). -/
def atCompletion (op : Nat) : Bool :=
  op == Op.channelMode || op == Op.allowWrite || (decide (0x16 ≤ op) && decide (op ≤ 0x1A)) || (decide (0x23 ≤ op) && decide (op ≤ 0x25))
    || op == 0x30 || (decide (0x32 ≤ op) && decide (op ≤ 0x34)) || op == 0x36 || op == 0x47

/-- A command ahead on the same ring whose completion cannot be written yet: completions keep ring order (R433). An RSSI_ARM
that has armed holds nothing behind it (R439). -/
def State.behind (s : State) (x : Slot) : Bool :=
  s.host.slots.any (fun y => y.ring == x.ring && y.orphan == x.orphan && decide (y.id < x.id)
    && (y.phase == .fetched || y.phase == .ready || (y.phase == .effect && y.opcode != Op.rssiArm)))

/-- An earlier command of a COMMAND ring that has not taken effect (R436). -/
def State.barred (s : State) (id : Nat) : Bool :=
  s.host.slots.any (fun y => decide (y.id < id) && (y.phase == .fetched || y.phase == .ready) && s.ringType y.ring == 0)

/-- May a ready command take its turn: the data plane accepts commands, its barrier stands open (R436, R512, R523), and its
completion could be written where that is its take-effect point. -/
def State.mayRun (s : State) (x : Slot) : Bool :=
  (x.opcode == Op.nop || (s.life.live && s.clocksRun)) && !(bit x.flags 0 && s.ringType x.ring == 0 && s.barred x.id)
    && !(atCompletion x.opcode && s.behind x)

/-- One command's turn: the state, and whether those behind it on its ring wait. -/
def State.turnOf (s : State) (x : Slot) : State × Bool :=
  match x.phase with
  | .fetched => (s, true)
  | .ready =>
    if !s.mayRun x then (s, true)
    else
      let r := s.applyOp x
      ({ r.1 with host := { r.1.host with slots := r.1.host.slots.map (Slot.take x.id r.2) } }, r.2 == .wait)
  | _ => (s, false)

/-- Every command takes its turn, in the order of fetch; `held` are the rings whose commands wait. -/
def State.pumpIds : List Nat → List Nat → State → State
  | [], _, s => s
  | id :: ids, held, s =>
    match s.host.slots.find? (fun x => x.id == id) with
    | none => State.pumpIds ids held s
    | some x =>
      if held.contains x.ring then State.pumpIds ids held s
      else
        let r := s.turnOf x
        State.pumpIds ids (if r.2 then x.ring :: held else held) r.1

def State.pump (s : State) : State := State.pumpIds (s.host.slots.map (·.id)) [] s

/-- A ring halts (R431). -/
def State.haltRing (s : State) (r cause : Nat) : State :=
  if (s.ring r).state != .running then s
  else ((s.updRing r (fun q => { q with state := .halted, cause := cause })).raise 0 0).event 0x01 r (toLe 1 cause)

/-- The completion of a slot is written, or its write fails (R433, R431); its events follow (R437). -/
def State.complete (s : State) (x : Slot) (status result : Nat) : State :=
  let s0 := { s with host := { s.host with slots := s.host.slots.filter (fun y => y.id != x.id) } }
  let q := s0.ring x.ring
  let s1 :=
    if x.orphan || !(q.state == .running || q.state == .draining) then s0
    else
      let s2 := s0.setRing x.ring { q with tail := (x.idx + 1) % 2 ^ 32 }
      if !x.cmplOk then (s2.raise 0 2).haltRing x.ring 10
      else
        let size := s.ringSize x.ring
        (s2.emit (.completion x.ring x.idx (s.ringCmpl x.ring + 16 * (x.idx % size)) status result x.cookie (phaseOf size x.idx) x.more)).ringSignal x.ring
  x.events.foldl State.eventWrite s1

/-- Completions are written in the order of each ring. -/
def State.retireIds : List Nat → List Nat → State → State
  | [], _, s => s
  | id :: ids, held, s =>
    match s.host.slots.find? (fun x => x.id == id) with
    | none => State.retireIds ids held s
    | some x =>
      match x.phase with
      | .done st res =>
        if held.contains x.ring && !x.orphan then State.retireIds ids held s
        else State.retireIds ids held (s.complete x st res)
      | _ => State.retireIds ids (if x.orphan then held else x.ring :: held) s

def State.retireAll (s : State) : State := State.retireIds (s.host.slots.map (·.id)) [] s

/-- What follows every command and event: the commands whose turn has come take effect, and completions are written. -/
def State.settleAll (s : State) : State := s.pump.retireAll

/-! ## Fetch (R429 to R431, R440) -/

/-- The ring can fetch: it runs, the link is up, and the fast clocks run (R523). -/
def State.fetches (s : State) (r : Nat) : Bool := s.ringRuns r && !s.host.inReset && s.clocksRun && hostRing (s.ringType r)

/-- A new slot for the next entry of a ring; one that fails the checks of R435 is complete at once. -/
def State.newSlot (s : State) (r : Nat) (d : Desc) (phase : SlotPhase) (buf : Option (List Byte)) (resOk cmplOk : Bool) : State :=
  let q := s.ring r
  let x : Slot :=
  { id := s.host.nextSlot, ring := r, idx := q.head, opcode := d.opcode, flags := d.flags, spec := d.spec, len := d.len, addr := d.addr,
    cookie := d.cookie, aux := d.aux, buf := buf, resOk := resOk, cmplOk := cmplOk,
    phase := match s.descFault r d.opcode with
      | some st => .done st 0
      | none => phase }
  let head := (q.head + 1) % 2 ^ 32
  let idx := if idxDiff q.idx q.head = 0 then head else q.idx
  let s1 := s.setRing r { q with head := head, idx := idx }
  { s1 with host := { s1.host with slots := s1.host.slots ++ [x], nextSlot := s1.host.nextSlot + 1 } }

/-- DESCRIPTOR_FETCH: up to 16 of the announced descriptors, as their bytes stand in host memory (R6); a read that fails halts the
ring. -/
def State.fetchDo (s : State) (r : Nat) (read : Option (List Byte)) : State :=
  if !s.fetches r then s
  else
    let q := s.ring r
    let n := min 16 (idxDiff q.idx q.head)
    if n = 0 then s
    else
      match read with
      | none => (s.raise 0 1).haltRing r 9
      | some b => ((descsOf b).take n).foldl (fun (s : State) d => s.newSlot r d .fetched none true true) s

/-- The descriptor that a command's row stands for: the oldest fetched one of its ring with its opcode and cookie, one that
was fetched before its ring halted, drained or went in a reset among them (R21, R432). -/
def State.fetchedFor (s : State) (op : Nat) (c : Cmd) : Option Slot :=
  s.host.slots.find? (fun x => x.ring == c.ring.val && x.opcode == op && x.cookie == c.cookie && x.phase == .fetched)

/-- A command's row: its buffer is read. Where none was fetched, the row stands for its whole path, and takes the ring's next
entry. -/
def State.submit (s : State) (op : Nat) (c : Cmd) : State :=
  let r := c.ring.val
  match s.fetchedFor op c with
  | some x =>
    if !s.clocksRun then s
    else
      let y := { x with phase := .ready, buf := c.buf, resOk := c.resOk, cmplOk := c.cmplOk }
      { s with host := { s.host with slots := s.host.slots.map (fun (z : Slot) => if z.id = x.id then y else z) } }
  | none =>
    if !s.fetches r then s
    else
      let q := s.ring r
      if idxDiff q.head q.tail ≥ s.ringSize r then s.haltRing r 8
      else
        s.newSlot r { opcode := op, flags := c.flags, spec := c.spec, len := c.len, addr := c.addr, cookie := c.cookie, aux := c.aux }
          .ready c.buf c.resOk c.cmplOk

/-! ## Doorbells (R430, R431) -/

/-- IDX is delivered to a running ring. -/
def State.deliverIdx (s : State) (r idx : Nat) : State :=
  let q := s.ring r
  let d := idxDiff idx q.idx
  if q.state != .running || d = 0 then s
  else if d ≥ 2 ^ 31 then (s.bump .xDoorbellBack r).raise 0 3
  else
    let s1 := s.setRing r { q with idx := idx % 2 ^ 32 }
    let behind := if s.ringType r = 3 then decide (0 < idxDiff idx q.head) && decide (idxDiff idx q.head < 2 ^ 31)
      else decide (idxDiff idx q.tail > s.ringSize r)
    if behind then s1.haltRing r 8 else s1

/-- DOORBELL: an MMIO doorbell write (R430). -/
def State.doorbellDo (s : State) (r idx : Nat) : State := s.hostWrite .hif (fun s => s.deliverIdx r (idx % 2 ^ 32))

/-- DOORBELL_LINE_SNOOP: a line of eight host-memory doorbell words is read again, and its changed words are acted on. -/
def State.snoopDo (s : State) (line : Nat) (words : List Nat) : State :=
  if s.host.inReset || !s.host.cxl || !s.flg Reg.hifCfg 0 then s
  else
    (List.range 8).foldl (fun (s : State) i =>
      let r := 8 * line + i
      let w := ((words.drop (2 * i)).headD 0) % 2 ^ 32
      if (s.ring r).word = w ∨ !s.ringRuns r then s else (s.updRing r (fun q => { q with word := w })).deliverIdx r w) s

/-! ## Enable, drain and halt (R428, R431, R432) -/

/-- Why an enable is refused (R428); 0: it is not. -/
def State.ringRefusal (s : State) (r : Nat) : Nat :=
  let type := s.ringType r
  let log := s.fld (Reg.hifRingCfg r) 15 11
  let bind := s.ringBind r
  let v := s.ringOwner r
  let aligned (off : Nat) : Bool := s.fld off 5 0 == 0
  if type = 7 then 1
  else if log < 6 ∨ log > 16 then 2
  else if !aligned (Reg.hifRingBaseLo r) || (type != 3 && !aligned (Reg.hifRingCmplLo r)) then 3
  else if (type = 1 ∧ bind > 7) ∨ ((type = 5 ∨ type = 6) ∧ bind > 191) then 4
  else if (type == 5 || type == 6) && s.host.rings.any (fun e => e.1 != r && s.ringEn e.1 && s.ringType e.1 == type && s.ringBind e.1 == bind) then 5
  else if v != 0 && decide (s.fld (Reg.hifRingCfg r) 10 0 ≥ s.fld (Reg.hifVfVec (v - 1)) 27 16) then 6
  else if v != 0 && (type == 0 || type == 5 || type == 6) then 7
  else 0

/-- RING_ENABLE: ring configuration word 0 is written with EN 1. -/
def State.ringEnableDo (s : State) (r value : Nat) : State :=
  let was := s.ringEn r
  let s1 := s.setReg (Reg.hifRingCfg r) (BitVec.ofNat 32 (value - value % 2 ^ 28 / 2 ^ 24 * 2 ^ 24))
  if was then s1.setBit (Reg.hifRingCfg r) 31 true
  else
    let cause := if (s.ring r).state == .draining then 11 else s1.ringRefusal r
    if cause = 0 then (s1.setBit (Reg.hifRingCfg r) 31 true).setRing r { state := .running }
    else ((s1.setBit (Reg.hifRingCfg r) 31 false).updRing r (fun q => { q with cause := cause })).bump .xRingRefused r

/-- What a drain completes at once: posted buffers and the members of a chain that has no end (R432). -/
def State.cancelSlot (s : State) (r : Nat) (x : Slot) : Slot :=
  if x.ring = r ∧ x.phase = SlotPhase.effect ∧ (x.opcode = Op.rxBuf
      ∨ ((x.opcode = Op.pktTx ∨ x.opcode = Op.omciTx) ∧ bit x.flags 3 ∧ idxDiff (s.ring r).head x.idx ≤ (s.ring r).chain)) then
    { x with phase := .done Status.cancelled 0 }
  else x

/-- RING_DISABLE (R432): descriptors not fetched are not run; fetched ones run to their end; pages are no longer written. -/
def State.ringDisableDo (s : State) (r : Nat) : State :=
  if !s.ringEn r then s
  else
    let s1 := s.setBit (Reg.hifRingCfg r) 31 false
    let s2 := { s1 with
      host := { s1.host with slots := s1.host.slots.map (s1.cancelSlot r) },
      cnt := { s1.cnt with pages := s1.cnt.pages.filter (fun p => p.ring != r) } }
    s2.updRing r (fun q => { q with state := .draining, chain := 0 })

/-- RING_DRAIN_DONE: STATE reads 0 once every fetched descriptor has completed. -/
def State.drainDone (s : State) (r : Nat) : State :=
  if (s.ring r).state == .draining && !s.host.slots.any (fun x => x.ring == r && !x.orphan) then
    s.updRing r (fun q => { q with state := .idle })
  else s

/-! ## Interrupt timers and HIF_INT (R448, R449) -/

/-- INTERRUPT_COALESCE_TIMER. -/
def State.coalesceTimer (s : State) (r : Nat) : State :=
  let us := s.fld (Reg.hifRingCoal r) 31 16
  match (s.ring r).firstUnsig with
  | some t => if us != 0 && decide (t + us * usU ≤ s.time.now) then s.ringMessage r else s
  | none => s

/-- HIF_INT_WRITE: PEND bits written 1 clear, MASK is stored; a MASK bit cleared over a PEND bit sends the group's message. -/
def State.intWrite (s : State) (g value : Nat) : State :=
  let old := (s.reg (Reg.hifInt g)).toNat
  let pend := (List.range 16).foldl (fun n i => if bit old i && !bit value i then n + 2 ^ i else n) 0
  let s1 := s.setReg (Reg.hifInt g) (BitVec.ofNat 32 (bits value 31 16 * 65536 + pend))
  if (List.range 16).any (fun i => bit pend i && bit old (16 + i) && !bit value (16 + i)) then s1.groupMessage g else s1

/-- INTERRUPT_GROUP_INTERVAL_END: the message that the last microsecond owes. -/
def State.intervalEnd (s : State) (g : Nat) : State :=
  let x := s.intGroup g
  let gone := match x.last with
    | some t => decide (t + usU ≤ s.time.now)
    | none => true
  if x.owed && gone then (s.setIntGroup g { x with owed := false }).groupMessage g else s

/-! ## What a row of the table runs -/

/-- A row's meaning: time moves on to its arrival, its effect, and what then follows in the command engine. -/
def State.run (s : State) (t : Nat) (k : State → State) : Host.Outcome State Fault Refusal := .next (k (s.begin t)).settleAll

/-- A row of the data plane: nothing where the fast clocks stand still. -/
def State.runFast (s : State) (t : Nat) (k : State → State) : Host.Outcome State Fault Refusal := s.run t (fun s => s.fastDo k)

/-- A row of the always-on domain: nothing in cold reset, and nothing while a warm reset holds the device. -/
def State.runAlways (s : State) (t : Nat) (k : State → State) : Host.Outcome State Fault Refusal :=
  s.run t (fun s => s.alwaysDo k)

/-- A row of a command of a ring. -/
def State.runCmd (s : State) (t op : Nat) (c : Cmd) : Host.Outcome State Fault Refusal := s.run t (fun s => s.submit op c)

end Sys2Proof.Machine
end

