-- ==== Sys2Proof/Machine/Faults.lean ====
section
/-! DEFINITION. Machine/Faults.lean: faults found and recovered (19): scrub, watchdogs, PLL lock, injection, the fault
monitor's self-check, and errors of the host link. -/

namespace Sys2Proof.Machine

/-! ## Scrub (R492, R501, R502) -/

/-- A mismatch of the fault monitor's copies (R502): SELF, source 14 of group 1, and a class 14 log entry. -/
def State.selfCheck (s : State) : State :=
  let r : Report := { cls := 14, cause := .selfCheck, site := siteMonitor, detect := s.time.tick % 2 ^ 64 }
  ((({ s with flt := { s.flt with self := true } }).raise 1 14).bump (.flt 14) 0).logReport (.report 14) r.sev (r.logData false)

/-- An uncorrectable word, by the unit that holds it: an HBM stack reports it as the Pannier does, the Tandem restarts, the
monitor's copies differ; every other unit reports class 1. -/
def State.uncorrectable (s : State) (x : Site) : State :=
  match x.kind.val with
  | 4 => ((s.bump .devPannierUncorrectableErrors 0).report { cls := 10, cause := .pannierUncorrectable, site := Site.code x }).raise 5 1
  | 8 => s.lockstep true
  | 9 => s.selfCheck
  | _ => s.report { cls := 1, cause := .memUncorrectable, site := Site.code x }

/-- A corrected word: masked, counted and reported once a second (R501). -/
def State.corrected (s : State) (x : Site) : State :=
  let s1 := if x.kind.val = 8 then s.bump .mgtSramCorrectedErrors 0 else if x.kind.val = 4 then s.bump .devPannierCorrectedErrors 0 else s
  s1.report { cls := 0, cause := .memCorrected, site := Site.code x, recovered := true }

/-- SCRUB: the scrub reads a word with an error. -/
def State.scrubDo (s : State) (x : Site) (bad : Bool) : State := if bad then s.uncorrectable x else s.corrected x

/-! ## Injection (19 Table 7) -/

/-- The site of a memory that `FLT_INJ.KIND` names. Which slice or stack INDEX means is not given: a free value. -/
def injSite (kind free : Nat) : Site :=
  match kind with
  | 0 => { kind := 0, inst := free % 8 }
  | 1 => { kind := 0, inst := free % 8 }
  | 3 => { kind := 0, inst := free % 8 }
  | 6 => { kind := 4, inst := free % 4 }
  | 7 => { kind := 8, inst := 0 }
  | _ => { kind := 11, inst := 0 }

/-- The injected error is met: corrected, or handled as uncorrectable. Which bank of the forwarding table INDEX means is a free
value too. -/
def State.injectMeet (s : State) (mode : Bool) (kind index : Nat) : State :=
  let f := s.takeFree
  if !mode then f.2.corrected (injSite kind f.1)
  else if kind = 5 then s.keyCorrupt (index % 131072)
  else if kind = 2 then f.2.fwdLost (f.1 % 4 * 2 ^ 30 + index % max 1 s.fwdRows)
  else f.2.uncorrectable (injSite kind f.1)

/-- FAULT_INJECT: a write to `FLT_INJ`. The memory is read at once where the fast clocks run, and by the Tandem always;
otherwise the injection stays armed until they run. -/
def State.injectDo (s : State) (value : Nat) : State :=
  let s1 := s.setReg Reg.fltInj (BitVec.ofNat 32 (bits value 28 28 * 2 ^ 28 + bits value 23 0))
  let mode := bit value 28
  let kind := bits value 23 20
  let index := bits value 19 0
  if !bit value 31 then s1
  else if kind ≥ 8 || (mode && s.life.locked) then s1.bump .xInjIgnored 0
  else if s.clocksRun || kind = 7 then s1.injectMeet mode kind index
  else { s1 with flt := { s1.flt with inject := some (mode, kind, index) } }

/-- An armed injection is met once the clocks run again. -/
def State.injectArmed (s : State) : State :=
  match s.flt.inject with
  | some (mode, kind, index) => ({ s with flt := { s.flt with inject := none } }).injectMeet mode kind index
  | none => s

/-! ## Watchdogs (R498) -/

def watchdogReport (site obj : Nat) : Report := { cls := 4, cause := .watchdog, site := site, obj := obj }

/-- The command in hand: the oldest that waits for its take-effect point; where none waits, the oldest of a command ring whose
effect stands and whose completion is still to come, but for a flush, which the table update unit holds (DESIGN CHOICE: log
entry 59). -/
def State.inHand (s : State) : Option Slot :=
  match s.host.slots.find? (fun x => x.phase == .ready) with
  | some x => some x
  | none => s.host.slots.find? (fun x => x.phase == .effect && s.ringType x.ring == 0 && x.opcode != Op.fwdFlush)

/-- The command in hand completes with DMA_ERR; a TIME_SET is withdrawn with it. An effect past its point stands. -/
def State.watchEngine (s : State) : State :=
  match s.inHand with
  | none => s
  | some x =>
    ({ s with time := { s.time with pending := s.time.pending.filter (fun p => p.slot != x.id) } }).finish x.id Status.dmaErr 0

/-- A flush is abandoned with FLUSH_MORE and its cursor; one whose removals are all made has a cursor that is a free value. -/
def State.watchTable (s : State) : State :=
  match s.fwd.flushes with
  | [] => s
  | w :: _ =>
    let f := s.takeFree
    let s1 := match w.more with
      | some _ => s
      | none => { f.2 with fwd := { f.2.fwd with flushes := f.2.fwd.flushes.map (fun (v : Flush) =>
          if v.slot = w.slot then { v with more := some (f.1 % 2 ^ 32) } else v) } }
    s1.flushDone w.slot

/-- A terminal in activation returns as after exhausted attempts (R119). -/
def State.watchActivation (s : State) (c i : Nat) : State :=
  let t := s.term c i
  if t.state == .assigned || t.state == .ranging then ((s.ploamTo c i .deactivate).bump .chRangingFailures c).returnTerm c i true else s

/-- A move aborts with cause HOST. -/
def State.watchBalancer (s : State) (c i : Nat) : State :=
  match s.moveFrom c i with
  | some m => s.abortMove m .host
  | none => s

/-- WATCHDOG: 1 ms without progress. -/
def State.watchdogDo (s : State) : WdUnit → State
  | .commandEngine => s.watchEngine.report (watchdogReport siteHost 0)
  | .tableUpdate => s.watchTable.report (watchdogReport siteUpdate 0)
  | .activation c i => (s.watchActivation c i).report (watchdogReport (siteChannel c) (ctxNo c i))
  | .balancer c i => (s.watchBalancer c i).report (watchdogReport (siteChannel c) (ctxNo c i))
  | .counterReader => (s.bump .devSweepsSkipped 0).report (watchdogReport siteHost 0)

/-! ## PLL lock (19 Tables 1 and 3) -/

/-- A stopped slice that holds frames begins to wake at once. -/
def State.pllSlice (s : State) (sl : Nat) : State :=
  let x := s.slice sl
  if x.unit == .stopped then s
  else
    let busy := !x.ingress.isEmpty || !x.hostQ.isEmpty || !x.mgmtQ.isEmpty || !x.chain.isEmpty || s.sliceCells sl
    s.setSlice sl { x with unit := if busy then .waking else .stopped, stoppedAt := none }

def State.pllChannel (s : State) (c : Nat) : State :=
  if (s.ch c).unit == .stopped then s
  else ((s.stopFraming c).updCh c (fun p => { p with unit := .stopped, stoppedAt := none, receiver := .stopped })).chanWake c

def State.pllCluster (s : State) (n : Nat) : State :=
  let c := s.cluster n
  if c.unit == .stopped then s else s.setCluster n { c with unit := if c.idle then .stopped else .waking, stoppedAt := none }

/-- The unit of a PLL that has lost lock stops; its frames wait. -/
def State.pllStop (s : State) : PllUnit → State
  | .slice sl => s.pllSlice sl
  | .channel c => s.pllChannel c
  | .cluster n => s.pllCluster n
  | .pannier => if s.hbm.state == .running then { s with hbm := { s.hbm with waking := true } } else s
  | .uplink p => (List.range s.lanesPerPort).foldl (fun (s : State) j => s.lockLost p j) s

def pllSite : PllUnit → Nat
  | .slice sl => siteSlice sl
  | .channel c => siteChannel c
  | .cluster n => siteCluster n
  | .pannier => siteStack 0
  | .uplink p => sitePort p

/-- PLL_LOCK_LOSS. -/
def State.pllDo (s : State) (u : PllUnit) : State := (s.pllStop u).report { cls := 9, cause := .pllLockLoss, site := pllSite u }

/-! ## The host link (R431, R492) -/

/-- HOST_LINK_ERROR: an AER error is reported in class 15; a write to a ring's memory that fails halts the ring. -/
def State.linkError (s : State) : LinkErr → State
  | .aer => if s.host.inReset then s else s.report { cls := 15, cause := .aer, site := siteHost }
  | .ringWrite r => if s.ringRuns r then (s.raise 0 2).haltRing r 10 else s

/-- KEY_STORE_CHECK (R497): the slots that the check finds corrupt. -/
def State.keyCheck (s : State) (bad : List Nat) : State :=
  (bad.filter (fun k => decide (k < 131072))).foldl State.keyCorrupt s

end Sys2Proof.Machine
end

