-- ==== Sys2Proof/Machine/CipherRows.lean ====
section
/-! DEFINITION. Machine/CipherRows.lean: the rows of the cipher subsystem and of the OAM engine (11, 12). -/

namespace Sys2Proof.Machine

/-- CIPHER_DISPATCH (R303): the dispatcher's next core cycle. -/
def execCipherDispatch (t : Nat) (s : State) : Host.Outcome State Fault Refusal := s.runFast t State.dispatch

/-- CIPHER_REQUEST_DONE (R301): the lane of a request ends; `fault`: the lane's check found an error. -/
def execCipherRequestDone (t : Nat) (id : Nat) (fault : Bool) (s : State) : Host.Outcome State Fault Refusal :=
  s.runFast t (fun s => s.cipherDone id fault)

/-- CPH_LATE (R304): 100 µs have passed since a request was queued. -/
def execCphLate (t : Nat) (id : Nat) (s : State) : Host.Outcome State Fault Refusal := s.runFast t (fun s => s.cipherLate id)

/-- RETIRED_GENERATION_ZEROISE (R311): the last request of a retired generation has ended. -/
def execRetiredGenerationZeroise (t : Nat) (slot : Nat) (s : State) : Host.Outcome State Fault Refusal :=
  s.runFast t (fun s => s.zeroise slot)

/-- OVERLAP_EXPIRY (R326): OVERLAP ms after a switch. -/
def execOverlapExpiry (t : Nat) (ep : Nat) (s : State) : Host.Outcome State Fault Refusal := s.runFast t (fun s => s.overlapEnd ep)

/-- KEY_STORE_CHECK (R497): the slot check, with the slots it finds corrupt. -/
def execKeyStoreCheck (t : Nat) (bad : List Nat) (s : State) : Host.Outcome State Fault Refusal := s.runFast t (fun s => s.keyCheck bad)

/-- CCM_TRANSMIT (R339): a CCM is due. -/
def execCcmTransmit (t : Nat) (mep : Fin 16384) (s : State) : Host.Outcome State Fault Refusal :=
  s.runFast t (fun s => s.ccmTransmit mep.val)

/-- RECEIVE_TIMER_CHECK (R346): a check of the receive timers is due. -/
def execReceiveTimerCheck (t : Nat) (mep : Fin 16384) (s : State) : Host.Outcome State Fault Refusal :=
  s.runFast t (fun s => s.receiveCheck mep.val)

/-- AIS_TRANSMIT (R350): an AIS is due. -/
def execAisTransmit (t : Nat) (mep : Fin 16384) (s : State) : Host.Outcome State Fault Refusal :=
  s.runFast t (fun s => s.aisTransmit mep.val)

end Sys2Proof.Machine
end

