-- ==== Sys2Proof/Machine/CommandRows.lean ====
section
/-! DEFINITION. Machine/CommandRows.lean: the rows of the commands of the rings (16 Table 4): one row per opcode. -/

namespace Sys2Proof.Machine

/-- NOP (R435): the NOP command. -/
def execNop (t : Nat) (cmd : Cmd) (s : State) : Host.Outcome State Fault Refusal := s.runCmd t Op.nop cmd

/-- PKT_TX (R441): a frame from the host. -/
def execPktTx (t : Nat) (cmd : Cmd) (s : State) : Host.Outcome State Fault Refusal := s.runCmd t Op.pktTx cmd

/-- RX_BUF (R442): a receive buffer. -/
def execRxBuf (t : Nat) (cmd : Cmd) (s : State) : Host.Outcome State Fault Refusal := s.runCmd t Op.rxBuf cmd

/-- CNT_PAGE (R447, R481): a counter page. -/
def execCntPage (t : Nat) (cmd : Cmd) (s : State) : Host.Outcome State Fault Refusal := s.runCmd t Op.cntPage cmd

/-- OMCI_TX (R444): an OMCI packet. -/
def execOmciTx (t : Nat) (cmd : Cmd) (s : State) : Host.Outcome State Fault Refusal := s.runCmd t Op.omciTx cmd

/-- CHANNEL_MODE (R43). -/
def execChannelMode (t : Nat) (cmd : Cmd) (s : State) : Host.Outcome State Fault Refusal := s.runCmd t Op.channelMode cmd

/-- RSSI_ARM (R69). -/
def execRssiArm (t : Nat) (cmd : Cmd) (s : State) : Host.Outcome State Fault Refusal := s.runCmd t Op.rssiArm cmd

/-- MOD_ACCESS (R377). -/
def execModAccess (t : Nat) (cmd : Cmd) (s : State) : Host.Outcome State Fault Refusal := s.runCmd t Op.modAccess cmd

/-- ALLOW_WRITE (R108). -/
def execAllowWrite (t : Nat) (cmd : Cmd) (s : State) : Host.Outcome State Fault Refusal := s.runCmd t Op.allowWrite cmd

/-- ALLOW_ERASE (R108, R128). -/
def execAllowErase (t : Nat) (cmd : Cmd) (s : State) : Host.Outcome State Fault Refusal := s.runCmd t Op.allowErase cmd

/-- RECORD_FORGET (R128). -/
def execRecordForget (t : Nat) (cmd : Cmd) (s : State) : Host.Outcome State Fault Refusal := s.runCmd t Op.recordForget cmd

/-- TERM_DEACTIVATE (R127). -/
def execTermDeactivate (t : Nat) (cmd : Cmd) (s : State) : Host.Outcome State Fault Refusal := s.runCmd t Op.termDeactivate cmd

/-- TERM_DISABLE (R127). -/
def execTermDisable (t : Nat) (cmd : Cmd) (s : State) : Host.Outcome State Fault Refusal := s.runCmd t Op.termDisable cmd

/-- TERM_ENABLE_SN (R127). -/
def execTermEnableSn (t : Nat) (cmd : Cmd) (s : State) : Host.Outcome State Fault Refusal := s.runCmd t Op.termEnableSn cmd

/-- TERM_RELEASE (R127). -/
def execTermRelease (t : Nat) (cmd : Cmd) (s : State) : Host.Outcome State Fault Refusal := s.runCmd t Op.termRelease cmd

/-- PLOAM_SEND (R132, R134). -/
def execPloamSend (t : Nat) (cmd : Cmd) (s : State) : Host.Outcome State Fault Refusal := s.runCmd t Op.ploamSend cmd

/-- XGEM_PORT_SET (R438). -/
def execXgemPortSet (t : Nat) (cmd : Cmd) (s : State) : Host.Outcome State Fault Refusal := s.runCmd t Op.xgemPortSet cmd

/-- ALLOC_SET (R149, R150). -/
def execAllocSet (t : Nat) (cmd : Cmd) (s : State) : Host.Outcome State Fault Refusal := s.runCmd t Op.allocSet cmd

/-- ALLOC_CLEAR (R149, R152). -/
def execAllocClear (t : Nat) (cmd : Cmd) (s : State) : Host.Outcome State Fault Refusal := s.runCmd t Op.allocClear cmd

/-- TERM_PROFILE (R153). -/
def execTermProfile (t : Nat) (cmd : Cmd) (s : State) : Host.Outcome State Fault Refusal := s.runCmd t Op.termProfile cmd

/-- COOP_ANNOUNCE (R169). -/
def execCoopAnnounce (t : Nat) (cmd : Cmd) (s : State) : Host.Outcome State Fault Refusal := s.runCmd t Op.coopAnnounce cmd

/-- TERM_MOVE (R202). -/
def execTermMove (t : Nat) (cmd : Cmd) (s : State) : Host.Outcome State Fault Refusal := s.runCmd t Op.termMove cmd

/-- TERM_MOVE_ABORT (R203). -/
def execTermMoveAbort (t : Nat) (cmd : Cmd) (s : State) : Host.Outcome State Fault Refusal := s.runCmd t Op.termMoveAbort cmd

/-- SVC_SET (R215, R229). -/
def execSvcSet (t : Nat) (cmd : Cmd) (s : State) : Host.Outcome State Fault Refusal := s.runCmd t Op.svcSet cmd

/-- SVC_LEARN (R244, R439). -/
def execSvcLearn (t : Nat) (cmd : Cmd) (s : State) : Host.Outcome State Fault Refusal := s.runCmd t Op.svcLearn cmd

/-- SVC_MAP_UP (R212). -/
def execSvcMapUp (t : Nat) (cmd : Cmd) (s : State) : Host.Outcome State Fault Refusal := s.runCmd t Op.svcMapUp cmd

/-- SVC_MATCH_ADD (R213). -/
def execSvcMatchAdd (t : Nat) (cmd : Cmd) (s : State) : Host.Outcome State Fault Refusal := s.runCmd t Op.svcMatchAdd cmd

/-- SVC_MATCH_DEL (R213). -/
def execSvcMatchDel (t : Nat) (cmd : Cmd) (s : State) : Host.Outcome State Fault Refusal := s.runCmd t Op.svcMatchDel cmd

/-- RULE_WRITE (R228). -/
def execRuleWrite (t : Nat) (cmd : Cmd) (s : State) : Host.Outcome State Fault Refusal := s.runCmd t Op.ruleWrite cmd

/-- RSET_WRITE (R228). -/
def execRsetWrite (t : Nat) (cmd : Cmd) (s : State) : Host.Outcome State Fault Refusal := s.runCmd t Op.rsetWrite cmd

/-- INDIR_WRITE (R224). -/
def execIndirWrite (t : Nat) (cmd : Cmd) (s : State) : Host.Outcome State Fault Refusal := s.runCmd t Op.indirWrite cmd

/-- FWD_INSERT (R251). -/
def execFwdInsert (t : Nat) (cmd : Cmd) (s : State) : Host.Outcome State Fault Refusal := s.runCmd t Op.fwdInsert cmd

/-- FWD_DELETE (R251). -/
def execFwdDelete (t : Nat) (cmd : Cmd) (s : State) : Host.Outcome State Fault Refusal := s.runCmd t Op.fwdDelete cmd

/-- FWD_SEARCH (R251). -/
def execFwdSearch (t : Nat) (cmd : Cmd) (s : State) : Host.Outcome State Fault Refusal := s.runCmd t Op.fwdSearch cmd

/-- FWD_MOVE (R240, R251). -/
def execFwdMove (t : Nat) (cmd : Cmd) (s : State) : Host.Outcome State Fault Refusal := s.runCmd t Op.fwdMove cmd

/-- FWD_NEXT (R254). -/
def execFwdNext (t : Nat) (cmd : Cmd) (s : State) : Host.Outcome State Fault Refusal := s.runCmd t Op.fwdNext cmd

/-- FWD_FLUSH (R253). -/
def execFwdFlush (t : Nat) (cmd : Cmd) (s : State) : Host.Outcome State Fault Refusal := s.runCmd t Op.fwdFlush cmd

/-- SW_QPROF (R276). -/
def execSwQprof (t : Nat) (cmd : Cmd) (s : State) : Host.Outcome State Fault Refusal := s.runCmd t Op.swQprof cmd

/-- MC_GROUP_SET (R276). -/
def execMcGroupSet (t : Nat) (cmd : Cmd) (s : State) : Host.Outcome State Fault Refusal := s.runCmd t Op.mcGroupSet cmd

/-- MC_MEMBER_WRITE (R276). -/
def execMcMemberWrite (t : Nat) (cmd : Cmd) (s : State) : Host.Outcome State Fault Refusal := s.runCmd t Op.mcMemberWrite cmd

/-- METER_SET (R298). -/
def execMeterSet (t : Nat) (cmd : Cmd) (s : State) : Host.Outcome State Fault Refusal := s.runCmd t Op.meterSet cmd

/-- SHAPER_SET (R298). -/
def execShaperSet (t : Nat) (cmd : Cmd) (s : State) : Host.Outcome State Fault Refusal := s.runCmd t Op.shaperSet cmd

/-- SCHED_SET (R298). -/
def execSchedSet (t : Nat) (cmd : Cmd) (s : State) : Host.Outcome State Fault Refusal := s.runCmd t Op.schedSet cmd

/-- CBS_SET (R293). -/
def execCbsSet (t : Nat) (cmd : Cmd) (s : State) : Host.Outcome State Fault Refusal := s.runCmd t Op.cbsSet cmd

/-- GCL_SET (R296). -/
def execGclSet (t : Nat) (cmd : Cmd) (s : State) : Host.Outcome State Fault Refusal := s.runCmd t Op.gclSet cmd

/-- KEK_SET (R310). -/
def execKekSet (t : Nat) (cmd : Cmd) (s : State) : Host.Outcome State Fault Refusal := s.runCmd t Op.kekSet cmd

/-- KEY_WRITE (R309, R311). -/
def execKeyWrite (t : Nat) (cmd : Cmd) (s : State) : Host.Outcome State Fault Refusal := s.runCmd t Op.keyWrite cmd

/-- KEY_ERASE (R312, R313). -/
def execKeyErase (t : Nat) (cmd : Cmd) (s : State) : Host.Outcome State Fault Refusal := s.runCmd t Op.keyErase cmd

/-- KEY_QUERY (11 Table 9). -/
def execKeyQuery (t : Nat) (cmd : Cmd) (s : State) : Host.Outcome State Fault Refusal := s.runCmd t Op.keyQuery cmd

/-- PON_KEY_SET (R315, R317). -/
def execPonKeySet (t : Nat) (cmd : Cmd) (s : State) : Host.Outcome State Fault Refusal := s.runCmd t Op.ponKeySet cmd

/-- SEAL_SET (R324, 11 Table 5). -/
def execSealSet (t : Nat) (cmd : Cmd) (s : State) : Host.Outcome State Fault Refusal := s.runCmd t Op.sealSet cmd

/-- SEAL_PHASE (R329). -/
def execSealPhase (t : Nat) (cmd : Cmd) (s : State) : Host.Outcome State Fault Refusal := s.runCmd t Op.sealPhase cmd

/-- SEAL_EP_SET (11 Table 6). -/
def execSealEpSet (t : Nat) (cmd : Cmd) (s : State) : Host.Outcome State Fault Refusal := s.runCmd t Op.sealEpSet cmd

/-- SEAL_EP_DEL (11 Table 9). -/
def execSealEpDel (t : Nat) (cmd : Cmd) (s : State) : Host.Outcome State Fault Refusal := s.runCmd t Op.sealEpDel cmd

/-- MACSEC_TX_SET (11 Table 9). -/
def execMacsecTxSet (t : Nat) (cmd : Cmd) (s : State) : Host.Outcome State Fault Refusal := s.runCmd t Op.macsecTxSet cmd

/-- MACSEC_RX_SET (11 Table 9). -/
def execMacsecRxSet (t : Nat) (cmd : Cmd) (s : State) : Host.Outcome State Fault Refusal := s.runCmd t Op.macsecRxSet cmd

/-- MEG_SET (12 Table 5). -/
def execMegSet (t : Nat) (cmd : Cmd) (s : State) : Host.Outcome State Fault Refusal := s.runCmd t Op.megSet cmd

/-- MEP_SET (R341, R342). -/
def execMepSet (t : Nat) (cmd : Cmd) (s : State) : Host.Outcome State Fault Refusal := s.runCmd t Op.mepSet cmd

/-- MEP_DEL (R342). -/
def execMepDel (t : Nat) (cmd : Cmd) (s : State) : Host.Outcome State Fault Refusal := s.runCmd t Op.mepDel cmd

/-- TIME_SET (R406). -/
def execTimeSet (t : Nat) (cmd : Cmd) (s : State) : Host.Outcome State Fault Refusal := s.runCmd t Op.timeSet cmd

/-- TOD_QUERY (R418). -/
def execTodQuery (t : Nat) (cmd : Cmd) (s : State) : Host.Outcome State Fault Refusal := s.runCmd t Op.todQuery cmd

end Sys2Proof.Machine
end

