-- ==== Sys2Proof/Machine/HostRows.lean ====
section
/-! DEFINITION. Machine/HostRows.lean: the rows of the host interface (16): doorbells, rings, descriptor fetch and interrupts. -/

namespace Sys2Proof.Machine

/-- DOORBELL (R430): an MMIO doorbell. -/
def execDoorbell (t : Nat) (r : RingIx) (idx : Nat) (s : State) : Host.Outcome State Fault Refusal :=
  s.run t (fun s => s.doorbellDo r.val idx)

/-- DOORBELL_LINE_SNOOP (R430): a doorbell line is read again. -/
def execDoorbellLineSnoop (t : Nat) (line : Fin 128) (words : List Nat) (s : State) : Host.Outcome State Fault Refusal :=
  s.run t (fun s => s.snoopDo line.val words)

/-- RING_ENABLE (R428): a write of ring configuration word 0 with EN 1. -/
def execRingEnable (t : Nat) (r : RingIx) (value : Nat) (s : State) : Host.Outcome State Fault Refusal :=
  s.run t (fun s => s.hostWrite .hif (fun s => s.ringEnableDo r.val (value % 2 ^ 31 + 2 ^ 31)))

/-- RING_DISABLE (R432): 0 is written to a ring's EN. -/
def execRingDisable (t : Nat) (r : RingIx) (s : State) : Host.Outcome State Fault Refusal :=
  s.run t (fun s => s.hostWrite .hif (fun s => s.ringDisableDo r.val))

/-- RING_DRAIN_DONE (R432): the drain is over. -/
def execRingDrainDone (t : Nat) (r : RingIx) (s : State) : Host.Outcome State Fault Refusal := s.run t (fun s => s.drainDone r.val)

/-- DESCRIPTOR_FETCH (R429, R433): one descriptor read, or its failure. -/
def execDescriptorFetch (t : Nat) (r : RingIx) (read : Option (List Byte)) (s : State) : Host.Outcome State Fault Refusal :=
  s.run t (fun s => s.fetchDo r.val read)

/-- INTERRUPT_COALESCE_TIMER (R448): COAL_US is over. -/
def execInterruptCoalesceTimer (t : Nat) (r : RingIx) (s : State) : Host.Outcome State Fault Refusal :=
  s.run t (fun s => s.coalesceTimer r.val)

/-- HIF_INT_WRITE (R449): a write to `HIF_INTg`. -/
def execHifIntWrite (t : Nat) (g : Fin 16) (value : Nat) (s : State) : Host.Outcome State Fault Refusal :=
  s.run t (fun s => s.hostWrite .hif (fun s => s.intWrite g.val value))

/-- INTERRUPT_GROUP_INTERVAL_END (R449): the 1 µs interval ends. -/
def execInterruptGroupIntervalEnd (t : Nat) (g : Fin 16) (s : State) : Host.Outcome State Fault Refusal :=
  s.run t (fun s => s.intervalEnd g.val)

/-- HOST_LINK_ERROR (R431, R446, R492): an error that replay does not mask. -/
def execHostLinkError (t : Nat) (err : LinkErr) (s : State) : Host.Outcome State Fault Refusal := s.runAlways t (fun s => s.linkError err)

end Sys2Proof.Machine
end

