-- ==== Sys2Proof/Machine/RegWrite.lean ====
section
/-! DEFINITION. Machine/RegWrite.lean: what a write to a register does (21, R527 to R540): the access codes, the select
windows, the set-up lock, and the registers whose fields act. -/

namespace Sys2Proof.Machine

/-! ## The set-up lock (R537, R540) -/

/-- The budgets that are full when the lock is set: referrals (R111), punts (R226), notifications (R249). -/
def State.fillBudgets (s : State) : State :=
  let now := s.time.now
  let s1 := (List.range 192).foldl (fun (s : State) c => s.updCh c (fun p => { p with refTokens := { num := 32, last := now } })) s
  let s2 := (List.range 8).foldl (fun (s : State) sl =>
    s.updSlice sl (fun x => { x with punt := (List.range 8).foldl (fun (t : Tab Bucket) n =>
      t.set (fun _ => {}) n { num := s.fld (Reg.clsPunt n) 25 16 sl, last := now }) x.punt })) s1
  { s2 with fwd := { s2.fwd with notify := (List.range 8).foldl (fun (t : Tab Bucket) sl =>
      t.set (fun _ => {}) sl { num := s.fld Reg.fwdNotify 23 16, last := now }) s2.fwd.notify } }

/-- SETUP_LOCK (R537): ignored and counted before READY; the Pannier starts (R392) and the budgets fill. -/
def State.lockDo (s : State) : State :=
  if s.life.locked then s
  else if !s.mgt.ready then s.bump .xLockBeforeReady 0
  else (({ s with life := { s.life with locked := true } }).panStart).fillBudgets

/-- SETUP_LIVE (R540, R373): the Pannier and the PON lanes are ready; channels enabled before start now. -/
def State.liveDo (s : State) : State :=
  if !s.life.locked || s.life.live || s.hbm.state == .starting then s
  else
    let s1 := { s with life := { s.life with live := true } }
    (List.range 192).foldl State.chanWake s1

/-! ## Standby (R522, R524) -/

/-- The fetched commands take effect as R15 orders them before standby is entered; those of a grant engine need no
snapshot any more (20 Table 5). -/
def State.runFetched (s : State) : State :=
  let wide (n : Nat) (s : State) : State := { s with gnt := s.gnt.mapVals (fun _ => {}) (fun _ g => { g with room := n }) }
  wide 0 ((wide (2 ^ 20) s).settleAll)

/-- STANDBY_ENTRY: 1 is written to `GLB_PWR.STANDBY`. -/
def State.standbyEnterDo (s : State) : State :=
  if s.life.pwr != .running then s
  else
    match s.standbyRefusal with
    | 0 => s.runFetched.standbyDo
    | n => ({ s with life := { s.life with pwrRefuse := n } }).bump .xStandbyRefused 0

/-- STANDBY_EXIT: 0 is written. -/
def State.standbyExitDo (s : State) : State := if s.life.pwr != .standby then s else s.standbyLeave.injectArmed

/-! ## Stores by access code (R7, R8, R538) -/

/-- The word that a write leaves in the RW and RWL fields of a register; after the lock RWL fields keep theirs. -/
def RegRow.store (r : RegRow) (locked : Bool) (old v : Nat) : Nat :=
  let m := Nat.lor r.rw (if locked then 0 else r.rwl)
  Nat.lor (Nat.land v m) (Nat.land old (2 ^ 32 - 1 - m))

/-- A write after the lock would change an RWL field (R538). -/
def RegRow.violates (r : RegRow) (locked : Bool) (old v : Nat) : Bool := locked && Nat.land (Nat.xor old v) r.rwl != 0

/-! ## Registers whose fields act -/

/-- `PCH_CTRL.EN` (R44, R99, R519). -/
def State.chanCtrlWrite (s : State) (c : Nat) (en : Bool) : State :=
  if en then s.channelEnableDo c
  else if s.flg Reg.pchCtrl 0 c then s.channelDisableDo c
  else s.channelResetDo c

/-- `ACT_DISC`: PERIOD and PER_WIN are stored, then EN acts (R103). -/
def State.discWrite (s : State) (c new : Nat) : State :=
  let s1 := s.setReg Reg.actDisc (BitVec.ofNat 32 (new / 2 * 2 + b2n (s.flg Reg.actDisc 0 c))) c
  if bit new 0 then s1.discEnableDo c else s1.setBit Reg.actDisc 0 false c

/-- The Burst_Profile message goes to every terminal in OPERATION when a register of the profile changes (R133). -/
def State.profileChanged (s : State) (c n : Nat) : State :=
  let ts := (s.termsOf c).filter (fun e => e.2.state == .operation && !e.2.detached)
  s.updCh c (fun p => { p with ploamHw := p.ploamHw ++ ts.map (fun (e : Nat × Term) =>
    ({ ctx := some e.1, onuId := e.2.onuId, sn := e.2.sn, body := .burstProfile n } : PloamMsg)) })

/-- Two windows [base, base + count) overlap. -/
def windowsMeet (b n b' n' : Nat) : Bool := decide (b < b' + n') && decide (b' < b + n) && n != 0 && n' != 0

/-- A VF's ring window or vector window, as its registers give it: base and count. -/
def ringWindow (w : Nat) : Nat × Nat := (bits w 9 0, bits w 26 16)
def vecWindow (w : Nat) : Nat × Nat := (bits w 10 0, bits w 27 16)

/-- A ring or vector window written for VF v would overlap another VF's (R450). -/
def State.vfClash (s : State) (v : Nat) (vec : Bool) (new : Nat) : Bool :=
  let win (w : Nat) : Nat × Nat := if vec then vecWindow w else ringWindow w
  let held (u : Nat) : Nat := (s.reg (if vec then Reg.hifVfVec (u - 1) else Reg.hifVfRing (u - 1))).toNat
  (List.range 64).any (fun u => u != 0 && u != v
    && windowsMeet (win new).1 (win new).2 (win (held u)).1 (win (held u)).2)

/-- A write that R450 bars. -/
def State.vfDropped (s : State) : State := (s.bump .devVfWindowWritesDropped 0).raise 0 8

/-- `HIF_VFv` windows (R450). -/
def State.vfWindowWrite (s : State) (off new : Nat) : State :=
  let v := (off - 0x100800) / 0x10
  let part := off % 0x10
  if v ≤ s.host.numVfs || ((part == 0 || part == 4) && s.vfClash v (part == 4) new) then s.vfDropped
  else s.setReg off (BitVec.ofNat 32 new)

/-- A word of ring r's entry (16 Table 14). -/
def State.ringWordWrite (s : State) (r word v : Nat) : State :=
  let off := Reg.hifRingBaseLo r + word
  if word = 0x10 then
    if bit v 31 then s.ringEnableDo r v
    else (s.ringDisableDo r).setReg off (BitVec.ofNat 32 (v - v % 2 ^ 28 / 2 ^ 24 * 2 ^ 24))
  else if word < 0x18 then s.setReg off (BitVec.ofNat 32 v)
  else s

/-- The PF's write of a word of a ring entry: an entry of a VF's ring is not the PF's to write (R450). -/
def State.pfRingWrite (s : State) (r word v : Nat) : State :=
  if s.ringOwner r != 0 then s.vfDropped else s.ringWordWrite r word v

/-- `FWD_CFG`: SIZE reads back 0 where two seeds are equal (R232). -/
def State.fwdCfgWrite (s : State) (new : Nat) : State :=
  let seeds := (List.range 4).map (fun b => s.reg (Reg.fwdSeed b))
  if new % 8 != 0 && !s.life.locked && !decide seeds.Nodup then
    (s.setReg Reg.fwdCfg (BitVec.ofNat 32 (new / 8 * 8))).bump .xSeedEqual 0
  else s.setReg Reg.fwdCfg (BitVec.ofNat 32 new)

/-- `UPL_GCFG`: ARR is ignored while a port is enabled (R354). -/
def State.arrWrite (s : State) (new : Nat) : State :=
  if (List.range 64).any (fun p => s.flg Reg.uplCtrl 0 p) then (if s.life.locked then s else s.bump .xArrIgnored 0)
  else s.setReg Reg.uplGcfg (BitVec.ofNat 32 new)

/-- `CXM_CTRL`: EN 0 takes the port down (14 Table 10). -/
def State.cxmCtrlWrite (s : State) (new : Nat) : State :=
  let s1 := s.setReg Reg.cxmCtrl (BitVec.ofNat 32 new)
  if bit new 0 then s1 else s1.cxmDown

/-- `HBM_DLYn` (R394): stored before the controller has started, ignored and counted after it. -/
def State.hbmDlySet (s : State) (n v : Nat) : State :=
  if s.hbm.state == .notStarted then s.setReg (Reg.hbmDly n) (BitVec.ofNat 32 (v % 2 ^ 24)) else s.bump .xDlyIgnored 0

/-- HBM_DLY_WRITE: the management path may write these registers too (R17, R534). -/
def State.hbmDlyDo (s : State) (path : Path) (n v : Nat) : State :=
  match path with
  | .host => s.hostWrite .other (fun s => s.hbmDlySet n v)
  | .mgmt => if s.life.por || s.life.warm != .none then s else s.hbmDlySet n v

/-- What a write does to the register at an offset, given the word it would store. -/
def State.regEffect (s : State) (path : Path) (off n new v : Nat) : State :=
  if off = Reg.pchCtrl then s.chanCtrlWrite n (bit v 0)
  else if off = Reg.actDisc then s.discWrite n new
  else if off = Reg.uplCtrl then (if bit v 0 then s.portEnableDo n else s.portDisableDo n)
  else if off = Reg.glbPwr then (if bit v 0 then s.standbyEnterDo else s.standbyExitDo)
  else if off = Reg.glbCtrl then (if bit v 0 then s.lockDo else s)
  else if off = Reg.timLatch then s.timeLatch path v
  else if off = Reg.mgtMbxDb then s.mailboxDoorbellDo (v % 65536)
  else if off = Reg.mgtMbxStat then
    (if bit v 0 then { s with mgt := { s.mgt with mbx := { s.mgt.mbx with reply := false } } } else s)
  else if off = Reg.fltStat then (if bit v 17 then { s with flt := { s.flt with self := false } } else s)
  else if off = Reg.fltInj then s.injectDo v
  else if off = Reg.cntSamp then s.sampSet v
  else if off = Reg.timRclk 0 then s.rclkWrite 0 (BitVec.ofNat 32 new)
  else if off = Reg.timRclk 1 then s.rclkWrite 1 (BitVec.ofNat 32 new)
  else if off = Reg.fwdCfg then s.fwdCfgWrite new
  else if off = Reg.tmCfg then (s.settleAllGates.setReg off (BitVec.ofNat 32 new) n).refindGates
  else if off = Reg.uplGcfg then s.arrWrite new
  else if off = Reg.cxmCtrl then s.cxmCtrlWrite new
  else if 0x110000 ≤ off ∧ off < 0x118000 then s.pfRingWrite ((off - 0x110000) / 0x20) (off % 0x20) v
  else if 0x120000 ≤ off ∧ off < 0x121000 then s.deliverIdx ((off - 0x120000) / 4) v
  else if 0x100100 ≤ off ∧ off < 0x100180 ∧ off % 8 = 0 then s.intWrite ((off - 0x100100) / 8) v
  else if 0x100810 ≤ off ∧ off < 0x100C00 then s.vfWindowWrite off new
  else if 0x201040 ≤ off ∧ off < 0x2010C0 ∧ new ≠ (s.reg off n).toNat then
    (s.setReg off (BitVec.ofNat 32 new) n).profileChanged n ((off - 0x201040) / 0x20)
  else s.setReg off (BitVec.ofNat 32 new) n

/-- A register of a lane that the port does not have in the arrangement in force: reserved (R535). -/
def State.laneReserved (s : State) (off : Nat) : Bool :=
  decide (Reg.sdsLcfg 0 ≤ off) && decide (off < Reg.sdsLcfg 8) && decide (s.lanesPerPort ≤ (off - Reg.sdsLcfg 0) / 0x20)

/-- A write to a register of the map: a locked-field write is counted and raised (R538), and the rest of it takes effect. What is
written to a reserved register is ignored (R8). -/
def State.regApply (s : State) (path : Path) (r : RegRow) (off n v : Nat) : State :=
  if s.laneReserved off then s else
  let old := (s.reg off n).toNat
  let s1 := if r.violates s.life.locked old v then (s.bump .devLockedFieldWrites 0).raise 0 6 else s
  s1.regEffect path off n (r.store s.life.locked old v) v

/-! ## Windows and paths (R530 to R534) -/

/-- The window that holds an offset (21 Table 2). -/
def winOf (off : Nat) : Win :=
  if 0x201000 ≤ off ∧ off < 0x202000 then .channel
  else if 0x203000 ≤ off ∧ off < 0x204000 then .slice
  else if 0x205000 ≤ off ∧ off < 0x206000 then .port
  else if 0x207000 ≤ off ∧ off < 0x208000 then .cluster
  else .none

/-- How many instances a window reaches (21 Table 3). -/
def winLimit : Win → Nat
  | .none => 1 | .channel => 192 | .slice => 8 | .port => 64 | .cluster => 32

/-- A path's copy of a select register. -/
def pathCopy : Path → Nat
  | .host => 0 | .mgmt => 1

/-- The instance that a path's select register names for a window. -/
def State.selected (s : State) (path : Path) : Win → Nat
  | .none => 0
  | .channel => s.fld Reg.pchSel 7 0 (pathCopy path)
  | .slice => s.fld Reg.slcSel 7 0 (pathCopy path)
  | .port => s.fld Reg.uplSel 7 0 (pathCopy path)
  | .cluster => s.fld Reg.cclSel 7 0 (pathCopy path)

/-- A word of the mailbox's request buffer is written (R463); the reply buffer is the Tandem's. -/
def State.requestWrite (s : State) (at_ v : Nat) : State :=
  { s with mgt := { s.mgt with mbx := { s.mgt.mbx with request := bufWrite s.mgt.mbx.request at_ (toLe 4 v) } } }

/-- The register of an instance is written; where none stands the write is ignored (R530). -/
def State.regPut (s : State) (path : Path) (off n v : Nat) : State :=
  if 0x11000 ≤ off ∧ off < 0x12000 then s.requestWrite (off - 0x11000) v
  else
    match regAt off with
    | none => s
    | some r => s.regApply path r off n v

/-- An aligned write of 32 bits to BAR0. -/
def State.writeWord (s : State) (path : Path) (off v : Nat) : State :=
  if isHbmDly off then s.hbmDlyDo path ((off - Reg.hbmDly 0) / 4) v
  else s.pathWrite path (regionOf off) fun s =>
    match winOf off with
    | .none => s.regPut path off (if isSelect off then pathCopy path else 0) v
    | w => if s.selected path w ≥ winLimit w then (s.bump .devOutOfRangeSelectDrops 0).raise 0 7
           else s.regPut path off (s.selected path w) v

/-! ## The other BARs (R527, R450) -/

/-- An aligned write of 32 bits to BAR0 of VF v: its ring entries and doorbells. -/
def State.vfWord (s : State) (v off w : Nat) : State :=
  if v = 0 ∨ s.host.cxl then s
  else s.hostWrite .hif fun s =>
    let win := ringWindow (s.reg (Reg.hifVfRing (v - 1))).toNat
    let r := if off < 0x8000 then off / 0x20 else (off - 0x8000) / 4
    if r ≥ win.2 ∨ win.1 + r ≥ 1024 then s
    else if off < 0x8000 then s.ringWordWrite (win.1 + r) (off % 0x20) w
    else s.deliverIdx (win.1 + r) w

/-- An aligned write of 32 bits to a function's MSI-X table; the pending-bit array is read-only. -/
def State.msixWord (s : State) (fn off w : Nat) : State :=
  let entries := if fn = 0 then 2048 else (vecWindow (s.reg (Reg.hifVfVec (fn - 1))).toNat).2
  if !s.hostAnswers || decide (off ≥ 16 * entries) || (fn != 0 && (s.host.cxl || decide (off ≥ 0x4000))) then s
  else { s with host := { s.host with msix := s.host.msix.set (fun _ => 0) (65536 * fn + off) w } }

/-- An aligned write of 32 bits to a BAR. -/
def State.barWord (s : State) (path : Path) (bar : Bar) (off v : Nat) : State :=
  match bar, path with
  | .pf0, _ => s.writeWord path off v
  | .pf4, .host => s.msixWord 0 off v
  | .vf0 f, .host => s.vfWord f.val off v
  | .vf4 f, .host => s.msixWord f.val off v
  | _, .mgmt => s.mgmtWrite .other id

/-- REGISTER_WRITE (R529): 64 bits as two words, the lower address first; less than 32 bits, or unaligned: dropped and
counted. -/
def State.registerWriteDo (s : State) (path : Path) (bar : Bar) (off size v : Nat) : State :=
  if size = 4 ∧ off % 4 = 0 then s.barWord path bar off (v % 2 ^ 32)
  else if size = 8 ∧ off % 8 = 0 then (s.barWord path bar off (v % 2 ^ 32)).barWord path bar (off + 4) (v / 2 ^ 32 % 2 ^ 32)
  else s.pathWrite path (regionOf off) (fun s => s.bump .xBadSizeWrite 0)

end Sys2Proof.Machine
end

