-- ==== Sys2Proof/Machine/RegRead.lean ====
section
/-! DEFINITION. Machine/RegRead.lean: what a read of a register returns (21, R529 to R534): stored fields, and the status
registers as views of the state. -/

namespace Sys2Proof.Machine

/-- A word from fields, (value, low bit). -/
def packFields (l : List (Nat × Nat)) : Nat := (l.map (fun (f : Nat × Nat) => f.1 * 2 ^ f.2)).sum

def HbmState.code : HbmState → Nat
  | .notStarted => 0 | .starting => 1 | .running => 2 | .selfRefresh => 3
def LaneState.code : LaneState → Nat
  | .kickstand => 0 | .adapting => 1 | .running => 2 | .freewheel => 3
def RingState.code : RingState → Nat
  | .idle => 0 | .running => 1 | .halted => 2 | .draining => 3
def PwrState.code : PwrState → Nat
  | .running => 0 | .entering => 1 | .standby => 2 | .leaving => 3
def Unit_.code : Unit_ → Nat
  | .stopped => 0 | .waking => 1 | .running => 2

/-- `CPH_CCL_STAT` (11 Table 14). -/
def State.clusterStat (s : State) (n : Nat) : Nat :=
  let x := s.cph.clusters.get (fun _ => {}) n
  packFields [(b2n (!x.lane1.isEmpty), 9), (b2n (!x.lane0.isEmpty), 8), (if s.flg Reg.cphCclCtrl 0 n then x.unit.code else 3, 0)]

/-- `UPL_STAT` (13 Table 11). -/
def State.uplStat (s : State) (p : Nat) : Nat :=
  let x := s.port p
  packFields [(x.refuse, 12), (x.cause, 8), (b2n x.rf, 2), (b2n x.lf, 1), (b2n x.up, 0)]

/-- `SDS_LSTATj` (13 Table 13); reserved for a lane that the port does not have (R535). -/
def State.laneStat (s : State) (p j : Nat) : Nat :=
  let l := s.lane p j
  if j ≥ s.lanesPerPort then 0
  else packFields [(l.state.code, 24), (b2n l.lock, 18), (b2n l.lol, 17), (b2n l.los, 16), (l.eyeV % 64, 8), (l.eyeH % 64, 0)]

/-- Gate lists operational in a slice (`TM_STAT`, 10 Table 9). -/
def State.gateLists (s : State) (sl : Nat) : Nat :=
  ((List.range 256).filter (fun k => (s.operList k).isSome && s.gateSlice k == sl)).length

/-- `MGT_STAT` (17 Table 7). -/
def State.mgtStat (s : State) : Nat :=
  packFields [(s.mgt.secVer % 256, 16), (b2n s.mgt.recovery, 7), (b2n s.mgt.switching, 6), (s.mgt.slot, 4), (b2n s.mgt.ready, 0)]

/-- `TIM_RD` registers of a path's copy (15 Table 6). -/
def TimeLatch.word (l : TimeLatch) (off : Nat) : Nat :=
  if off = Reg.timRd10 then l.tick % 2 ^ 32
  else if off = Reg.timRd14 then l.tick / 2 ^ 32 % 2 ^ 32
  else if off = Reg.timRd18 then l.tick / 2 ^ 64 % 2 ^ 16
  else if off = Reg.timRd20 then l.sec % 2 ^ 32
  else if off = Reg.timRd24 then l.sec / 2 ^ 32 % 2 ^ 32
  else if off = Reg.timRd28 then l.ns % 2 ^ 30
  else l.sub % 2 ^ 16

/-- The fuse registers (21 Table 10). -/
def State.fuseWord (s : State) (off : Nat) : Nat :=
  if off = Reg.glbFuse10 then Config.deviceSerial % 2 ^ 32
  else if off = Reg.glbFuse14 then Config.deviceSerial / 2 ^ 32 % 2 ^ 32
  else if off = Reg.glbFuse18 then s.life.fuseSecv % 2 ^ 32
  else if off = Reg.glbFuse1c then s.life.fuseSecv / 2 ^ 32 % 2 ^ 32
  else packFields [(s.life.fuseRevoked % 16, 4), (s.life.fuseProgrammed % 16, 0)]

/-- `HIF_RINGn_STAT` (16 Table 14). -/
def State.ringStat (s : State) (r : Nat) : Nat :=
  let q := s.ring r
  packFields [(q.state.code, 28), (q.cause, 24), (q.head % 2 ^ 16, 0)]

/-- The word of the register at an offset, of an instance, as a path reads it. -/
def State.regView (s : State) (path : Path) (off n : Nat) : Nat :=
  if off = Reg.pchStat then packFields [(b2n ((s.ch n).unit == .running), 8), ((s.ch n).refuse, 0)]
  else if off = Reg.gntStat then packFields [((s.gntCh n).peak % 2 ^ 16, 16), ((s.gntCh n).last % 2 ^ 16, 0)]
  else if off = Reg.drlStat then s.drl.moves.length % 128
  else if off = Reg.fwdStat then s.fwdValid.length % 2 ^ 23
  else if off = Reg.fwdReloc then s.fwd.reloc % 2 ^ 32
  else if off = Reg.tmStat then s.gateLists n % 256
  else if off = Reg.cphStat then
    packFields [(b2n s.cph.kekLock, 17), (b2n s.cph.kek.isSome, 16), ((s.cph.clusters.filter (fun e => e.2.unit == .running)).length % 64, 0)]
  else if off = Reg.cphCclStat then s.clusterStat n
  else if off = Reg.oamStat then (s.ctx.meps.filter (fun e => e.2.valid)).length % 2 ^ 15
  else if off = Reg.uplStat then s.uplStat n
  else if 0x205100 ≤ off ∧ off < 0x205200 ∧ off % 0x20 = 4 then s.laneStat n ((off - 0x205100) / 0x20)
  else if 0x205100 ≤ off ∧ off < 0x205200 ∧ (off - 0x205100) / 0x20 ≥ s.lanesPerPort then 0
  else if off = Reg.hbmStat then
    packFields [(b2n s.hbm.fail, 16), (s.band 3, 14), (s.band 2, 12), (s.band 1, 10), (s.band 0, 8), (s.hbm.state.code, 0)]
  else if off = Reg.cxmStat then
    packFields [(s.cxm.cap % 2 ^ 16, 16), (s.cxm.err, 12), (b2n (s.cxm.staleFwd || s.cxm.staleCtx), 1), (b2n s.cxm.link, 0)]
  else if off = Reg.timStat then packFields [(b2n (!s.time.pending.isEmpty), 1), (b2n s.time.refOk, 0)]
  else if Reg.timRd10 ≤ off ∧ off ≤ Reg.timRd2c then
    (match path with
     | .host => s.time.hostLatch
     | .mgmt => s.time.mgmtLatch).word off
  else if off = Reg.timRclkStat 0 ∨ off = Reg.timRclkStat 1 then
    let r := s.rclk ((off - Reg.timRclkStat 0) / 4)
    packFields [(b2n r.squelched, 31), ((r.foff % 2 ^ 31).toNat, 0)]
  else if off = Reg.hifStat then packFields [(s.host.width % 32, 4), (s.host.rate % 8, 1), (b2n s.host.cxl, 0)]
  else if 0x110000 ≤ off ∧ off < 0x118000 ∧ off % 0x20 = 0x18 then s.ringStat ((off - 0x110000) / 0x20)
  else if 0x120000 ≤ off ∧ off < 0x121000 then (s.ring ((off - 0x120000) / 4)).idx
  else if off = Reg.mgtStat then s.mgtStat
  else if off = Reg.mgtFwver then s.mgt.fwVer % 2 ^ 32
  else if off = Reg.mgtMbxStat then packFields [(b2n (s.mgt.mbx.pending.isSome || s.mgt.switching), 1), (b2n s.mgt.mbx.reply, 0)]
  else if off = Reg.cntStat then s.cnt.stat % 2 ^ 32
  else if off = Reg.fltStat then packFields [(s.flt.fenced.length % 64, 18), (b2n s.flt.self, 17), (s.flt.queue.length % 2 ^ 13, 0)]
  else if off = Reg.glbPwr then
    packFields [(s.life.pwrRefuse, 12), (s.life.pwr.code, 8), (b2n (s.life.pwr == .entering || s.life.pwr == .standby), 0)]
  else if off = Reg.glbRstc then packFields [(s.life.rstCount % 2 ^ 16, 16), (s.life.rstCause, 0)]
  else if off = Reg.glbCtrl then b2n s.life.locked
  else if off = Reg.glbStat then packFields [(b2n s.life.opened, 1), (b2n s.life.live, 0)]
  else if Reg.glbFuse10 ≤ off ∧ off ≤ Reg.glbFuse20 then s.fuseWord off
  else (s.reg off n).toNat

/-- What a path reads at an aligned offset of BAR0: all-ones outside what BAR0 shows (R511, R523) and through a window with an
out-of-range select value (R533); zero where no register stands (R530). -/
def State.readWord (s : State) (path : Path) (off : Nat) : Nat :=
  let w := winOf off
  if path == .host && !s.shows (regionOf off) then 2 ^ 32 - 1
  else if w != .none && decide (s.selected path w ≥ winLimit w) then 2 ^ 32 - 1
  else if 0x11000 ≤ off ∧ off < 0x12000 then le ((List.range 4).map (fun i => s.mgt.mbx.request.get (fun _ => 0) (off - 0x11000 + i)))
  else if 0x12000 ≤ off ∧ off < 0x13000 then le ((List.range 4).map (fun i => s.mgt.mbx.replyBuf.get (fun _ => 0) (off - 0x12000 + i)))
  else if (regAt off).isNone then 0
  else s.regView path off (if isSelect off then pathCopy path else s.selected path w)

/-! ## What BAR2 shows of device memory (R398, R400, R401, R477) -/

/-- A terminal record (04 Table 9). -/
def TermRec.bytes (r : TermRec) : List Byte :=
  toLe 8 r.sn ++ toLe 1 (b2n r.valid) ++ toLe 1 (r.tree % 64 + 64 * (r.wl % 4)) ++ toLe 2 (r.onuId % 1024) ++ toLe 1 r.ctx ++ toLe 1 (r.mode % 4)
    ++ toLe 2 r.tag ++ toLe 4 (r.rtd % 2 ^ 27) ++ toLe 4 0 ++ toLe 8 r.seen

/-- Bases of the accumulators of kinds 0 to 16 (18 Table 1). -/
def accBases : List Nat := [
  0x40000000, 0x40100000, 0x40700000, 0x42000000, 0x42100000, 0x42200000, 0x42600000, 0x42700000, 0x42800000, 0x43800000, 0x44000000,
  0x44100000, 0x44200000, 0x44300000, 0x44700000, 0x44B00000, 0x44C00000]

/-- The accumulator that holds a byte of the counter region: kind, object, counter and byte (R477). -/
def accAt (off : Nat) : Option (Nat × Nat × Nat × Nat) :=
  (List.range 17).findSome? (fun k =>
    let d := off - accBases.getD k 0
    let cpo := (ctrKind k).cpo
    if accBases.getD k 0 ≤ off ∧ d < 8 * cpo * (ctrKind k).objects then some (k, d / 8 / cpo, d / 8 % cpo, d % 8) else none)

/-- A byte of device memory at an offset of BAR2: the log's copy by SEQ, the terminal records by allow-list entry, the forwarding table's
shadow bank by bank, the accumulators, the host region (14 Table 4; log entry 86). -/
def State.deviceByte (s : State) (off : Nat) : Byte :=
  let sparse (k n : Nat) (l : List Byte) : Byte := (l.drop (k % n)).headD 0
  if 0x10000 ≤ off ∧ off < 0x50000 then
    match s.mgt.log.find? (fun e => e.seq % logSize == (off - 0x10000) / 32) with
    | some e => sparse off 32 e.bytes
    | none => Config.deviceByte off
  else if 0x200000 ≤ off ∧ off < 0x400000 then sparse off 32 (s.recordOf ((off - 0x200000) / 32)).bytes
  else if 0x4000000 ≤ off ∧ off < 0x8000000 then
    let line := (off - 0x4000000) / 16
    sparse off 16 (s.fwd.shadow.get (fun _ => {}) (line / 2 ^ 20 * 2 ^ 30 + line % 2 ^ 20)).bytes
  else if s.hostRegion ≤ off ∧ off < s.cxm.cap * 2 ^ 30 then s.cxm.mem.get (fun _ => 0) off
  else
    match accAt off with
    | some x => sparse x.2.2.2 8 (toLe 8 (s.acc ⟨x.1, x.2.2.1⟩ x.2.1))
    | none => Config.deviceByte off

/-- What a read of BAR2 returns: all-ones before BAR0 is open, in standby, while device memory is unavailable, and beyond
`CXM_STAT.CAP` (R398, R511, R523, R527). -/
def State.bar2Read (s : State) (off n : Nat) : List Byte :=
  (List.range n).map (fun i =>
    if s.life.opened && s.life.pwr == .running && s.cxm.link && decide (off + i < s.cxm.cap * 2 ^ 30) then s.deviceByte (off + i) else 0xFF)

/-- GNT_STAT_READ (R531): the host's read clears PEAK, the management path's does not. -/
def State.gntStatReadDo (s : State) (path : Path) : State :=
  let answers := match path with
    | .host => s.hostAnswers
    | .mgmt => !s.life.por && s.life.warm == .none
  let c := s.selected path .channel
  if !answers then s
  else
    let s1 := s.emit (.read (s.readWord path Reg.gntStat))
    if path == .host && s.shows .other && decide (c < 192) then s1.updGnt c (fun g => { g with peak := 0 }) else s1

end Sys2Proof.Machine
end

