-- ==== Sys2Proof/Machine/LifeRows.lean ====
section
/-! DEFINITION. Machine/LifeRows.lean: the rows of registers, resets, power states and fast-clock units (20, 21, R27 to R34). -/

namespace Sys2Proof.Machine

/-- REGISTER_WRITE (R7, R8, R529 to R534, R538, R539): a write of `size` bytes at an offset of a BAR, arriving on a path. -/
def execRegisterWrite (t : Nat) (path : Path) (bar : Bar) (off size value : Nat) (s : State) : Host.Outcome State Fault Refusal :=
  s.run t (fun s => s.registerWriteDo path bar off size value)

/-- GNT_STAT_READ (R531): a read of `GNT_STAT` through the path's own channel window. -/
def execGntStatRead (t : Nat) (path : Path) (s : State) : Host.Outcome State Fault Refusal := s.run t (fun s => s.gntStatReadDo path)

/-- SETUP_LOCK (R537): 1 is written to `GLB_CTRL.SETUP_LOCK`. -/
def execSetupLock (t : Nat) (path : Path) (s : State) : Host.Outcome State Fault Refusal :=
  s.run t (fun s => s.pathWrite path .glb State.lockDo)

/-- SETUP_LIVE (R540): step 7 of the cold start completes. -/
def execSetupLive (t : Nat) (s : State) : Host.Outcome State Fault Refusal := s.runFast t State.liveDo

/-- COLD_RESET (R510, R552): PORn falls. -/
def execColdReset (t : Nat) (s : State) : Host.Outcome State Fault Refusal := s.run t State.coldResetDo

/-- COLD_START (R402, R512): PORn rises. -/
def execColdStart (t : Nat) (s : State) : Host.Outcome State Fault Refusal := s.run t State.coldStartDo

/-- BOOT_READY (R456): the firmware is up. -/
def execBootReady (t : Nat) (slot : Fin 2) (fwVer secVer : Nat) (delays : Option (List Byte)) (s : State) :
    Host.Outcome State Fault Refusal := s.run t (fun s => s.bootReadyDo slot.val fwVer secVer delays)

/-- WARM_RESET_START (R517): WRSTn is sampled low (true), or the mailbox's 1 ms is over (false). -/
def execWarmResetStart (t : Nat) (wrst : Bool) (s : State) : Host.Outcome State Fault Refusal := s.run t (fun s => s.warmStart wrst)

/-- WARM_RESET_RELEASE (20 Table 4 step 5). -/
def execWarmResetRelease (t : Nat) (s : State) : Host.Outcome State Fault Refusal := s.run t State.warmRelease

/-- HOST_RESET (R21, R453): hot reset, link down or PF function-level reset. -/
def execHostReset (t : Nat) (s : State) : Host.Outcome State Fault Refusal := s.run t State.hostResetDo

/-- HOST_LINK_TRAINED (R426, R427): training ends; `cxl` says that the host accepts CXL, `width` and `rate` are their codes. -/
def execHostLinkTrained (t : Nat) (cxl : Bool) (width rate : Nat) (s : State) : Host.Outcome State Fault Refusal :=
  s.run t (fun s => s.linkTrained cxl width rate)

/-- VF_FLR (R452): function-level reset of a VF. -/
def execVfFlr (t : Nat) (v : VfIx) (s : State) : Host.Outcome State Fault Refusal := s.run t (fun s => s.vfReset v.val)

/-- STANDBY_ENTRY (R522): 1 is written to `GLB_PWR.STANDBY`. -/
def execStandbyEntry (t : Nat) (s : State) : Host.Outcome State Fault Refusal := s.run t (fun s => s.hostWrite .glb State.standbyEnterDo)

/-- STANDBY_EXIT (R524): 0 is written to `GLB_PWR.STANDBY`. -/
def execStandbyExit (t : Nat) (s : State) : Host.Outcome State Fault Refusal := s.run t (fun s => s.hostWrite .glb State.standbyExitDo)

/-- SENSOR_SAMPLE (R465, R466, R525): 32 readings in 1/4 °C and 24 in mV. -/
def execSensorSample (t : Nat) (temps : List Int) (volts : List Nat) (s : State) : Host.Outcome State Fault Refusal :=
  s.run t (fun s => s.sensorsDo temps volts)

/-- SLICE_STOP (R27): the slice's stop condition is evaluated. -/
def execSliceStop (t : Nat) (sl : SliceIx) (s : State) : Host.Outcome State Fault Refusal := s.runFast t (fun s => s.sliceStop sl.val)

/-- SLICE_WAKE_DONE (R27, R30): a waking slice accepts work. -/
def execSliceWakeDone (t : Nat) (sl : SliceIx) (s : State) : Host.Outcome State Fault Refusal :=
  s.runFast t (fun s => s.sliceWakeDone sl.val)

/-- CHANNEL_UNIT_STOP (R27, R29): the channel unit's stop condition is evaluated. -/
def execChannelUnitStop (t : Nat) (c : Chan) (s : State) : Host.Outcome State Fault Refusal := s.runFast t (fun s => s.chanUnitStop c.val)

/-- CHANNEL_UNIT_WAKE_DONE (R27, R32): a waking channel unit accepts work. -/
def execChannelUnitWakeDone (t : Nat) (c : Chan) (s : State) : Host.Outcome State Fault Refusal :=
  s.runFast t (fun s => s.chanWakeDone c.val)

/-- BURST_RECEIVER_WAKE (R56, R67): 512 ns before burst j of map k. -/
def execBurstReceiverWake (t : Nat) (c : Chan) (k j : Nat) (s : State) : Host.Outcome State Fault Refusal :=
  s.runFast t (fun s => s.receiverWake c.val k j)

/-- CLUSTER_GATE (R306): the gating condition is evaluated. -/
def execClusterGate (t : Nat) (n : ClusterIx) (s : State) : Host.Outcome State Fault Refusal := s.runFast t (fun s => s.clusterGate n.val)

/-- CLUSTER_WAKE_DONE (R27): a woken cluster accepts work. -/
def execClusterWakeDone (t : Nat) (n : ClusterIx) (s : State) : Host.Outcome State Fault Refusal :=
  s.runFast t (fun s => s.clusterWake n.val)

/-- PANNIER_SELF_REFRESH (R391): the self-refresh condition is evaluated. -/
def execPannierSelfRefresh (t : Nat) (s : State) : Host.Outcome State Fault Refusal := s.runFast t State.panSelfRefresh

/-- PANNIER_WAKE_DONE (R34): the stacks have left self-refresh. -/
def execPannierWakeDone (t : Nat) (s : State) : Host.Outcome State Fault Refusal := s.runFast t State.panWakeDone

/-- PANNIER_START_DONE (R392, R393): the start is complete; `bankFail` says that a bank failed the check. -/
def execPannierStartDone (t : Nat) (bankFail : Option (Fin 4)) (s : State) : Host.Outcome State Fault Refusal :=
  s.runFast t (fun s => s.panStartDone bankFail)

/-- CHANNEL_ENABLE (R44): 1 is written to `PCH_CTRL.EN`. -/
def execChannelEnable (t : Nat) (path : Path) (c : Chan) (s : State) : Host.Outcome State Fault Refusal :=
  s.run t (fun s => s.pathWrite path .other (fun s => s.channelEnableDo c.val))

/-- CHANNEL_DISABLE (R99): 0 is written to `PCH_CTRL.EN` while it reads 1. -/
def execChannelDisable (t : Nat) (path : Path) (c : Chan) (s : State) : Host.Outcome State Fault Refusal :=
  s.run t (fun s => s.pathWrite path .other (fun s => s.channelDisableDo c.val))

/-- CHANNEL_RESET (R519): 0 is written to `PCH_CTRL.EN` while it reads 0. -/
def execChannelReset (t : Nat) (path : Path) (c : Chan) (s : State) : Host.Outcome State Fault Refusal :=
  s.run t (fun s => s.pathWrite path .other (fun s => s.channelResetDo c.val))

/-- CHANNEL_RESET_DONE (R521): the reset completes. -/
def execChannelResetDone (t : Nat) (c : Chan) (s : State) : Host.Outcome State Fault Refusal :=
  s.runFast t (fun s => s.channelResetEnd c.val)

/-- DISCOVERY_ENABLE (R103): 1 is written to `ACT_DISC.EN`. -/
def execDiscoveryEnable (t : Nat) (path : Path) (c : Chan) (s : State) : Host.Outcome State Fault Refusal :=
  s.run t (fun s => s.pathWrite path .other (fun s => s.discEnableDo c.val))

end Sys2Proof.Machine
end

