-- ==== Sys2Proof/Machine/Snapshot.lean ====
section
/-! DEFINITION. Machine/Snapshot.lean: what happens at the snapshot and at the deadline of a channel's map (R140, R141, R149,
R174 to R177), and an OMCI packet that arrives by itself (R135). -/

namespace Sys2Proof.Machine

/-- Ticks within which a map is complete (R141). -/
def mapBound : Nat := 3732

/-- Commands that may take effect at one snapshot instant of a channel (R149). -/
def snapshotRoom : Nat := 64

/-- The map whose snapshot instant has come: its snapshot is at tick 19,440 (k - 1) + 15,552 (R140); 0: none yet. -/
def TimeSt.snapshotMap (ts : TimeSt) : Nat := if ts.tick < 15552 then 0 else (ts.tick - 15552) / 19440 + 1

/-- The commands that wait for the snapshot take effect (R149). -/
def State.snapshotCommands (s : State) (c : Nat) : State :=
  ((s.updGnt c (fun g => { g with room := snapshotRoom })).settleAll).updGnt c (fun g => { g with room := 0 })

/-- No further map is built once EN is 0 (R143); before the first PHY frame none is. -/
def State.builds (s : State) (c : Nat) : Bool := (s.ch c).framing && !(s.ch c).stopping

/-- The map of a snapshot is built, or found late (R141). -/
def State.snapshotBuild (s : State) (c k compute : Nat) (late : Bool) : State :=
  let s1 := (((s.detachAll c k).coopStale c k).updateCredits c).reserveAll c k
  if late then s1.updGnt c (fun g => { g with late := some k }) else (s1.buildMap c k compute false).requestUpKs c k

/-- SNAPSHOT (R140, R141): `compute` is how many ticks the map takes; where they exceed the bound, commands and attaches wait
for the next snapshot (R176). A channel that builds no map serves its commands at the instant itself (R149). -/
def State.snapshotDo (s : State) (c compute : Nat) : State :=
  let k := s.time.snapshotMap
  if k ≤ (s.gntCh c).snapped then s
  else
    let late := decide (mapBound < compute)
    let s1 := s.updGnt c (fun g => { g with snapped := k })
    if !s1.builds c then s1.snapshotCommands c
    else
      let s2 := if late then s1
        else
          let a := (s1.snapshotCommands c).completeAll c
          a.attachAll k (a.attachDue c)
      s2.snapshotBuild c k compute late

/-- MAP_DEADLINE (R176): the late map is abandoned and replaced. -/
def State.deadlineDo (s : State) (c : Nat) : State :=
  match (s.gntCh c).late with
  | none => s
  | some k =>
    if s.time.tick < 19440 * (k - 1) + 15552 + mapBound then s
    else if s.builds c then s.fallback c k .gntLate
    else s.updGnt c (fun g => { g with late := none })

/-- UPSTREAM_OMCI_FRAME: a packet on the OMCC port of a terminal (R135); of one without that port, unknown port-ID. -/
def State.omciPacket (s : State) (c i : Nat) (packet : List Byte) : State :=
  match s.omccOf c i with
  | none => s.bump .chUnknownPortIdDrops c
  | some (n, p) =>
    let base : FrameRec :=
    { len := packet.length, inPort := c, xport := p.portId, pctx := n, src := (s.hterm c i).binding.map (fun b => (0, b)) }
    s.omccUp c i (base.stamped s.time s.tu) packet 0

end Sys2Proof.Machine
end

