-- ==== Sys2Proof/Machine/LineRows.lean ====
section
/-! DEFINITION. Machine/LineRows.lean: the rows of the PON line: frames, bursts, activation, grants and moves (02 to 06). -/

namespace Sys2Proof.Machine

/-- PHY_FRAME_START (R45): the tick counter reaches a multiple of 19,440. -/
def execPhyFrameStart (t : Nat) (s : State) : Host.Outcome State Fault Refusal := s.runFast t State.phyFrameStart

/-- UPSTREAM_FRAME_END (R139): upstream frame k of a channel has ended. -/
def execUpstreamFrameEnd (t : Nat) (c : Chan) (k : Nat) (s : State) : Host.Outcome State Fault Refusal :=
  s.runFast t (fun s => s.upFrameEnd c.val k)

/-- BURST_RECEIVED (R57): burst j of map k as it arrives. -/
def execBurstReceived (t : Nat) (c : Chan) (k j : Nat) (burst : BurstRx) (s : State) : Host.Outcome State Fault Refusal :=
  s.runFast t (fun s => s.burstRx c.val k j burst)

/-- DELIMITER_WINDOW_CLOSE (R56): the window of burst j of map k closes without a delimiter. -/
def execDelimiterWindowClose (t : Nat) (c : Chan) (k j : Nat) (s : State) : Host.Outcome State Fault Refusal :=
  s.runFast t (fun s => s.windowClose c.val k j)

/-- UPSTREAM_OMCI_FRAME (R135, R444): a packet on the OMCC port of terminal i. -/
def execUpstreamOmciFrame (t : Nat) (c : Chan) (i : TermIx) (packet : List Byte) (s : State) : Host.Outcome State Fault Refusal :=
  s.runFast t (fun s => s.omciPacket c.val i.val packet)

/-- SERIAL_NUMBER_ONU (R106, R110): a response in a discovery window. -/
def execSerialNumberOnu (t : Nat) (c : Chan) (resp : SnResp) (s : State) : Host.Outcome State Fault Refusal :=
  s.runFast t (fun s => s.snResponse c.val resp)

/-- RANGING_RESPONSE (R116): a response in a ranging window or directed slot. -/
def execRangingResponse (t : Nat) (c : Chan) (i : TermIx) (sn : Nat) (r : RangeResp) (s : State) : Host.Outcome State Fault Refusal :=
  s.runFast t (fun s => s.rangingResponse c.val i.val sn r.arrival r.head)

/-- RANGING_WINDOW_CLOSE (R119): the window of terminal i closes without a valid response. -/
def execRangingWindowClose (t : Nat) (c : Chan) (i : TermIx) (s : State) : Host.Outcome State Fault Refusal :=
  s.runFast t (fun s => (s.rangingClose c.val i.val).receiverRest c.val)

/-- ACKNOWLEDGEMENT (R118, R122): an Acknowledgement message. -/
def execAcknowledgement (t : Nat) (c : Chan) (i : TermIx) (msg : List Byte) (s : State) : Host.Outcome State Fault Refusal :=
  s.runFast t (fun s => s.ackMessage c.val i.val msg)

/-- REGISTRATION (R134, 04 Table 12): a Registration message. -/
def execRegistration (t : Nat) (c : Chan) (i : TermIx) (msg : List Byte) (s : State) : Host.Outcome State Fault Refusal :=
  s.runFast t (fun s => s.registrationMessage c.val i.val msg)

/-- PLOAM_RX (R134): any other upstream PLOAM message. -/
def execPloamRx (t : Nat) (c : Chan) (i : TermIx) (msg : List Byte) (s : State) : Host.Outcome State Fault Refusal :=
  s.runFast t (fun s => s.ploamRxMessage c.val i.val msg)

/-- LOST_TIME_EXPIRY (R126): LOSi has stood for `ACT_LOST.TIME`. -/
def execLostTimeExpiry (t : Nat) (c : Chan) (i : TermIx) (s : State) : Host.Outcome State Fault Refusal :=
  s.runFast t (fun s => s.lostTime c.val i.val)

/-- QUARANTINE_EXPIRY (R114): an ONU-ID's quarantine ends. -/
def execQuarantineExpiry (t : Nat) (c : Chan) (onuId : Nat) (s : State) : Host.Outcome State Fault Refusal :=
  s.runFast t (fun s => s.quarantineEnd c.val onuId)

/-- REMEMBERED_ROUND_START (R129): a round is due. -/
def execRememberedRoundStart (t : Nat) (c : Chan) (s : State) : Host.Outcome State Fault Refusal := s.runFast t (fun s => s.roundDue c.val)

/-- SNAPSHOT (R140, R141): the snapshot tick; `compute` is how many ticks the map takes. -/
def execSnapshot (t : Nat) (c : Chan) (compute : Nat) (s : State) : Host.Outcome State Fault Refusal :=
  s.runFast t (fun s => s.snapshotDo c.val compute)

/-- MAP_DEADLINE (R176): the deadline tick of a late map. -/
def execMapDeadline (t : Nat) (c : Chan) (s : State) : Host.Outcome State Fault Refusal := s.runFast t (fun s => s.deadlineDo c.val)

/-- TUNE_ACK (R185): an upstream tuning message of type 2. -/
def execTuneAck (t : Nat) (c : Chan) (i : TermIx) (msg : List Byte) (s : State) : Host.Outcome State Fault Refusal :=
  s.runFast t (fun s => s.tuneUp c.val i.val msg 0)

/-- TUNE_ACK_TIMEOUT (R186): ACK_TMO is over. -/
def execTuneAckTimeout (t : Nat) (c : Chan) (i : TermIx) (s : State) : Host.Outcome State Fault Refusal :=
  s.runFast t (fun s => s.ackTimeout c.val i.val)

/-- TUNE_ARRIVE (R192): an upstream tuning message of type 4 on the target. -/
def execTuneArrive (t : Nat) (c : Chan) (i : TermIx) (msg : List Byte) (phase : Int) (s : State) : Host.Outcome State Fault Refusal :=
  s.runFast t (fun s => s.tuneUp c.val i.val msg phase)

/-- ARRIVE_TIMEOUT (R198): ARRIVE_TMO is over. -/
def execArriveTimeout (t : Nat) (c : Chan) (i : TermIx) (s : State) : Host.Outcome State Fault Refusal :=
  s.runFast t (fun s => s.arriveTimeout c.val i.val)

/-- MOVE_SUGGEST (R201): a measurement window ends. -/
def execMoveSuggest (t : Nat) (tree : Fin 48) (s : State) : Host.Outcome State Fault Refusal := s.runFast t (fun s => s.suggest tree.val)

/-- HOLD_EXPIRY (R272): a lost terminal's hold ends. -/
def execHoldExpiry (t : Nat) (c : Chan) (i : TermIx) (s : State) : Host.Outcome State Fault Refusal :=
  s.runFast t (fun s => s.holdEnd c.val i.val)

/-- DISCOVERY_WINDOW_CLOSE (R106): a discovery window ends. -/
def execDiscoveryWindowClose (t : Nat) (c : Chan) (s : State) : Host.Outcome State Fault Refusal :=
  s.runFast t (fun s => (s.discClose c.val).receiverRest c.val)

/-- QUIET_WINDOW_START (R67): a quiet window opens. -/
def execQuietWindowStart (t : Nat) (c : Chan) (s : State) : Host.Outcome State Fault Refusal := s.runFast t (fun s => s.quietStart c.val)

/-- RSSI_TRIGGER (R69): the point of an armed measurement. -/
def execRssiTrigger (t : Nat) (c : Chan) (s : State) : Host.Outcome State Fault Refusal := s.runFast t (fun s => s.rssiTrigger c.val)

/-- RSSI_TIMEOUT (R69): 10 ms without a suitable burst or window. -/
def execRssiTimeout (t : Nat) (c : Chan) (s : State) : Host.Outcome State Fault Refusal := s.runFast t (fun s => s.rssiTimeout c.val)

/-- MOD_ACCESS_DONE (R377): the module's answer, or none within 2 ms. -/
def execModAccessDone (t : Nat) (c : Chan) (answer : Option (List Byte)) (s : State) : Host.Outcome State Fault Refusal :=
  s.runFast t (fun s => s.modDone c.val answer)

end Sys2Proof.Machine
end

