-- ==== Sys2Proof/Machine/MemTimeRows.lean ====
section
/-! DEFINITION. Machine/MemTimeRows.lean: the rows of the Pannier, device memory and the time unit (14, 15). -/

namespace Sys2Proof.Machine

/-- REFRESH_DUE (R382): a tREFI of a pseudo-channel is over. -/
def execRefreshDue (t : Nat) (pc : Fin 128) (s : State) : Host.Outcome State Fault Refusal := s.runFast t (fun s => s.refreshDue pc.val)

/-- HBM_TEMPERATURE_READ (R384): the 32 µs reading. -/
def execHbmTemperatureRead (t : Nat) (stack : Fin 4) (celsius : Int) (s : State) : Host.Outcome State Fault Refusal :=
  s.runFast t (fun s => s.hbmTemperature stack.val celsius)

/-- THROTTLE_RELEASE (R388): 64 tREFI without a further RFM. -/
def execThrottleRelease (t : Nat) (pc : Fin 128) (s : State) : Host.Outcome State Fault Refusal :=
  s.runFast t (fun s => s.throttleRelease pc.val)

/-- HBM_DLY_WRITE (R394): a write to `HBM_DLYn`. -/
def execHbmDlyWrite (t : Nat) (path : Path) (n : Fin 64) (value : Nat) (s : State) : Host.Outcome State Fault Refusal :=
  s.run t (fun s => s.hbmDlyDo path n.val value)

/-- CXM_LINK_UP (R397, R400): the port trains; what enumeration finds and whether the directory is valid. -/
def execCxmLinkUp (t : Nat) (type3 decoder : Bool) (gib : Nat) (directory : Bool) (s : State) : Host.Outcome State Fault Refusal :=
  s.runAlways t (fun s => s.cxmUp type3 decoder gib directory)

/-- CXM_DOWN (R398): device memory is lost. -/
def execCxmDown (t : Nat) (s : State) : Host.Outcome State Fault Refusal := s.runAlways t State.cxmDown

/-- CXM_TRAINING_FAILED (R397): training fails. -/
def execCxmTrainingFailed (t : Nat) (s : State) : Host.Outcome State Fault Refusal := s.runAlways t State.cxmFailed

/-- BAR2_WRITE (R401): a host write through BAR2. -/
def execBar2Write (t : Nat) (off : Nat) (data : List Byte) (s : State) : Host.Outcome State Fault Refusal :=
  s.runAlways t (fun s => s.bar2Write off data)

/-- TIME_SET_TAKE_EFFECT (R406): a pending TIME_SET reaches T_E. -/
def execTimeSetTakeEffect (t : Nat) (s : State) : Host.Outcome State Fault Refusal :=
  s.runAlways t (fun s => s.takeTimeSets s.time.pending.length)

/-- TIME_LATCH (R410): a write to `TIM_LATCH`. -/
def execTimeLatch (t : Nat) (path : Path) (value : Nat) (s : State) : Host.Outcome State Fault Refusal :=
  s.run t (fun s => s.pathWrite path .select (fun s => s.timeLatch path value))

/-- TIM_REF_LOST (R403): no REFCLK_PON edge for 1 µs. -/
def execTimRefLost (t : Nat) (s : State) : Host.Outcome State Fault Refusal := s.runAlways t State.refLost

/-- REFCLK_PON_RETURN (R403): edges arrive again. -/
def execRefclkPonReturn (t : Nat) (s : State) : Host.Outcome State Fault Refusal := s.runAlways t State.refReturn

/-- PPS_OUT (R416): the presented time reaches a whole second. -/
def execPpsOut (t : Nat) (s : State) : Host.Outcome State Fault Refusal := s.runAlways t State.ppsRise

/-- PPS_OUT_PULSE_END (R416): WIDTH ms after the rise. -/
def execPpsOutPulseEnd (t : Nat) (s : State) : Host.Outcome State Fault Refusal := s.runAlways t State.ppsEnd

/-- PPS_IN (R417): an edge of PPS_IN. -/
def execPpsIn (t : Nat) (rising : Bool) (s : State) : Host.Outcome State Fault Refusal := s.runAlways t (fun s => s.ppsInEdge rising)

/-- RCLK_RESUME (R421): HOLD clean time is over. -/
def execRclkResume (t : Nat) (n : Fin 2) (s : State) : Host.Outcome State Fault Refusal := s.runAlways t (fun s => s.rclkResume n.val)

/-- FREQUENCY_GATE (R423): a 1 s gate ends with a measured offset. -/
def execFrequencyGate (t : Nat) (n : Fin 2) (foff : Int) (s : State) : Host.Outcome State Fault Refusal :=
  s.runAlways t (fun s => s.frequencyGate n.val foff)

end Sys2Proof.Machine
end

