-- ==== Sys2Proof/Machine/MgtRows.lean ====
section
/-! DEFINITION. Machine/MgtRows.lean: the rows of the management subsystem, the counter reader and the fault monitor (17 to 19). -/

namespace Sys2Proof.Machine

/-- MAILBOX_DOORBELL (R463): a write to `MGT_MBX_DB`. -/
def execMailboxDoorbell (t : Nat) (path : Path) (value : Nat) (s : State) : Host.Outcome State Fault Refusal :=
  s.run t (fun s => s.pathWrite path .mgt (fun s => s.mailboxDoorbellDo (value % 65536)))

/-- GET_INFO (17 Table 4): the Tandem serves GET_INFO. -/
def execGetInfo (t : Nat) (s : State) : Host.Outcome State Fault Refusal := s.runAlways t State.getInfoDo

/-- GET_SENSORS (17 Table 4). -/
def execGetSensors (t : Nat) (s : State) : Host.Outcome State Fault Refusal := s.runAlways t State.getSensorsDo

/-- LOG_READ (17 Table 4). -/
def execLogRead (t : Nat) (s : State) : Host.Outcome State Fault Refusal := s.runAlways t State.logReadDo

/-- IMG_WRITE (R464). -/
def execImgWrite (t : Nat) (flashOk : Bool) (s : State) : Host.Outcome State Fault Refusal := s.runAlways t (fun s => s.imgWriteDo flashOk)

/-- IMG_VERIFY (R455). -/
def execImgVerify (t : Nat) (s : State) : Host.Outcome State Fault Refusal := s.runAlways t State.imgVerifyDo

/-- IMG_ACTIVATE (R459). -/
def execImgActivate (t : Nat) (flashOk : Bool) (s : State) : Host.Outcome State Fault Refusal :=
  s.runAlways t (fun s => s.imgActivateDo flashOk)

/-- IMAGE_SWITCH_DONE (R459 step 3): the new firmware, or the restarted one, sets READY. -/
def execImageSwitchDone (t : Nat) (fwVer secVer : Nat) (s : State) : Host.Outcome State Fault Refusal :=
  s.runAlways t (fun s => s.switchDone fwVer secVer)

/-- IMG_FALLBACK (R460): the previous slot is started again. -/
def execImgFallback (t : Nat) (fwVer secVer : Nat) (s : State) : Host.Outcome State Fault Refusal :=
  s.runAlways t (fun s => s.fallbackDo fwVer secVer)

/-- SECVER_COMMIT (R462). -/
def execSecverCommit (t : Nat) (s : State) : Host.Outcome State Fault Refusal := s.runAlways t State.secverCommitDo

/-- DLY_WRITE (17 Table 4). -/
def execDlyWrite (t : Nat) (flashOk : Bool) (s : State) : Host.Outcome State Fault Refusal := s.runAlways t (fun s => s.dlyWriteDo flashOk)

/-- WARM_RESET (R464). -/
def execWarmReset (t : Nat) (s : State) : Host.Outcome State Fault Refusal := s.runAlways t State.warmResetDo

/-- MGT_LOCKSTEP (R454): a lockstep mismatch, or an uncorrectable memory error. -/
def execMgtLockstep (t : Nat) (memory : Bool) (s : State) : Host.Outcome State Fault Refusal := s.runAlways t (fun s => s.lockstep memory)

/-- BOOT_RECOVERY (R458): neither slot is valid. -/
def execBootRecovery (t : Nat) (s : State) : Host.Outcome State Fault Refusal := s.runAlways t State.recoveryDo

/-- SMBUS_WRITE (R469): a write to the SMBus slave. -/
def execSmbusWrite (t : Nat) (data : List Byte) (s : State) : Host.Outcome State Fault Refusal := s.runAlways t (fun s => s.smbusDo data)

/-- BYPASS (R472). -/
def execBypass (t : Nat) (s : State) : Host.Outcome State Fault Refusal := s.run t (fun s => s.jtagRead .bypass 0)

/-- IDCODE (R472). -/
def execIdcode (t : Nat) (s : State) : Host.Outcome State Fault Refusal := s.run t (fun s => s.jtagRead .idcode deviceId)

/-- SAMPLE_PRELOAD (R472): what the balls carry, and what is shifted in. -/
def execSamplePreload (t : Nat) (pins preload : List Bool) (s : State) : Host.Outcome State Fault Refusal :=
  s.run t (fun s => s.jtagSample pins preload)

/-- EXTEST (R472). -/
def execExtest (t : Nat) (s : State) : Host.Outcome State Fault Refusal := s.run t (fun s => s.jtagTakes .extest true)

/-- EXTEST_PULSE (R472). -/
def execExtestPulse (t : Nat) (s : State) : Host.Outcome State Fault Refusal := s.run t (fun s => s.jtagTakes .extestPulse true)

/-- EXTEST_TRAIN (R472). -/
def execExtestTrain (t : Nat) (s : State) : Host.Outcome State Fault Refusal := s.run t (fun s => s.jtagTakes .extestTrain true)

/-- HIGHZ (R472). -/
def execHighz (t : Nat) (s : State) : Host.Outcome State Fault Refusal := s.run t (fun s => s.jtagTakes .highz false)

/-- CLAMP (R472). -/
def execClamp (t : Nat) (s : State) : Host.Outcome State Fault Refusal := s.run t (fun s => s.jtagTakes .clamp true)

/-- COUNTER_SWEEP (R474 to R478): the sweep is due. -/
def execCounterSweep (t : Nat) (s : State) : Host.Outcome State Fault Refusal := s.runFast t State.sweepDo

/-- BANDWIDTH_WINDOW (R484): the window is due. -/
def execBandwidthWindow (t : Nat) (s : State) : Host.Outcome State Fault Refusal := s.runFast t State.windowDo

/-- SAMPLE_RECORD_WRITE (R487): the next record of a slice's queue. -/
def execSampleRecordWrite (t : Nat) (sl : SliceIx) (s : State) : Host.Outcome State Fault Refusal :=
  s.runFast t (fun s => s.sampleWrite sl.val)

/-- CNT_SAMP_WRITE (R485): a write to `CNT_SAMP`. -/
def execCntSampWrite (t : Nat) (path : Path) (value : Nat) (s : State) : Host.Outcome State Fault Refusal :=
  s.run t (fun s => s.pathWrite path .other (fun s => s.sampSet value))

/-- WATCHDOG (R498): 1 ms without progress. -/
def execWatchdog (t : Nat) (wunit : WdUnit) (s : State) : Host.Outcome State Fault Refusal := s.runFast t (fun s => s.watchdogDo wunit)

/-- SCRUB (R492, R501): the scrub reads a word with an error. -/
def execScrub (t : Nat) (site : Site) (uncorrectable : Bool) (s : State) : Host.Outcome State Fault Refusal :=
  s.runAlways t (fun s => s.scrubDo site uncorrectable)

/-- PLL_LOCK_LOSS (19 Table 3): a fast PLL loses lock. -/
def execPllLockLoss (t : Nat) (punit : PllUnit) (s : State) : Host.Outcome State Fault Refusal := s.runFast t (fun s => s.pllDo punit)

/-- FAULT_INJECT (19 Table 7): a write to `FLT_INJ`. -/
def execFaultInject (t : Nat) (path : Path) (value : Nat) (s : State) : Host.Outcome State Fault Refusal :=
  s.run t (fun s => s.pathWrite path .flt (fun s => s.injectDo value))

end Sys2Proof.Machine
end

