-- ==== Sys2Proof/Machine/SwitchRows.lean ====
section
/-! DEFINITION. Machine/SwitchRows.lean: the rows of the slice pipelines, the forwarding table, the switch core and the traffic manager (07 to 10). -/

namespace Sys2Proof.Machine

/-- UPLINK_FRAME_RX (R357, R365): a frame without its FCS; whether its FCS holds; for each lane that its codewords used: lane, corrected symbols, uncorrectable codewords. -/
def execUplinkFrameRx (t : Nat) (p : PortIx) (frame : List Byte) (fcsOk : Bool) (fec : List (Nat × Nat × Nat)) (s : State) : Host.Outcome State Fault Refusal :=
  s.runFast t (fun s => s.uplFrameRx p.val frame fcsOk fec)

/-- INGRESS_LOOKUP (R204): the slice's next lookup slot. -/
def execIngressLookup (t : Nat) (sl : SliceIx) (s : State) : Host.Outcome State Fault Refusal := s.runFast t (fun s => s.lookupDo sl.val)

/-- CHAINRING_PASS (R221): the Chainring's head takes a lookup slot. -/
def execChainringPass (t : Nat) (sl : SliceIx) (s : State) : Host.Outcome State Fault Refusal := s.runFast t (fun s => s.chainDo sl.val)

/-- LEARN_REQUEST (R245): the table update unit takes the next learn request. -/
def execLearnRequest (t : Nat) (s : State) : Host.Outcome State Fault Refusal := s.runFast t State.learnTake

/-- AGE_SWEEP (R250): the age sweep is due. -/
def execAgeSweep (t : Nat) (s : State) : Host.Outcome State Fault Refusal := s.runFast t State.ageSweepDo

/-- COMPARE_SWEEP (R256): a compare sweep of the forwarding table, with the lines in which it finds a fault. -/
def execCompareSweep (t : Nat) (found : List FwdFault) (s : State) : Host.Outcome State Fault Refusal :=
  s.runFast t (fun s => s.compareSweepDo found)

/-- CONTEXT_COMPARE_SWEEP (R494): a compare sweep of contexts and rules, with the lines in which it finds a fault. -/
def execContextCompareSweep (t : Nat) (found : List CtxFault) (s : State) : Host.Outcome State Fault Refusal :=
  s.runFast t (fun s => s.ctxSweep found)

/-- HUB_SLOT (R263): one crossbar slot of a plane; `mismatch`: the Hub's copies disagree. -/
def execHubSlot (t : Nat) (plane : Fin 4) (mismatch : Bool) (s : State) : Host.Outcome State Fault Refusal :=
  s.runFast t (fun s => s.hubSlot plane.val mismatch)

/-- EGRESS_CELL (R260): a cell in flight reaches its egress slice. -/
def execEgressCell (t : Nat) (stream seq : Nat) (crcOk : Bool) (s : State) : Host.Outcome State Fault Refusal :=
  s.runFast t (fun s => s.egressCell stream seq crcOk)

/-- CELL_LOST (R260): the next SEQ of a stream is still absent. -/
def execCellLost (t : Nat) (stream : Nat) (s : State) : Host.Outcome State Fault Refusal := s.runFast t (fun s => s.cellLost stream)

/-- VOQ_AGE (R262): the age of a VOQ's head is checked. -/
def execVoqAge (t : Nat) (stream : Nat) (s : State) : Host.Outcome State Fault Refusal := s.runFast t (fun s => s.voqAge stream)

/-- RESIDUE_ENQUEUE (R268): a queue with residue copies is ready. -/
def execResidueEnqueue (t : Nat) (sl : SliceIx) (queue : Nat) (s : State) : Host.Outcome State Fault Refusal :=
  s.runFast t (fun s => s.residueEnqueue sl.val queue)

/-- MC_RESIDUE (R268): RESIDUE_TIME is checked. -/
def execMcResidue (t : Nat) (sl : SliceIx) (s : State) : Host.Outcome State Fault Refusal := s.runFast t (fun s => s.residueAge sl.val)

/-- FLUSH_END (R270): the flush of a switch port completes. -/
def execFlushEnd (t : Nat) (port : Fin 272) (s : State) : Host.Outcome State Fault Refusal := s.runFast t (fun s => s.flushEndDo port.val)

/-- PORT_MINIMUM_DOWN_EXPIRY (R271): 20 µs after a down event. -/
def execPortMinimumDownExpiry (t : Nat) (p : PortIx) (s : State) : Host.Outcome State Fault Refusal :=
  s.runFast t (fun s => s.minDownEnd p.val)

/-- PANNIER_READ_COMPLETE (R380): the next spilled cell of an egress queue is on die. -/
def execPannierReadComplete (t : Nat) (queue : Nat) (pc : Fin 128) (bank row : Nat) (result : CellRead) (s : State) : Host.Outcome State Fault Refusal :=
  s.runFast t (fun s => s.pannierRead queue pc.val bank row result)

/-- SCHEDULER_PICK (R285): the channel framer picks. -/
def execSchedulerPick (t : Nat) (c : Chan) (s : State) : Host.Outcome State Fault Refusal := s.runFast t (fun s => s.schedulerPick c.val)

/-- UPLINK_PICK (R291): the port picks. -/
def execUplinkPick (t : Nat) (p : PortIx) (s : State) : Host.Outcome State Fault Refusal := s.runFast t (fun s => s.uplinkPickDo p.val)

/-- GATE_CHANGE (R294): the entry of a gate list is over. -/
def execGateChange (t : Nat) (target : Nat) (s : State) : Host.Outcome State Fault Refusal :=
  s.runFast t (fun s => (s.settleGates target).gateChangeDo target)

/-- GCL_CHANGE_POINT (R296): the change point of a pending gate list. -/
def execGclChangePoint (t : Nat) (target : Nat) (s : State) : Host.Outcome State Fault Refusal :=
  s.runFast t (fun s => (s.settleGates target).gclChangeDo target)

/-- FLUSH_WALK_DONE (R253): a walk ends; `slot` names its command. -/
def execFlushWalkDone (t : Nat) (slot : Nat) (s : State) : Host.Outcome State Fault Refusal := s.runFast t (fun s => s.flushDone slot)

end Sys2Proof.Machine
end

