-- ==== Sys2Proof/Machine/UplinkRows.lean ====
section
/-! DEFINITION. Machine/UplinkRows.lean: the rows of the uplink ports and their lanes (13). -/

namespace Sys2Proof.Machine

/-- PORT_ENABLE (R355, R359): 1 is written to `UPL_CTRL.EN`. -/
def execPortEnable (t : Nat) (path : Path) (p : PortIx) (s : State) : Host.Outcome State Fault Refusal :=
  s.run t (fun s => s.pathWrite path .other (fun s => s.portEnableDo p.val))

/-- PORT_DISABLE (R361): 0 is written to `UPL_CTRL.EN`. -/
def execPortDisable (t : Nat) (path : Path) (p : PortIx) (s : State) : Host.Outcome State Fault Refusal :=
  s.run t (fun s => s.pathWrite path .other (fun s => s.portDisableDo p.val))

/-- ADAPTATION_DONE (13 Table 3 step 4). -/
def execAdaptationDone (t : Nat) (p : PortIx) (j : Fin 8) (s : State) : Host.Outcome State Fault Refusal :=
  s.runFast t (fun s => s.adaptationDone p.val j.val)

/-- LANE_LOCK (R363, R364): `n` consecutive valid headers or markers. -/
def execLaneLock (t : Nat) (p : PortIx) (r : LaneRun) (s : State) : Host.Outcome State Fault Refusal :=
  s.runFast t (fun s => s.laneLock p.val r.lane.val r.n)

/-- LOCK_LOSS (R363, R364): `n` invalid headers of 64, or missing markers. -/
def execLockLoss (t : Nat) (p : PortIx) (r : LaneRun) (s : State) : Host.Outcome State Fault Refusal :=
  s.runFast t (fun s => s.lockLoss p.val r.lane.val r.n)

/-- DESKEW_FAIL (R364): the lanes' skew, in ps. -/
def execDeskewFail (t : Nat) (k : PortSkew) (s : State) : Host.Outcome State Fault Refusal :=
  s.runFast t (fun s => s.deskewFail k.port.val k.skew)

/-- LOCAL_FAULT (13 Table 4): four Local Fault sequences. -/
def execLocalFault (t : Nat) (p : PortIx) (s : State) : Host.Outcome State Fault Refusal := s.runFast t (fun s => s.faultSeen p.val false)

/-- REMOTE_FAULT (13 Table 4): four Remote Fault sequences. -/
def execRemoteFault (t : Nat) (p : PortIx) (s : State) : Host.Outcome State Fault Refusal := s.runFast t (fun s => s.faultSeen p.val true)

/-- UP_HOLD_EXPIRY (R360): UP_HOLD is over. -/
def execUpHoldExpiry (t : Nat) (p : PortIx) (s : State) : Host.Outcome State Fault Refusal := s.runFast t (fun s => s.upHoldEnd p.val)

/-- RECOVERY_CYCLE (R362): RECOV × 10 ms are over. -/
def execRecoveryCycle (t : Nat) (p : PortIx) (s : State) : Host.Outcome State Fault Refusal := s.runFast t (fun s => s.recoveryCycle p.val)

/-- LOS_DETECT (R370): the amplitude has stayed at `mv` or below for 100 ns; `afterLpi`: the signal went after LPI (R368). -/
def execLosDetect (t : Nat) (p : PortIx) (l : LaneLevel) (afterLpi : Bool) (s : State) : Host.Outcome State Fault Refusal :=
  s.runFast t (fun s => s.losDetect p.val l.lane.val l.mv afterLpi)

/-- LOS_CLEAR (R370): the amplitude has stayed at `mv` or above for 10 µs. -/
def execLosClear (t : Nat) (p : PortIx) (l : LaneLevel) (s : State) : Host.Outcome State Fault Refusal :=
  s.runFast t (fun s => s.losClear p.val l.lane.val l.mv)

/-- LOL_DETECT (R370): the CDR loses phase lock. -/
def execLolDetect (t : Nat) (p : PortIx) (j : Fin 8) (s : State) : Host.Outcome State Fault Refusal :=
  s.runFast t (fun s => s.lolDetect p.val j.val)

/-- LOL_CLEAR (R370): the CDR has had lock for 10 µs. -/
def execLolClear (t : Nat) (p : PortIx) (j : Fin 8) (s : State) : Host.Outcome State Fault Refusal :=
  s.runFast t (fun s => s.lolClear p.val j.val)

/-- EYE_SWEEP (R370): a sweep ends with an opening. -/
def execEyeSweep (t : Nat) (p : PortIx) (j : Fin 8) (h v : Fin 64) (s : State) : Host.Outcome State Fault Refusal :=
  s.runFast t (fun s => s.eyeSweep p.val j.val h.val v.val)

/-- TRANSMIT_FREEWHEEL_ENTRY (R366): FW_IDLE is over. -/
def execTransmitFreewheelEntry (t : Nat) (p : PortIx) (s : State) : Host.Outcome State Fault Refusal :=
  s.runFast t (fun s => s.txFwEnter p.val)

/-- TRANSMIT_FREEWHEEL_EXIT (R367): a frame is eligible. -/
def execTransmitFreewheelExit (t : Nat) (p : PortIx) (s : State) : Host.Outcome State Fault Refusal :=
  s.runFast t (fun s => s.txFwExit p.val)

/-- FW_MAX_EXPIRY (R368): the partner's quiet has lasted FW_MAX. -/
def execFwMaxExpiry (t : Nat) (p : PortIx) (j : Fin 8) (s : State) : Host.Outcome State Fault Refusal :=
  s.runFast t (fun s => s.fwMaxEnd p.val j.val)

/-- RECEIVE_FREEWHEEL_EXIT (R368): the signal returns. -/
def execReceiveFreewheelExit (t : Nat) (p : PortIx) (j : Fin 8) (s : State) : Host.Outcome State Fault Refusal :=
  s.runFast t (fun s => s.rxFwExit p.val j.val)

/-- KICKSTAND_EXIT_DONE (13 Table 3 step 1 ends). -/
def execKickstandExitDone (t : Nat) (p : PortIx) (s : State) : Host.Outcome State Fault Refusal :=
  s.runFast t (fun s => s.kickstandExit p.val)

/-- FAULT_SEQUENCES_END (R360): Local Fault, Remote Fault sequences end. -/
def execFaultSequencesEnd (t : Nat) (p : PortIx) (loc rem : Bool) (s : State) : Host.Outcome State Fault Refusal :=
  s.runFast t (fun s => s.faultsEnd p.val loc rem)

end Sys2Proof.Machine
end

