-- ==== Sys2Proof/Machine/Dispatch.lean ====
section
/-! DEFINITION. Machine/Dispatch.lean: one arm per command: its meaning, on everything but the queue. -/

namespace Sys2Proof.Machine

def exec (i : Instr) (s : State) : Host.Outcome State Fault Refusal :=
  match i with
  | .registerWrite t path bar off size value => Sys2Proof.Machine.execRegisterWrite t path bar off size value s
  | .gntStatRead t path => Sys2Proof.Machine.execGntStatRead t path s
  | .setupLock t path => Sys2Proof.Machine.execSetupLock t path s
  | .setupLive t => Sys2Proof.Machine.execSetupLive t s
  | .coldReset t => Sys2Proof.Machine.execColdReset t s
  | .coldStart t => Sys2Proof.Machine.execColdStart t s
  | .bootReady t slot fwVer secVer delays => Sys2Proof.Machine.execBootReady t slot fwVer secVer delays s
  | .warmResetStart t wrst => Sys2Proof.Machine.execWarmResetStart t wrst s
  | .warmResetRelease t => Sys2Proof.Machine.execWarmResetRelease t s
  | .hostReset t => Sys2Proof.Machine.execHostReset t s
  | .hostLinkTrained t cxl width rate => Sys2Proof.Machine.execHostLinkTrained t cxl width rate s
  | .vfFlr t v => Sys2Proof.Machine.execVfFlr t v s
  | .standbyEntry t => Sys2Proof.Machine.execStandbyEntry t s
  | .standbyExit t => Sys2Proof.Machine.execStandbyExit t s
  | .sensorSample t temps volts => Sys2Proof.Machine.execSensorSample t temps volts s
  | .sliceStop t sl => Sys2Proof.Machine.execSliceStop t sl s
  | .sliceWakeDone t sl => Sys2Proof.Machine.execSliceWakeDone t sl s
  | .channelUnitStop t c => Sys2Proof.Machine.execChannelUnitStop t c s
  | .channelUnitWakeDone t c => Sys2Proof.Machine.execChannelUnitWakeDone t c s
  | .burstReceiverWake t c k j => Sys2Proof.Machine.execBurstReceiverWake t c k j s
  | .clusterGate t n => Sys2Proof.Machine.execClusterGate t n s
  | .clusterWakeDone t n => Sys2Proof.Machine.execClusterWakeDone t n s
  | .pannierSelfRefresh t => Sys2Proof.Machine.execPannierSelfRefresh t s
  | .pannierWakeDone t => Sys2Proof.Machine.execPannierWakeDone t s
  | .pannierStartDone t bankFail => Sys2Proof.Machine.execPannierStartDone t bankFail s
  | .phyFrameStart t => Sys2Proof.Machine.execPhyFrameStart t s
  | .upstreamFrameEnd t c k => Sys2Proof.Machine.execUpstreamFrameEnd t c k s
  | .burstReceived t c k j burst => Sys2Proof.Machine.execBurstReceived t c k j burst s
  | .delimiterWindowClose t c k j => Sys2Proof.Machine.execDelimiterWindowClose t c k j s
  | .upstreamOmciFrame t c ix packet => Sys2Proof.Machine.execUpstreamOmciFrame t c ix packet s
  | .serialNumberOnu t c resp => Sys2Proof.Machine.execSerialNumberOnu t c resp s
  | .rangingResponse t c ix sn r => Sys2Proof.Machine.execRangingResponse t c ix sn r s
  | .rangingWindowClose t c ix => Sys2Proof.Machine.execRangingWindowClose t c ix s
  | .acknowledgement t c ix msg => Sys2Proof.Machine.execAcknowledgement t c ix msg s
  | .registration t c ix msg => Sys2Proof.Machine.execRegistration t c ix msg s
  | .ploamRx t c ix msg => Sys2Proof.Machine.execPloamRx t c ix msg s
  | .lostTimeExpiry t c ix => Sys2Proof.Machine.execLostTimeExpiry t c ix s
  | .quarantineExpiry t c onuId => Sys2Proof.Machine.execQuarantineExpiry t c onuId s
  | .rememberedRoundStart t c => Sys2Proof.Machine.execRememberedRoundStart t c s
  | .snapshot t c compute => Sys2Proof.Machine.execSnapshot t c compute s
  | .mapDeadline t c => Sys2Proof.Machine.execMapDeadline t c s
  | .tuneAck t c ix msg => Sys2Proof.Machine.execTuneAck t c ix msg s
  | .tuneAckTimeout t c ix => Sys2Proof.Machine.execTuneAckTimeout t c ix s
  | .tuneArrive t c ix msg phase => Sys2Proof.Machine.execTuneArrive t c ix msg phase s
  | .arriveTimeout t c ix => Sys2Proof.Machine.execArriveTimeout t c ix s
  | .moveSuggest t tree => Sys2Proof.Machine.execMoveSuggest t tree s
  | .uplinkFrameRx t p frame fcsOk fec => Sys2Proof.Machine.execUplinkFrameRx t p frame fcsOk fec s
  | .ingressLookup t sl => Sys2Proof.Machine.execIngressLookup t sl s
  | .chainringPass t sl => Sys2Proof.Machine.execChainringPass t sl s
  | .learnRequest t => Sys2Proof.Machine.execLearnRequest t s
  | .ageSweep t => Sys2Proof.Machine.execAgeSweep t s
  | .compareSweep t found => Sys2Proof.Machine.execCompareSweep t found s
  | .contextCompareSweep t found => Sys2Proof.Machine.execContextCompareSweep t found s
  | .hubSlot t plane mismatch => Sys2Proof.Machine.execHubSlot t plane mismatch s
  | .egressCell t stream seq crcOk => Sys2Proof.Machine.execEgressCell t stream seq crcOk s
  | .cellLost t stream => Sys2Proof.Machine.execCellLost t stream s
  | .voqAge t stream => Sys2Proof.Machine.execVoqAge t stream s
  | .residueEnqueue t sl queue => Sys2Proof.Machine.execResidueEnqueue t sl queue s
  | .mcResidue t sl => Sys2Proof.Machine.execMcResidue t sl s
  | .flushEnd t port => Sys2Proof.Machine.execFlushEnd t port s
  | .holdExpiry t c ix => Sys2Proof.Machine.execHoldExpiry t c ix s
  | .pannierReadComplete t queue pc bank row result => Sys2Proof.Machine.execPannierReadComplete t queue pc bank row result s
  | .schedulerPick t c => Sys2Proof.Machine.execSchedulerPick t c s
  | .uplinkPick t p => Sys2Proof.Machine.execUplinkPick t p s
  | .gateChange t target => Sys2Proof.Machine.execGateChange t target s
  | .gclChangePoint t target => Sys2Proof.Machine.execGclChangePoint t target s
  | .cipherDispatch t => Sys2Proof.Machine.execCipherDispatch t s
  | .cipherRequestDone t id fault => Sys2Proof.Machine.execCipherRequestDone t id fault s
  | .cphLate t id => Sys2Proof.Machine.execCphLate t id s
  | .retiredGenerationZeroise t slot => Sys2Proof.Machine.execRetiredGenerationZeroise t slot s
  | .overlapExpiry t ep => Sys2Proof.Machine.execOverlapExpiry t ep s
  | .keyStoreCheck t bad => Sys2Proof.Machine.execKeyStoreCheck t bad s
  | .ccmTransmit t mep => Sys2Proof.Machine.execCcmTransmit t mep s
  | .receiveTimerCheck t mep => Sys2Proof.Machine.execReceiveTimerCheck t mep s
  | .aisTransmit t mep => Sys2Proof.Machine.execAisTransmit t mep s
  | .portEnable t path p => Sys2Proof.Machine.execPortEnable t path p s
  | .portDisable t path p => Sys2Proof.Machine.execPortDisable t path p s
  | .adaptationDone t p j => Sys2Proof.Machine.execAdaptationDone t p j s
  | .laneLock t p r => Sys2Proof.Machine.execLaneLock t p r s
  | .lockLoss t p r => Sys2Proof.Machine.execLockLoss t p r s
  | .deskewFail t k => Sys2Proof.Machine.execDeskewFail t k s
  | .localFault t p => Sys2Proof.Machine.execLocalFault t p s
  | .remoteFault t p => Sys2Proof.Machine.execRemoteFault t p s
  | .upHoldExpiry t p => Sys2Proof.Machine.execUpHoldExpiry t p s
  | .recoveryCycle t p => Sys2Proof.Machine.execRecoveryCycle t p s
  | .losDetect t p l afterLpi => Sys2Proof.Machine.execLosDetect t p l afterLpi s
  | .losClear t p l => Sys2Proof.Machine.execLosClear t p l s
  | .lolDetect t p j => Sys2Proof.Machine.execLolDetect t p j s
  | .lolClear t p j => Sys2Proof.Machine.execLolClear t p j s
  | .eyeSweep t p j h v => Sys2Proof.Machine.execEyeSweep t p j h v s
  | .transmitFreewheelEntry t p => Sys2Proof.Machine.execTransmitFreewheelEntry t p s
  | .transmitFreewheelExit t p => Sys2Proof.Machine.execTransmitFreewheelExit t p s
  | .fwMaxExpiry t p j => Sys2Proof.Machine.execFwMaxExpiry t p j s
  | .modAccessDone t c answer => Sys2Proof.Machine.execModAccessDone t c answer s
  | .rssiTrigger t c => Sys2Proof.Machine.execRssiTrigger t c s
  | .rssiTimeout t c => Sys2Proof.Machine.execRssiTimeout t c s
  | .refreshDue t pc => Sys2Proof.Machine.execRefreshDue t pc s
  | .hbmTemperatureRead t stack celsius => Sys2Proof.Machine.execHbmTemperatureRead t stack celsius s
  | .throttleRelease t pc => Sys2Proof.Machine.execThrottleRelease t pc s
  | .hbmDlyWrite t path n value => Sys2Proof.Machine.execHbmDlyWrite t path n value s
  | .cxmLinkUp t type3 decoder gib directory => Sys2Proof.Machine.execCxmLinkUp t type3 decoder gib directory s
  | .cxmDown t => Sys2Proof.Machine.execCxmDown t s
  | .bar2Write t off data => Sys2Proof.Machine.execBar2Write t off data s
  | .timeSetTakeEffect t => Sys2Proof.Machine.execTimeSetTakeEffect t s
  | .timeLatch t path value => Sys2Proof.Machine.execTimeLatch t path value s
  | .timRefLost t => Sys2Proof.Machine.execTimRefLost t s
  | .ppsOut t => Sys2Proof.Machine.execPpsOut t s
  | .ppsIn t rising => Sys2Proof.Machine.execPpsIn t rising s
  | .rclkResume t n => Sys2Proof.Machine.execRclkResume t n s
  | .frequencyGate t n foff => Sys2Proof.Machine.execFrequencyGate t n foff s
  | .doorbell t r idx => Sys2Proof.Machine.execDoorbell t r idx s
  | .doorbellLineSnoop t line words => Sys2Proof.Machine.execDoorbellLineSnoop t line words s
  | .ringEnable t r value => Sys2Proof.Machine.execRingEnable t r value s
  | .ringDisable t r => Sys2Proof.Machine.execRingDisable t r s
  | .ringDrainDone t r => Sys2Proof.Machine.execRingDrainDone t r s
  | .descriptorFetch t r read => Sys2Proof.Machine.execDescriptorFetch t r read s
  | .interruptCoalesceTimer t r => Sys2Proof.Machine.execInterruptCoalesceTimer t r s
  | .hifIntWrite t g value => Sys2Proof.Machine.execHifIntWrite t g value s
  | .nop t cmd => Sys2Proof.Machine.execNop t cmd s
  | .pktTx t cmd => Sys2Proof.Machine.execPktTx t cmd s
  | .rxBuf t cmd => Sys2Proof.Machine.execRxBuf t cmd s
  | .cntPage t cmd => Sys2Proof.Machine.execCntPage t cmd s
  | .omciTx t cmd => Sys2Proof.Machine.execOmciTx t cmd s
  | .channelMode t cmd => Sys2Proof.Machine.execChannelMode t cmd s
  | .rssiArm t cmd => Sys2Proof.Machine.execRssiArm t cmd s
  | .modAccess t cmd => Sys2Proof.Machine.execModAccess t cmd s
  | .allowWrite t cmd => Sys2Proof.Machine.execAllowWrite t cmd s
  | .allowErase t cmd => Sys2Proof.Machine.execAllowErase t cmd s
  | .recordForget t cmd => Sys2Proof.Machine.execRecordForget t cmd s
  | .termDeactivate t cmd => Sys2Proof.Machine.execTermDeactivate t cmd s
  | .termDisable t cmd => Sys2Proof.Machine.execTermDisable t cmd s
  | .termEnableSn t cmd => Sys2Proof.Machine.execTermEnableSn t cmd s
  | .termRelease t cmd => Sys2Proof.Machine.execTermRelease t cmd s
  | .ploamSend t cmd => Sys2Proof.Machine.execPloamSend t cmd s
  | .xgemPortSet t cmd => Sys2Proof.Machine.execXgemPortSet t cmd s
  | .allocSet t cmd => Sys2Proof.Machine.execAllocSet t cmd s
  | .allocClear t cmd => Sys2Proof.Machine.execAllocClear t cmd s
  | .termProfile t cmd => Sys2Proof.Machine.execTermProfile t cmd s
  | .coopAnnounce t cmd => Sys2Proof.Machine.execCoopAnnounce t cmd s
  | .termMove t cmd => Sys2Proof.Machine.execTermMove t cmd s
  | .termMoveAbort t cmd => Sys2Proof.Machine.execTermMoveAbort t cmd s
  | .svcSet t cmd => Sys2Proof.Machine.execSvcSet t cmd s
  | .svcLearn t cmd => Sys2Proof.Machine.execSvcLearn t cmd s
  | .svcMapUp t cmd => Sys2Proof.Machine.execSvcMapUp t cmd s
  | .svcMatchAdd t cmd => Sys2Proof.Machine.execSvcMatchAdd t cmd s
  | .svcMatchDel t cmd => Sys2Proof.Machine.execSvcMatchDel t cmd s
  | .ruleWrite t cmd => Sys2Proof.Machine.execRuleWrite t cmd s
  | .rsetWrite t cmd => Sys2Proof.Machine.execRsetWrite t cmd s
  | .indirWrite t cmd => Sys2Proof.Machine.execIndirWrite t cmd s
  | .fwdInsert t cmd => Sys2Proof.Machine.execFwdInsert t cmd s
  | .fwdDelete t cmd => Sys2Proof.Machine.execFwdDelete t cmd s
  | .fwdSearch t cmd => Sys2Proof.Machine.execFwdSearch t cmd s
  | .fwdMove t cmd => Sys2Proof.Machine.execFwdMove t cmd s
  | .fwdNext t cmd => Sys2Proof.Machine.execFwdNext t cmd s
  | .fwdFlush t cmd => Sys2Proof.Machine.execFwdFlush t cmd s
  | .flushWalkDone t slot => Sys2Proof.Machine.execFlushWalkDone t slot s
  | .swQprof t cmd => Sys2Proof.Machine.execSwQprof t cmd s
  | .mcGroupSet t cmd => Sys2Proof.Machine.execMcGroupSet t cmd s
  | .mcMemberWrite t cmd => Sys2Proof.Machine.execMcMemberWrite t cmd s
  | .meterSet t cmd => Sys2Proof.Machine.execMeterSet t cmd s
  | .shaperSet t cmd => Sys2Proof.Machine.execShaperSet t cmd s
  | .schedSet t cmd => Sys2Proof.Machine.execSchedSet t cmd s
  | .cbsSet t cmd => Sys2Proof.Machine.execCbsSet t cmd s
  | .gclSet t cmd => Sys2Proof.Machine.execGclSet t cmd s
  | .kekSet t cmd => Sys2Proof.Machine.execKekSet t cmd s
  | .keyWrite t cmd => Sys2Proof.Machine.execKeyWrite t cmd s
  | .keyErase t cmd => Sys2Proof.Machine.execKeyErase t cmd s
  | .keyQuery t cmd => Sys2Proof.Machine.execKeyQuery t cmd s
  | .ponKeySet t cmd => Sys2Proof.Machine.execPonKeySet t cmd s
  | .sealSet t cmd => Sys2Proof.Machine.execSealSet t cmd s
  | .sealPhase t cmd => Sys2Proof.Machine.execSealPhase t cmd s
  | .sealEpSet t cmd => Sys2Proof.Machine.execSealEpSet t cmd s
  | .sealEpDel t cmd => Sys2Proof.Machine.execSealEpDel t cmd s
  | .macsecTxSet t cmd => Sys2Proof.Machine.execMacsecTxSet t cmd s
  | .macsecRxSet t cmd => Sys2Proof.Machine.execMacsecRxSet t cmd s
  | .megSet t cmd => Sys2Proof.Machine.execMegSet t cmd s
  | .mepSet t cmd => Sys2Proof.Machine.execMepSet t cmd s
  | .mepDel t cmd => Sys2Proof.Machine.execMepDel t cmd s
  | .timeSet t cmd => Sys2Proof.Machine.execTimeSet t cmd s
  | .todQuery t cmd => Sys2Proof.Machine.execTodQuery t cmd s
  | .channelEnable t path c => Sys2Proof.Machine.execChannelEnable t path c s
  | .channelDisable t path c => Sys2Proof.Machine.execChannelDisable t path c s
  | .channelReset t path c => Sys2Proof.Machine.execChannelReset t path c s
  | .channelResetDone t c => Sys2Proof.Machine.execChannelResetDone t c s
  | .discoveryEnable t path c => Sys2Proof.Machine.execDiscoveryEnable t path c s
  | .mailboxDoorbell t path value => Sys2Proof.Machine.execMailboxDoorbell t path value s
  | .getInfo t => Sys2Proof.Machine.execGetInfo t s
  | .getSensors t => Sys2Proof.Machine.execGetSensors t s
  | .logRead t => Sys2Proof.Machine.execLogRead t s
  | .imgWrite t flashOk => Sys2Proof.Machine.execImgWrite t flashOk s
  | .imgVerify t => Sys2Proof.Machine.execImgVerify t s
  | .imgActivate t flashOk => Sys2Proof.Machine.execImgActivate t flashOk s
  | .imageSwitchDone t fwVer secVer => Sys2Proof.Machine.execImageSwitchDone t fwVer secVer s
  | .imgFallback t fwVer secVer => Sys2Proof.Machine.execImgFallback t fwVer secVer s
  | .secverCommit t => Sys2Proof.Machine.execSecverCommit t s
  | .dlyWrite t flashOk => Sys2Proof.Machine.execDlyWrite t flashOk s
  | .warmReset t => Sys2Proof.Machine.execWarmReset t s
  | .mgtLockstep t memory => Sys2Proof.Machine.execMgtLockstep t memory s
  | .smbusWrite t data => Sys2Proof.Machine.execSmbusWrite t data s
  | .bypass t => Sys2Proof.Machine.execBypass t s
  | .idcode t => Sys2Proof.Machine.execIdcode t s
  | .samplePreload t pins preload => Sys2Proof.Machine.execSamplePreload t pins preload s
  | .extest t => Sys2Proof.Machine.execExtest t s
  | .extestPulse t => Sys2Proof.Machine.execExtestPulse t s
  | .extestTrain t => Sys2Proof.Machine.execExtestTrain t s
  | .highz t => Sys2Proof.Machine.execHighz t s
  | .clamp t => Sys2Proof.Machine.execClamp t s
  | .counterSweep t => Sys2Proof.Machine.execCounterSweep t s
  | .bandwidthWindow t => Sys2Proof.Machine.execBandwidthWindow t s
  | .sampleRecordWrite t sl => Sys2Proof.Machine.execSampleRecordWrite t sl s
  | .cntSampWrite t path value => Sys2Proof.Machine.execCntSampWrite t path value s
  | .watchdog t wunit => Sys2Proof.Machine.execWatchdog t wunit s
  | .scrub t site uncorrectable => Sys2Proof.Machine.execScrub t site uncorrectable s
  | .pllLockLoss t punit => Sys2Proof.Machine.execPllLockLoss t punit s
  | .faultInject t path value => Sys2Proof.Machine.execFaultInject t path value s
  | .refclkPonReturn t => Sys2Proof.Machine.execRefclkPonReturn t s
  | .receiveFreewheelExit t p j => Sys2Proof.Machine.execReceiveFreewheelExit t p j s
  | .kickstandExitDone t p => Sys2Proof.Machine.execKickstandExitDone t p s
  | .faultSequencesEnd t p loc rem => Sys2Proof.Machine.execFaultSequencesEnd t p loc rem s
  | .portMinimumDownExpiry t p => Sys2Proof.Machine.execPortMinimumDownExpiry t p s
  | .discoveryWindowClose t c => Sys2Proof.Machine.execDiscoveryWindowClose t c s
  | .quietWindowStart t c => Sys2Proof.Machine.execQuietWindowStart t c s
  | .ppsOutPulseEnd t => Sys2Proof.Machine.execPpsOutPulseEnd t s
  | .interruptGroupIntervalEnd t g => Sys2Proof.Machine.execInterruptGroupIntervalEnd t g s
  | .bootRecovery t => Sys2Proof.Machine.execBootRecovery t s
  | .cxmTrainingFailed t => Sys2Proof.Machine.execCxmTrainingFailed t s
  | .hostLinkError t err => Sys2Proof.Machine.execHostLinkError t err s

end Sys2Proof.Machine
end

