-- ==== Sys2Proof/WellFormed.lean ====
section
/-! DEFINITION. WellFormed.lean: which commands have operands that the hardware can see: widths of written values and of
descriptor fields, offsets inside a BAR, and the numbers of readings. The meanings are total on every operand; a test
refuses an ill-formed term for each check. -/

namespace Sys2Proof

/-- Bytes of a BAR (21 Table 1). -/
def Bar.size : Bar → Nat
  | .pf0 => 2 ^ 25
  | .pf4 => 2 ^ 16
  | .vf0 _ => 2 ^ 16
  | .vf4 _ => 2 ^ 15

/-- A write of `size` bytes at an offset: a size the link carries, inside the BAR, with a value of that width. -/
def writeOk (bar : Bar) (off size value : Nat) : Bool :=
  (size == 1 || size == 2 || size == 4 || size == 8) && decide (off + size ≤ bar.size) && decide (value < 2 ^ (8 * size))

/-- A 32-bit value. -/
def wordOk (v : Nat) : Bool := decide (v < 2 ^ 32)

/-- Field widths of a descriptor (16 Table 2), and a buffer of the length it names. -/
def Cmd.wf (c : Cmd) : Bool :=
  decide (c.flags < 256) && decide (c.spec < 2 ^ 16) && decide (c.len < 2 ^ 32) && decide (c.addr < 2 ^ 64)
    && decide (c.cookie < 2 ^ 64) && decide (c.aux < 2 ^ 64)
    && (match c.buf with
        | some b => b.length == c.len
        | none => true)

/-- A received burst header: four levels (R90), an ONU-ID of ten bits. -/
def BurstHead.wf (h : BurstHead) : Bool := h.levels.length == 4 && decide (h.onuId < 1024)

/-- The well-formed commands. -/
def Instr.wf : Instr → Bool
  | .registerWrite _ _ bar off size value => writeOk bar off size value
  | .sensorSample _ temps volts => temps.length == 32 && volts.length == 24
  | .burstReceived _ _ _ _ b => b.head.wf
  | .serialNumberOnu _ _ r => r.head.wf && decide (r.sn < 2 ^ 64)
  | .rangingResponse _ _ _ sn _ => decide (sn < 2 ^ 64)
  | .hbmDlyWrite _ _ _ v => wordOk v
  | .timeLatch _ _ v => wordOk v
  | .mailboxDoorbell _ _ v => wordOk v
  | .cntSampWrite _ _ v => wordOk v
  | .faultInject _ _ v => wordOk v
  | .hifIntWrite _ _ v => wordOk v
  | .ringEnable _ _ v => wordOk v
  | .doorbell _ _ v => wordOk v
  | .doorbellLineSnoop _ _ ws => ws.length == 16 && ws.all wordOk
  | .descriptorFetch _ _ (some b) => b.length % 32 == 0 && decide (b.length ≤ 512)
  | .gateChange _ target => decide (target < 256)
  | .gclChangePoint _ target => decide (target < 256)
  | .residueEnqueue _ _ q => decide (q < 2 ^ 20)
  | .smbusWrite _ d => !d.isEmpty
  | .nop _ c | .pktTx _ c | .rxBuf _ c | .cntPage _ c | .omciTx _ c | .channelMode _ c | .rssiArm _ c | .modAccess _ c
  | .allowWrite _ c | .allowErase _ c | .recordForget _ c | .termDeactivate _ c | .termDisable _ c | .termEnableSn _ c
  | .termRelease _ c | .ploamSend _ c | .xgemPortSet _ c | .allocSet _ c | .allocClear _ c | .termProfile _ c
  | .coopAnnounce _ c | .termMove _ c | .termMoveAbort _ c | .svcSet _ c | .svcLearn _ c | .svcMapUp _ c
  | .svcMatchAdd _ c | .svcMatchDel _ c | .ruleWrite _ c | .rsetWrite _ c | .indirWrite _ c | .fwdInsert _ c
  | .fwdDelete _ c | .fwdSearch _ c | .fwdMove _ c | .fwdNext _ c | .fwdFlush _ c | .swQprof _ c | .mcGroupSet _ c
  | .mcMemberWrite _ c | .meterSet _ c | .shaperSet _ c | .schedSet _ c | .cbsSet _ c | .gclSet _ c | .kekSet _ c
  | .keyWrite _ c | .keyErase _ c | .keyQuery _ c | .ponKeySet _ c | .sealSet _ c | .sealPhase _ c | .sealEpSet _ c
  | .sealEpDel _ c | .macsecTxSet _ c | .macsecRxSet _ c | .megSet _ c | .mepSet _ c | .mepDel _ c | .timeSet _ c
  | .todQuery _ c => c.wf
  | _ => true

end Sys2Proof
end

