-- ==== Sys2Proof/Safety.lean ====
section
/-! DEFINITION. Safety.lean: the terms in which claims are made: a step that answers a next state, the queue, a command of a
ring that meets its ring ready, its slot, the state that its effect sees, and its completion. -/

namespace Sys2Proof.Machine

/-- A step goes on: it answers a next state. -/
def Goes (s : State) : Prop := ∃ t, step s = .next t

/-- Every waiting command is well-formed. -/
def QueueOk (s : State) : Bool := s.pending.all Instr.wf

/-- A command answers a next state of which P holds. -/
def Gives (i : Instr) (s : State) (P : State → Prop) : Prop := ∃ u, exec i s = .next u ∧ P u

/-- The fast clocks run, and no fetched command is in progress: what a row of the data plane does is all that happens. -/
abbrev Fast (s : State) : Prop := s.clocksRun = true ∧ s.host.slots = []

/-- The always-on domain runs, and no fetched command is in progress (R510, R517). -/
abbrev Awake (s : State) : Prop := s.life.por = false ∧ s.life.warm = .none ∧ s.host.slots = []

/-- The host path reaches a region of the open device, and no fetched command is in progress (R21, R511, R523). -/
abbrev Reaches (s : State) (r : Region) : Prop := s.hostAnswers = true ∧ s.shows r = true ∧ s.host.slots = []

/-- Registers of BAR0 whose fields do more than hold what is written to them. -/
def actsOnWrite (off : Nat) : Bool :=
  [Reg.pchCtrl, Reg.actDisc, Reg.uplCtrl, Reg.glbPwr, Reg.glbCtrl, Reg.timLatch, Reg.mgtMbxDb, Reg.mgtMbxStat, Reg.fltStat, Reg.fltInj,
    Reg.cntSamp, Reg.timRclk 0, Reg.timRclk 1, Reg.fwdCfg, Reg.tmCfg, Reg.uplGcfg, Reg.cxmCtrl].contains off
  || isHbmDly off || [(0x11000, 0x12000), (0x110000, 0x118000), (0x120000, 0x121000), (0x100100, 0x100180), (0x100810, 0x100C00),
    (0x201040, 0x2010C0)].any (fun r => decide (r.1 ≤ off) && decide (off < r.2))

/-- A ring takes one more command at once: it runs and may fetch, has room, is of a type that takes the opcode, and no fetched
command is in progress; but for NOP the set-up is locked and the data plane live (R429, R433, R435, R512). -/
def cmdReady (s : State) (op : Nat) (c : Cmd) : Bool :=
  s.host.slots.isEmpty && s.fetches c.ring.val && opcodeKnown op && opcodeOn (s.ringType c.ring.val) op
    && (op == Op.nop || (s.life.locked && s.life.live))
    && decide (idxDiff (s.ring c.ring.val).head (s.ring c.ring.val).tail < s.ringSize c.ring.val)

/-- The slot of a command that takes its ring's next entry. -/
def cmdSlot (s : State) (op : Nat) (c : Cmd) : Slot :=
  { id := s.host.nextSlot, ring := c.ring.val, idx := (s.ring c.ring.val).head, opcode := op, flags := c.flags, spec := c.spec,
    len := c.len, addr := c.addr, cookie := c.cookie, aux := c.aux, buf := c.buf, resOk := c.resOk, cmplOk := c.cmplOk, phase := .ready }

/-- The state that the effect of such a command sees. -/
def cmdState (s : State) (t op : Nat) (c : Cmd) : State :=
  let d : Desc := { opcode := op, flags := c.flags, spec := c.spec, len := c.len, addr := c.addr, cookie := c.cookie, aux := c.aux }
  let s1 := (s.begin t).newSlot c.ring.val d .ready c.buf c.resOk c.cmplOk
  let s2 := if sliceOpcode op && decide (c.spec < 8) then s1.wakeSlice c.spec else s1
  { s2 with host := { s2.host with current := some s.host.nextSlot } }

/-- A command has been answered: nothing of it is left in progress, its ring has moved on by one entry, and its completion was
written to the entry's place with a status and a result (16 Table 3, R433). -/
def Answered (s : State) (c : Cmd) (status result : Nat) (u : State) : Prop :=
  let r := c.ring.val
  let k := (s.ring r).head
  u.host.slots = [] ∧ (u.ring r).head = (k + 1) % 2 ^ 32 ∧ (u.ring r).tail = (k + 1) % 2 ^ 32 ∧
    .completion r k (s.ringCmpl r + 16 * (k % s.ringSize r)) status result c.cookie (phaseOf (s.ringSize r) k) false ∈ u.outs

/-- A command is answered with a status and a result, and makes everything but the host interface what it is in u. -/
def AnswersWith (i : Instr) (s : State) (c : Cmd) (status result : Nat) (u : State) : Prop :=
  ∃ w, exec i s = .next w ∧ Answered s c status result w ∧ w = { u with host := w.host, outs := w.outs }

/-- What a command makes its effect from: time has moved on, and a command that names a slice has given it work (R27). -/
def cmdBase (s : State) (t op : Nat) (c : Cmd) : State :=
  if sliceOpcode op && decide (c.spec < 8) then (s.begin t).wakeSlice c.spec else s.begin t

/-- A command meets its ring ready, its buffer of n bytes reads as b, and its completion can be written. -/
abbrev Buffered (s : State) (op : Nat) (c : Cmd) (n : Nat) (b : List Byte) : Prop :=
  cmdReady s op c = true ∧ c.cmplOk = true ∧ c.len = n ∧ c.buf = some b

/-- The status of the first check that fails, in the order of its list; OK where none does (R439). -/
def firstBad : List (Bool × Nat) → Nat
  | [] => Status.ok
  | (bad, status) :: l => if bad then status else firstBad l

/-- A command is answered by the first of its checks that fails, and then changes nothing; where none fails it is answered OK, and
makes of everything but the host interface what f makes of it. -/
def Checked (i : Instr) (s : State) (t op : Nat) (c : Cmd) (l : List (Bool × Nat)) (f : State → State) : Prop :=
  AnswersWith i s c (firstBad l) 0 (if firstBad l = Status.ok then f (cmdBase s t op c) else cmdBase s t op c)

/-- A command that passes its checks returns data: to the buffer at AUX, with a result; where that write fails the completion
carries DMA_ERR with RESULT 0 and interrupt source 2 of group 0 is raised (R433). -/
def Returns (i : Instr) (s : State) (t op : Nat) (c : Cmd) (l : List (Bool × Nat)) (result : Nat) (data : List Byte) : Prop :=
  if firstBad l ≠ Status.ok then AnswersWith i s c (firstBad l) 0 (cmdBase s t op c)
  else if c.resOk then ∃ w, exec i s = .next w ∧ Answered s c Status.ok result w ∧ .dma c.aux data ∈ w.outs
    ∧ w = { cmdBase s t op c with host := w.host, outs := w.outs }
  else AnswersWith i s c Status.dmaErr 0 ((cmdBase s t op c).raise 0 2)

/-- The effect of a command stands and its completion comes later: its slot alone is in progress, and everything but the host
interface is what it is in u. -/
def InProgress (i : Instr) (s : State) (op : Nat) (c : Cmd) (u : State) : Prop :=
  ∃ w, exec i s = .next w ∧ w.host.slots = [{ cmdSlot s op c with phase := .effect }] ∧ w = { u with host := w.host, outs := w.outs }

/-- As `Checked`, of a command whose completion comes later. -/
def CheckedLater (i : Instr) (s : State) (t op : Nat) (c : Cmd) (l : List (Bool × Nat)) (f : State → State) : Prop :=
  if firstBad l = Status.ok then InProgress i s op c (f (cmdBase s t op c)) else AnswersWith i s c (firstBad l) 0 (cmdBase s t op c)

/-- One fetched command alone is in progress, and the fast clocks run: its effect stands, and its completion is awaited on its running
ring. -/
abbrev WaitsOn (s : State) (x : Slot) : Prop :=
  s.clocksRun = true ∧ s.host.slots = [x] ∧ x.phase = .effect ∧ x.orphan = false ∧ x.cmplOk = true ∧ x.more = false
    ∧ (s.ring x.ring).state = .running

/-- That command is complete: its completion stands at its entry's place with a status and a result (16 Table 3, R433). -/
def Completed (s : State) (x : Slot) (status result : Nat) (w : State) : Prop :=
  w.host.slots = [] ∧ (w.ring x.ring).tail = (x.idx + 1) % 2 ^ 32 ∧
    .completion x.ring x.idx (s.ringCmpl x.ring + 16 * (x.idx % s.ringSize x.ring)) status result x.cookie
      (phaseOf (s.ringSize x.ring) x.idx) false ∈ w.outs

/-- The Tandem serves the mailbox request of a SEQ, and it is the named operation (R458, R463). -/
abbrev ServesOp (s : State) (op seq : Nat) : Prop :=
  Awake s ∧ s.mgt.mbx.pending = some seq ∧ s.mbxServes = true ∧ s.reqOp = op ∧ (s.mgt.recovery = true → recoveryOps.contains op = true)

/-- A request is answered: the reply goes out, REPLY is set, no request is pending, and source 0 of group 2 is raised; everything but
the mailbox and the interrupts is as in v (R463). -/
def Replied (v w : State) (seq status : Nat) (body : List Byte) : Prop :=
  w.mgt.mbx.pending = none ∧ w.mgt.mbx.reply = true ∧ w.mgt.mbx.request = v.mgt.mbx.request ∧ .reply seq status body ∈ w.outs
    ∧ (v.host.inReset = false → w.flg (Reg.hifInt 2) 0 = true)
    ∧ w = { v with mgt := { v.mgt with mbx := w.mgt.mbx }, host := w.host, regs := w.regs, outs := w.outs }

/-- Completions stand in ring order (R433): a fetched command whose completion is still to be written has an older command of its ring, not
yet done, before it; a command whose ring a reset has taken waits for nothing. -/
def OrderKept (s : State) : Prop := ∀ x st res, s.host.slots.find? (fun y => y.id == x.id) = some x → x.phase = .done st res →
  x.orphan = false ∧ ∃ l1 l2, s.host.slots = l1 ++ x :: l2
    ∧ ∃ y ∈ l1, y.ring = x.ring ∧ y.orphan = false ∧ ∀ st' res', y.phase ≠ .done st' res'

end Sys2Proof.Machine
end

