-- ==== Sys2Proof/Certificates/Slice0/Obligations.lean ====
section
/-! DEFINITION. Certificates/Slice0/Obligations.lean: the statements for the provers: what each row of the table does, the order of
completions, and the device right after reset. The terms they use stand in Safety.lean. -/

open Sys2Proof Sys2Proof.Machine

/-! ## Commands of the rings -/

/-- R433, R435, R439: a NOP on a ring of any type that the host produces on completes with OK and changes nothing but the host interface; it
needs neither the set-up lock nor LIVE. A command whose buffer has length 0 completes with LEN_ZERO, one of another length than its layout's
with LEN_BAD, and one whose buffer read fails with DMA_ERR and interrupt source 1 of group 0; each then changes nothing else. -/
def Obligations.CommandChecks : Prop := ∀ (s : State) (t : Nat) (c : Cmd),
  (cmdReady s Op.nop c = true → c.cmplOk = true → AnswersWith (.nop t c) s c Status.ok 0 (s.begin t))
  ∧ ∀ e ∈ ([
      (.channelMode, Op.channelMode, 4), (.rssiArm, Op.rssiArm, 4), (.allowWrite, Op.allowWrite, 16),
      (.allowErase, Op.allowErase, 8), (.recordForget, Op.recordForget, 8), (.ploamSend, Op.ploamSend, 52),
      (.xgemPortSet, Op.xgemPortSet, 16), (.allocSet, Op.allocSet, 36), (.allocClear, Op.allocClear, 4),
      (.termProfile, Op.termProfile, 4), (.termMoveAbort, Op.termMoveAbort, 16), (.svcSet, Op.svcSet, 8),
      (.svcLearn, Op.svcLearn, 8), (.svcMapUp, Op.svcMapUp, 16), (.svcMatchAdd, Op.svcMatchAdd, 8),
      (.svcMatchDel, Op.svcMatchDel, 8), (.rsetWrite, Op.rsetWrite, 24), (.fwdInsert, Op.fwdInsert, 16),
      (.fwdDelete, Op.fwdDelete, 8), (.fwdSearch, Op.fwdSearch, 8), (.fwdMove, Op.fwdMove, 16), (.fwdNext, Op.fwdNext, 16),
      (.fwdFlush, Op.fwdFlush, 16), (.swQprof, Op.swQprof, 16), (.mcGroupSet, Op.mcGroupSet, 8), (.meterSet, Op.meterSet, 32),
      (.shaperSet, Op.shaperSet, 24), (.schedSet, Op.schedSet, 80), (.cbsSet, Op.cbsSet, 16), (.kekSet, Op.kekSet, 64),
      (.keyWrite, Op.keyWrite, 80), (.keyErase, Op.keyErase, 8), (.keyQuery, Op.keyQuery, 4), (.ponKeySet, Op.ponKeySet, 20),
      (.sealSet, Op.sealSet, 16), (.sealPhase, Op.sealPhase, 4), (.sealEpSet, Op.sealEpSet, 24), (.sealEpDel, Op.sealEpDel, 24),
      (.macsecTxSet, Op.macsecTxSet, 32), (.macsecRxSet, Op.macsecRxSet, 64), (.megSet, Op.megSet, 52), (.mepSet, Op.mepSet, 36),
      (.mepDel, Op.mepDel, 4), (.todQuery, Op.todQuery, 4)] : List ((Nat → Cmd → Instr) × Nat × Nat)),
    let u := cmdBase s t e.2.1 c
    cmdReady s e.2.1 c = true → c.cmplOk = true →
      (c.len = 0 → AnswersWith (e.1 t c) s c Status.lenZero 0 u)
      ∧ (c.len ≠ 0 → c.len ≠ e.2.2 → AnswersWith (e.1 t c) s c Status.lenBad 0 u)
      ∧ (c.len = e.2.2 → c.buf = none → AnswersWith (e.1 t c) s c Status.dmaErr 0 (u.raise 0 1))

/-- R441, R442, R444, R447: the commands of the packet rings. A one-descriptor frame joins the host frames of its ring's slice; a
receive buffer is posted; an OMCI packet goes to the OMCC port of its terminal; a counter page is laid out. -/
def Obligations.PacketRings : Prop := ∀ (s : State) (t : Nat) (c : Cmd) (b : List Byte),
  (Buffered s Op.pktTx c b.length b → 0 < b.length → b.length ≤ 16383 → bit c.flags 3 = false → (s.ring c.ring.val).chain = 0 →
    s.ringOwner c.ring.val = 0 → (bit c.flags 0 = false ∨ c.spec ≤ 271) →
    let sl := s.ringBind c.ring.val % 8
    let dest := bit c.flags 0
    let r : FrameRec :=
      { len := b.length, inPort := hostPort, svc := if dest then none else some c.spec, tc := bits c.aux 18 16,
        meta_ := bits c.aux 15 0, tsReq := bit c.flags 1, oneStep := bit c.flags 2, cookie := c.cookie }
    InProgress (.pktTx t c) s Op.pktTx c (((s.begin t).updSlice sl (fun q =>
      { q with hostQ := q.hostQ ++ [([s.host.nextSlot], { rec_ := r, data := b }, if dest then some c.spec else none)] })).wakeSlice sl))
  ∧ (cmdReady s Op.rxBuf c = true → c.cmplOk = true →
    CheckedLater (.rxBuf t c) s t Op.rxBuf c [(c.len == 0, Status.lenZero), (decide (c.len < 128), Status.lenBad)] (fun u => u))
  ∧ (∀ p, Buffered s Op.omciTx c b.length b → 0 < b.length → b.length ≤ 16383 → bit c.flags 3 = false →
    (s.ring c.ring.val).chain = 0 → c.spec ≤ 255 → (s.term (s.ringBind c.ring.val) c.spec).state = .operation →
    s.omccOf (s.ringBind c.ring.val) c.spec = some p →
    ∃ w, exec (.omciTx t c) s = .next w ∧ Answered s c Status.ok b.length w)
  ∧ (cmdReady s Op.cntPage c = true → c.cmplOk = true → s.ringOwner c.ring.val = 0 →
    Checked (.cntPage t c) s t Op.cntPage c [(c.len == 0, Status.lenZero), (c.len != 4096, Status.lenBad),
        (decide (c.spec > 17), Status.opcodeBad), (decide (c.aux ≥ (ctrKind c.spec).objects), Status.destBad)] (fun u =>
      { u with cnt := { u.cnt with pages := u.cnt.pages ++ [{
          slot := s.host.nextSlot, ring := c.ring.val, idx := (s.ring c.ring.val).head,
          cookie := c.cookie, addr := c.addr, kind := c.spec, first := c.aux, objects := pageObjects c.spec c.aux none }] } }))

/-- R43, R69, R377: the commands of a channel and its optics. CHANNEL_MODE writes MODE and US_RATE of a channel that is not
enabled and not in use; RSSI_ARM arms the measurement; MOD_ACCESS sends a read, or a write with its bytes, out on the module's chain. -/
def Obligations.ChannelCommands : Prop := ∀ (s : State) (t : Nat) (c : Cmd) (b : List Byte),
  (Buffered s Op.channelMode c 4 b → s.drl.moves = [] →
    let mode := bits (byteAt b 0) 1 0
    let rate := bits (byteAt b 1) 2 0
    Checked (.channelMode t c) s t Op.channelMode c [(decide (c.spec > 191), Status.chRange), (!modeOk mode rate, Status.modeBad),
        (s.flg Reg.pchCtrl 0 c.spec || (s.ch c.spec).used, Status.chBusy)]
      (fun u => u.setReg Reg.pchCfg (BitVec.ofNat 32 (rate * 16 + mode)) c.spec))
  ∧ (Buffered s Op.rssiArm c 4 b →
    let id := leAt b 0 2
    let dark := bufBit b 2 0
    CheckedLater (.rssiArm t c) s t Op.rssiArm c [(decide (c.spec > 191), Status.chRange),
        (s.fld Reg.pchRssi 31 16 c.spec == 0, Status.rssiOff), ((s.ch c.spec).rssi.isSome, Status.rssiBusy),
        (!dark && !(s.termsOf c.spec).any (fun e => e.2.state == .operation && e.2.onuId == id), Status.notOperating)]
      (fun u => u.updCh c.spec (fun p => { p with rssi := some { slot := s.host.nextSlot, dark := dark, onuId := id, at_ := (s.begin t).time.now } })))
  ∧ (let write := byteAt b 0 == 1
    Buffered s Op.modAccess c (if write then 4 + byteAt b 3 else 4) b → byteAt b 3 ≠ 0 → c.spec ≤ 191 →
    InProgress (.modAccess t c) s Op.modAccess c ((s.begin t).updCh c.spec (fun p => { p with modAt := (s.begin t).time.now }))
    ∧ Gives (.modAccess t c) s (fun u => .modAccess c.spec write (byteAt b 1) (byteAt b 2) (byteAt b 3) (if write then b.drop 4 else []) ∈ u.outs))

/-- R108, R109, R128: the allow-list commands. An entry takes the way that holds its serial number, else the lowest free way of its
set; ALLOW_ERASE clears it and the terminal record beside it; RECORD_FORGET clears the record and suppresses it. Writing or
erasing an entry leaves every terminal as it was; a terminal goes by TERM_DEACTIVATE or TERM_DISABLE. -/
def Obligations.AllowCommands : Prop := ∀ (s : State) (t : Nat) (c : Cmd) (b : List Byte),
  (Buffered s Op.allowWrite c 16 b →
    let e := allowOfBuf b
    let way := (s.allowFind e.sn).orElse (fun _ => (allowWays e.sn).find? (fun k => !(s.allowOf k).valid))
    Checked (.allowWrite t c) s t Op.allowWrite c [(!e.valid || decide (e.tree > 47) || decide (e.pinId.getD 0 > 1022), Status.allowBad),
        (way.isNone, Status.allowFull)]
      (fun u => u.ctxWrite (fun x => { x with allow := x.allow.set (fun _ => {}) (way.getD 0) e })))
  ∧ (Buffered s Op.allowErase c 8 b →
    let way := s.allowFind (beAt b 0 8)
    Checked (.allowErase t c) s t Op.allowErase c [(way.isNone, Status.allowNone)] (fun u =>
      (u.ctxWrite (fun x => { x with allow := x.allow.upd (fun _ => {}) (way.getD 0) (fun e => { e with valid := false }) })).recordClear (way.getD 0)))
  ∧ (Buffered s Op.recordForget c 8 b →
    let sn := beAt b 0 8
    let way := s.allowFind sn
    Checked (.recordForget t c) s t Op.recordForget c [(way.isNone, Status.allowNone)] (fun u =>
      ({ u with forgotten := u.forgotten.filter (· != sn) ++ [sn] } : State).recordClear (way.getD 0)))
  ∧ (cmdReady s Op.allowWrite c = true → Gives (.allowWrite t c) s (fun w => w.terms = s.terms ∧ w.chans = s.chans))
  ∧ (cmdReady s Op.allowErase c = true → Gives (.allowErase t c) s (fun w => w.terms = s.terms ∧ w.chans = s.chans))

/-- R127, R132, R153, R438: the commands that name a terminal context or an XGEM port context. A deactivated terminal becomes LOST; a
disabled one DISABLED; enabling takes it from DISABLED to LOST; releasing makes a LOST or DISABLED context FREE; in any other state, or on a
channel above 191, the command is rejected and changes nothing. The other terminals keep their state. -/
def Obligations.TerminalCommands : Prop := ∀ (s : State) (t : Nat) (c : Cmd) (b : List Byte),
  let i := byteAt b 0
  let ends (op : Nat) (x : Instr) (ok : TermState → Bool) (bad : Nat) (st : TermState) : Prop :=
    Buffered s op c 4 b →
      (c.spec > 191 → AnswersWith x s c Status.chRange 0 (s.begin t))
      ∧ (c.spec ≤ 191 → ok (s.term c.spec i).state = false → AnswersWith x s c bad 0 (s.begin t))
      ∧ (c.spec ≤ 191 → ok (s.term c.spec i).state = true → (∀ m ∈ s.drl.moves, m.src ≠ c.spec ∨ m.i ≠ i) →
        ∃ w, exec x s = .next w ∧ Answered s c Status.ok 0 w ∧ (w.term c.spec i).state = st
          ∧ ∀ d j, d ≠ c.spec ∨ j ≠ i → d ≤ 191 → j ≤ 255 → (w.term d j).state = (s.term d j).state)
  ends Op.termDeactivate (.termDeactivate t c) (· == .operation) Status.ctxState .lost
  ∧ ends Op.termDisable (.termDisable t c) (fun x => x != .free && x != .disabled) Status.ctxState .disabled
  ∧ ends Op.termEnableSn (.termEnableSn t c) (· == .disabled) Status.ctxState .lost
  ∧ ends Op.termRelease (.termRelease t c) (fun x => x == .lost || x == .disabled) Status.ctxActive .free
  ∧ (Buffered s Op.ploamSend c 52 b →
    let bcast := bufBit b 1 0
    let y := s.term c.spec i
    Checked (.ploamSend t c) s t Op.ploamSend c [(decide (c.spec > 191), Status.chRange),
        (!bcast && y.state != .operation, Status.notOperating)] (fun u => u.updCh c.spec (fun p => { p with ploamHost := p.ploamHost ++
          [{ ctx := if bcast then none else some i, onuId := if bcast then Config.broadcastOnuId (s.mode c.spec) else y.onuId,
             sn := if bcast then 0 else y.sn, body := .host (cut b 4 48) }] })))
  ∧ (Buffered s Op.xgemPortSet c 16 b →
    let n := leAt b 0 4
    let p : XgemPort :=
      { valid := bufBit b 7 0, portId := leAt b 4 2, term := byteAt b 6, enc := bufBit b 7 1, omcc := bufBit b 7 2 }
    let dup := s.ctx.xgem.any (fun e => e.2.valid && e.1 != n && e.1 / 4096 == n / 4096
      && (e.2.portId == p.portId || (p.omcc && e.2.omcc && e.2.term == p.term)))
    Checked (.xgemPortSet t c) s t Op.xgemPortSet c [(decide (n > 786431), Status.portRange), (p.valid && dup, Status.portidDup),
        (p.valid && (s.term (n / 4096) p.term).state == .free, Status.ctxState)]
      (fun u => u.ctxWrite (fun x => { x with xgem := x.xgem.set (fun _ => {}) n (if p.valid then p else {}) })))

/-- R149 to R153, R169: the commands of a grant engine. While a snapshot instant with room is served, ALLOC_SET is checked in the order of
R150, writes the record and starts its credits, or caps those of the same Alloc-ID; ALLOC_CLEAR empties the context and TERM_PROFILE stores
the choice; at any other time they wait. A command that is rejected has used its place (the model's choice: log entry 74). Cooperative
entries are taken at once. -/
def Obligations.GrantCommands : Prop := ∀ (s : State) (t : Nat) (c : Cmd) (b : List Byte),
  let waits (x : Instr) (op : Nat) : Prop := (s.gntCh c.spec).room = 0 →
    ∃ w, exec x s = .next w ∧ w.host.slots = [cmdSlot s op c] ∧ w = { s.begin t with host := w.host }
  let took (u : State) : State := u.updGnt c.spec (fun g => { g with room := g.room - 1 })
  let j := leAt b 0 2
  (Buffered s Op.allocSet c 36 b → c.spec ≤ 191 → j ≤ 1023 → waits (.allocSet t c) Op.allocSet ∧
    (0 < (s.gntCh c.spec).room →
      let r := slaOfBuf (b.drop 4)
      let old := s.slaOf c.spec j
      let d := s.alloc c.spec j
      let sums := s.sumStatus c.spec ((s.slasOf c.spec).filter (fun e => e.1 != j) ++ [(j, r)])
      let st := firstBad [(r.bad (s.mode c.spec) (s.usFrameBytes c.spec), Status.slaBad), (s.allocDup c.spec j r.term r.allocId, Status.allocDup),
        (sums.isSome, sums.getD 0)]
      AnswersWith (.allocSet t c) s c st 0 (if st = Status.ok then
        ((took (s.begin t)).ctxWrite (fun x => { x with sla := x.sla.set (fun _ => {}) (1024 * c.spec + j) r })).setAlloc c.spec j
          (if old.valid = true ∧ old.allocId = r.allocId then
            { d with ca := min d.ca ((r.ra * (1 + r.acc) : Nat) : Int), cn := min d.cn ((r.rna * (1 + r.acc) : Nat) : Int) }
           else { ca := r.ra, cn := r.rna })
        else took (s.begin t))))
  ∧ (Buffered s Op.allocClear c 4 b → c.spec ≤ 191 → j ≤ 1023 → waits (.allocClear t c) Op.allocClear ∧
    (0 < (s.gntCh c.spec).room →
      AnswersWith (.allocClear t c) s c Status.ok 0 (((took (s.begin t)).ctxWrite (fun x =>
        { x with sla := x.sla.set (fun _ => {}) (1024 * c.spec + j) {} })).setAlloc c.spec j {})))
  ∧ (Buffered s Op.termProfile c 4 b → c.spec ≤ 191 → waits (.termProfile t c) Op.termProfile ∧
    (0 < (s.gntCh c.spec).room → (s.term c.spec (byteAt b 0)).state ≠ .free → s.bpValid c.spec (byteAt b 1 % 4) = true →
      AnswersWith (.termProfile t c) s c Status.ok 0
        ((took (s.begin t)).updTerm c.spec (byteAt b 0) (fun y => { y with profile := some (byteAt b 1 % 4) }))))
  ∧ (Buffered s Op.coopAnnounce c 16 b → c.spec ≤ 191 →
    let e := coopOfBuf b
    let sla := s.slaOf c.spec e.ctx
    sla.valid = true → sla.coop = true → sla.coopMax ≠ 0 → s.fld Reg.gntCfg 15 8 c.spec ≠ 0 → e.target = false → e.bytes ≠ 0 →
    (s.gntCh c.spec).coop.length < 256 →
    AnswersWith (.coopAnnounce t c) s c Status.ok 1 ((s.begin t).updGnt c.spec (fun g => { g with coop := g.coop ++ [e] })))

/-- R202, R203: TERM_MOVE starts a move of a terminal in OPERATION to an enabled channel of its tree and raises its first offer;
TERM_MOVE_ABORT ends the move of a terminal that has not reached the arrival point, nor reaches it in this core cycle. -/
def Obligations.MoveCommands : Prop := ∀ (s : State) (t : Nat) (c : Cmd) (b : List Byte),
  (Buffered s Op.termMove c 16 b →
    let i := byteAt b 0
    let y := s.term c.spec i
    let tgt := 4 * (c.spec / 4) + byteAt b 1 % 4
    let pin := if bufBit b 1 2 then some (byteAt b 2) else none
    let m : Move := { src := c.spec, i := i, tgt := tgt, pin := pin, txn := (y.txn + 1) % 65536 }
    s.flg Reg.drlCfg 0 = true → s.fld Reg.drlCfg 31 24 ≠ 0 → s.fld Reg.drlCfg 23 16 ≠ 0 → s.fld Reg.drlCfg 13 8 ≠ 0 →
    y.state = .operation → y.losi = false → (s.omccOf c.spec i).isSome = true → s.drl.moves = [] → tgt ≠ c.spec →
    s.flg Reg.pchCtrl 0 tgt = true → (s.allocsOf c.spec i).length ≤ 32 → (s.portsOf c.spec i).length ≤ 256 →
    s.onuFree tgt y.onuId = true → (s.moveIndex m).isSome = true →
    reachU (s.fld Reg.actReach 9 0 tgt) + 34 * usU ≤ driftU (toDrift teqdU - y.eqd) →
    driftU (toDrift teqdU - y.eqd) ≤ reachU (s.fld Reg.actReach 9 0 tgt + s.fld Reg.actReach 25 16 tgt) + 36 * usU →
    ∃ w, exec (.termMove t c) s = .next w ∧ Answered s c Status.ok 0 w ∧ w.drl.moves = [m]
      ∧ (w.term c.spec i).txn = (y.txn + 1) % 65536)
  ∧ (∀ m, Buffered s Op.termMoveAbort c 16 b → s.drl.moves = [m] → m.src = c.spec → m.i = byteAt b 0 →
    let late := m.arrived || (s.begin t).arrivesNow m
    (late = true → AnswersWith (.termMoveAbort t c) s c Status.moveLate 0 (s.begin t))
    ∧ (late = false →
      ∃ w, exec (.termMoveAbort t c) s = .next w ∧ Answered s c Status.ok 0 w ∧ w.drl.moves = []))

/-- R212, R213, R215, R229, R244, R439: the commands of services: a section of the service context, an upstream map entry, and a
downstream match entry, which takes the way that holds its key, else the lowest free way. -/
def Obligations.ServiceCommands : Prop := ∀ (s : State) (t : Nat) (c : Cmd) (b : List Byte),
  let svc (f : SvcCtx → SvcCtx) (u : State) : State := u.ctxWrite (fun x => { x with services := x.services.upd (fun _ => {}) c.spec f })
  (Buffered s Op.svcSet c 8 b → Checked (.svcSet t c) s t Op.svcSet c [] (svc (fun v =>
    { v with valid := bufBit b 0 0, defTc := bits (byteAt b 0) 3 1, ruleSet := bits (byteAt b 1) 5 0, fid := leAt b 2 2, meta_ := leAt b 4 2 })))
  ∧ (Buffered s Op.svcLearn c 8 b → Checked (.svcLearn t c) s t Op.svcLearn c [] (svc (fun v =>
    { v with lValid := bufBit b 0 0, mode := bits (byteAt b 0) 2 1, excess := bufBit b 0 3, unkDa := bits (byteAt b 0) 5 4,
             floodEn := bufBit b 0 6, limit := leAt b 2 2, floodGrp := leAt b 4 2 })))
  ∧ (Buffered s Op.svcMapUp c 16 b →
    let n := leAt b 0 4
    Checked (.svcMapUp t c) s t Op.svcMapUp c [(decide (n > 786431) || n / 4096 / 24 != c.spec, Status.portRange)] (fun u =>
      u.ctxWrite (fun x => { x with mapUp := x.mapUp.set (fun _ => {}) n {
        svc := leAt b 4 2, valid := bufBit b 6 0, pin := bits (byteAt b 6) 2 1, opaque_ := bufBit b 6 3, pinVal := leAt b 8 4 } })))
  ∧ (Buffered s Op.svcMatchAdd c 8 b →
    let m := matchOf b
    let place := (s.matchFind c.spec m.k m.mode m.ovid m.ivid).orElse (fun _ =>
      (matchWays c.spec m.k m.mode m.ovid m.ivid).find? (fun w => !(s.matchAt w).valid))
    Checked (.svcMatchAdd t c) s t Op.svcMatchAdd c [(place.isNone, Status.svcFull), (s.portNotOwned c.spec m.k, Status.svcPort)]
      (fun u => u.ctxWrite (fun x => { x with matches_ := x.matches_.set (fun _ => {}) (place.getD 0) m })))
  ∧ (Buffered s Op.svcMatchDel c 8 b →
    let m := matchOf b
    let place := s.matchFind c.spec m.k m.mode m.ovid m.ivid
    Checked (.svcMatchDel t c) s t Op.svcMatchDel c [(s.portNotOwned c.spec m.k, Status.svcPort), (place.isNone, Status.matchNone)]
      (fun u => u.ctxWrite (fun x => { x with matches_ := x.matches_.set (fun _ => {}) (place.getD 0) {} })))

/-- R224, R228: the commands of rules: one rule of 144 bytes, a rule set descriptor, and one entry of an indirection table. -/
def Obligations.RuleCommands : Prop := ∀ (s : State) (t : Nat) (c : Cmd) (b : List Byte),
  (∀ n, Buffered s Op.ruleWrite c (144 * n) b → 0 < n → n ≤ 64 →
    let l := (List.range n).map (ruleOf b)
    Checked (.ruleWrite t c) s t Op.ruleWrite c [(decide (c.spec > 7) || l.any (fun e => decide (24575 < e.1)), Status.ruleRange)] (fun u =>
      l.foldl (fun (u : State) (e : Nat × Rule) =>
        u.ctxWrite (fun x => { x with rules := x.rules.set (fun _ => {}) (24576 * c.spec + e.1) e.2 })) u))
  ∧ (Buffered s Op.rsetWrite c 24 b →
    let d : RuleSet := { ktype := bits (byteAt b 1) 1 0, base := leAt b 2 2, size := leAt b 4 2, miss := leAt b 8 16 }
    Checked (.rsetWrite t c) s t Op.rsetWrite c
      [(d.ktype == 3 || decide (d.base + d.size > 24576) || decide (byteAt b 0 > 63) || decide (c.spec > 7), Status.rsetBad)]
      (fun u => u.ctxWrite (fun x => { x with ruleSets := x.ruleSets.set (fun _ => {}) (64 * c.spec + byteAt b 0) d })))
  ∧ (∀ n, Buffered s Op.indirWrite c (4 + 2 * n) b → 0 < n →
    let first := leAt b 2 2
    Checked (.indirWrite t c) s t Op.indirWrite c
      [(decide (first + n > 512) || decide (byteAt b 0 > 63) || decide (c.spec > 7), Status.indirRange)]
      (fun u => (List.range n).foldl (fun (u : State) (i : Nat) => u.ctxWrite (fun x =>
        { x with indir := x.indir.set (fun _ => 0) (512 * (64 * c.spec + byteAt b 0) + first + i) (leAt b (4 + 2 * i) 2) })) u))

/-- R240, R251 to R254: the commands of the forwarding table. An insertion over a present key replaces its line; FWD_DELETE clears
VALID; FWD_SEARCH returns the line and its LOCATION; FWD_MOVE takes an entry to a free row of the bank it names; FWD_NEXT of no
entries is OK; FWD_FLUSH removes the matching entries and walks on until FLUSH_WALK_DONE completes it. -/
def Obligations.TableCommands : Prop := ∀ (s : State) (t : Nat) (c : Cmd) (b : List Byte),
  (∀ l, let e := { FwdEntry.ofBytes b with learned := false }
    Buffered s Op.fwdInsert c 16 b → s.fwdFind e.fid e.mac = some l →
    Checked (.fwdInsert t c) s t Op.fwdInsert c [(s.fwdRows == 0, Status.tblOff), (!e.valid || !e.destOk, Status.fwdBad)] (·.fwdWrite l e))
  ∧ (Buffered s Op.fwdDelete c 8 b →
    Checked (.fwdDelete t c) s t Op.fwdDelete c [((s.fwdNamed b).isNone, Status.fwdNone)] (·.fwdClear ((s.fwdNamed b).getD 0)))
  ∧ (Buffered s Op.fwdSearch c 8 b →
    let l := (s.fwdNamed b).getD 0
    Returns (.fwdSearch t c) s t Op.fwdSearch c [((s.fwdNamed b).isNone, Status.fwdNone)] 20 ((s.fwdRow l).bytes ++ toLe 4 l))
  ∧ (∀ l, Buffered s Op.fwdMove c 16 b → s.fwdNamed b = some l →
    let to_ := s.fwdLoc (leAt b 6 2) (beAt b 0 6) (byteAt b 8 % 4)
    to_ ≠ l → Checked (.fwdMove t c) s t Op.fwdMove c [((s.fwdRow to_).valid, Status.fwdOccupied)] (·.fwdMoveOne l to_))
  ∧ (Buffered s Op.fwdNext c 16 b → leAt b 4 2 ≠ 0 →
    let l := (s.fwdValid.filter (fun e => decide (leAt b 0 4 ≤ e.1) && (!bufBit b 8 0 || e.2.fid == leAt b 6 2))).take (leAt b 4 2)
    let next := if l.length < leAt b 4 2 then 0xFFFFFFFF else (l.getLast?.map (fun e => e.1 + 1)).getD 0xFFFFFFFF
    Returns (.fwdNext t c) s t Op.fwdNext c [] l.length (l.flatMap (fun e => e.2.bytes ++ toLe 4 e.1) ++ toLe 4 next ++ toLe 4 s.fwd.reloc))
  ∧ (Buffered s Op.fwdFlush c 16 b → leAt b 8 4 ≠ 0 → s.fwd.flushes = [] →
    let f := flushSelOf b
    let hits := s.fwdValid.filter (fun e => decide (leAt b 12 4 ≤ e.1) && s.flushHits f e.2)
    CheckedLater (.fwdFlush t c) s t Op.fwdFlush c [(decide (f.kind > 4), Status.flushBad)] (fun u =>
      let u1 := u.fwdRemove ((hits.take (leAt b 8 4)).map (·.1)) .devFlushRemovals
      { u1 with fwd := { u1.fwd with flushes := u1.fwd.flushes ++ [{
          slot := s.host.nextSlot, sel := f, removed := min (leAt b 8 4) hits.length, count := leAt b 8 4,
          more := ((hits.drop (leAt b 8 4)).head?).map (·.1) }] } }))

/-- R269, R276, R298: queue profiles, multicast groups and one multicast member. -/
def Obligations.SwitchCommands : Prop := ∀ (s : State) (t : Nat) (c : Cmd) (b : List Byte),
  (Buffered s Op.swQprof c 16 b →
    let qs := (List.range (leAt b 8 4)).map (fun i => s.profQueue (byteAt b 0) (leAt b 4 4 + i) c.spec)
    Checked (.swQprof t c) s t Op.swQprof c [(decide (leAt b 8 4 > 393216) || qs.any Option.isNone, Status.queueRange)]
      (fun u => qs.foldl (fun (u : State) (q : Option Nat) => u.setQueue (q.getD 0) { u.queue (q.getD 0) with profile := byteAt b 12 % 16 }) u))
  ∧ (Buffered s Op.mcGroupSet c 8 b →
    let g := leAt b 0 2
    let base := leAt b 2 3
    let count := leAt b 5 2
    Checked (.mcGroupSet t c) s t Op.mcGroupSet c
      [(decide (base + count > 131072) || decide (g > 16383) || decide (count > 4096), Status.mcRange)]
      (fun u => u.ctxWrite (fun x => { x with groups := x.groups.set (fun _ => {}) g {
        base := base, count := count, valid := bufBit b 7 0, slices := s.runSlices base count } })))
  ∧ (∀ n, Buffered s Op.mcMemberWrite c (4 + 8 * n) b → 0 < n →
    Checked (.mcMemberWrite t c) s t Op.mcMemberWrite c [(decide (leAt b 0 4 + n > 131072), Status.mcRange)]
      (fun u => (List.range n).foldl (fun (u : State) (i : Nat) => u.ctxWrite (fun x =>
        { x with members := x.members.set (fun _ => {}) (leAt b 0 4 + i) (memberOf b i) })) u))

/-- R280, R286, R293, R296, R298: the commands of the traffic manager. Buckets begin full, or a shaper's empty where it says so; a
gate list waits for its change point; a credit-based shaper starts with no credit. WEIGHT of a queue's shaper is its weight as SCHED_SET
writes it. A pick of the same core cycle still sees what these commands replace. -/
def Obligations.TrafficCommands : Prop := ∀ (s : State) (t : Nat) (c : Cmd) (b : List Byte),
  (Buffered s Op.meterSet c 32 b →
    let m := leAt b 24 4
    let r : Meter :=
      { valid := bufBit b 0 0, mode := bufBit b 0 1, cf := bufBit b 0 2, yact := bits (byteAt b 0) 4 3, ract := bufBit b 0 5,
        adj := signed 8 (byteAt b 1), cir := leAt b 4 4, cbs := leAt b 8 4, eir := leAt b 12 4, ebs := leAt b 16 4, ylim := leAt b 20 4 }
    Checked (.meterSet t c) s t Op.meterSet c [(m % 32768 == 0 || decide (m / 32768 ≠ c.spec) || decide (c.spec > 7), Status.meterRange),
        (r.mode && (decide (r.eir < r.cir) || decide (r.ebs < r.cbs)), Status.meterBad)] (fun u =>
      let u1 := u.ctxWrite (fun x => { x with meters := x.meters.set (fun _ => {}) m r })
      { u1 with tm := { u1.tm with meters := u1.tm.meters.set (fun _ => {}) m {
          tc := r.cbs * 65536, te := r.ebs * 65536, last := u.cycle } } }))
  ∧ (Buffered s Op.shaperSet c 24 b →
    let kind := bits (byteAt b 0) 2 0
    let k := shaperKey kind (leAt b 4 4)
    Checked (.shaperSet t c) s t Op.shaperSet c [(s.shaperSlice kind (leAt b 4 4) != some c.spec, Status.shaperRange)] (fun u =>
      let q := leAt b 4 4
      let v := ((u.keepOld [k] (if kind = 5 then [q] else []) [] []).ctxWrite (fun x => { x with shapers := x.shapers.set (fun _ => {}) k {
        en := bufBit b 0 3, weight := byteAt b 1, rate := leAt b 8 4, burst := leAt b 12 4, rate2 := leAt b 16 4, burst2 := leAt b 20 4 } })).setShaperDyn
        k (if bufBit b 0 4 then { last := u.cycle }
           else { tok := (leAt b 12 4 * 65536 : Nat), tok2 := (leAt b 20 4 * 65536 : Nat), last := u.cycle })
      if kind = 5 then { v with tm := { v.tm with sched := v.tm.sched.set schedDefault q { v.sched q with weight := byteAt b 1 } } } else v))
  ∧ (Buffered s Op.schedSet c 80 b →
    let target := byteAt b 1
    let port := byteAt b 0 == 0
    let bad := decide (byteAt b 0 > 1) || (port && (List.range 8).any (fun i => decide (byteAt b (8 + i) > 31)))
      || !(if port then decide (target < 64) && s.portSlice target == c.spec else decide (target < 192) && target / 24 == c.spec)
    Gives (.schedSet t c) s (fun u => Answered s c (firstBad [(bad, Status.schedBad)]) 0 u
      ∧ (bad = false → ∀ i, i < (if port then 32 else 8) → u.sched ((if port then 32 * target else 4096 + 8 * target) + i)
          = { level := bits (byteAt b (16 + 2 * i)) 2 0, weight := byteAt b (17 + 2 * i) })))
  ∧ (Buffered s Op.cbsSet c 16 b →
    let q := leAt b 0 4
    let i := leAt b 8 4
    Checked (.cbsSet t c) s t Op.cbsSet c
      [(decide (q ≥ 2048) || s.portSlice (q / 32) != c.spec || decide (i ≥ s.macRate (q / 32) * 1000), Status.cbsBad)] (fun u =>
      (u.keepOld [] [] [] [q]).setCbs q { en := bufBit b 4 0, i := i, hi := leAt b 12 2, lo := leAt b 14 2, credit := 0, last := u.cycle }))
  ∧ (∀ n, Buffered s Op.gclSet c n b → 32 ≤ n →
    let port := byteAt b 0 == 0
    let target := if port then byteAt b 1 else 64 + byteAt b 1
    let count := leAt b 2 2
    let cycle := leAt b 20 4
    let own := if port then decide (byteAt b 1 < 64) && s.portSlice (byteAt b 1) == c.spec
      else byteAt b 0 == 1 && decide (byteAt b 1 < 192) && byteAt b 1 / 24 == c.spec
    Checked (.gclSet t c) s t Op.gclSet c [(!own || n != 32 + 8 * count || decide (count > 256) || cycle == 0
        || decide (cycle > 1000000000) || decide (leAt b 16 4 ≥ 1000000000), Status.gclBad)] (fun u =>
      u.setGates target { s.gatesOf target with
        pending := some ({
          base := leAt b 8 8 * 1000000000 + leAt b 16 4, cycle := cycle,
          entries := (List.range count).map (fun e => (leAt b (32 + 8 * e) 4, leAt b (36 + 8 * e) 4)) },
          u.time.now256) }))

/-- R307 to R314: the commands of the key store. KEK_SET stores the KEK and its lock; a clear key becomes the slot's next generation,
LAST_PN 0; KEY_ERASE empties the slot; KEY_QUERY returns TYPE, USE, GEN, the retired flag and LAST_PN, and no key. -/
def Obligations.KeyCommands : Prop := ∀ (s : State) (t : Nat) (c : Cmd) (b : List Byte),
  let k := leAt b 0 4
  let x := s.keySlot k
  (Buffered s Op.kekSet c 64 b → Checked (.kekSet t c) s t Op.kekSet c [(s.cph.kekLock, Status.kekLocked)] (fun u =>
    { u with cph := { u.cph with kek := some (cut b 16 32), kekLock := bufBit b 0 0 } }))
  ∧ (Buffered s Op.keyWrite c 80 b → bufBit b 4 3 = false → x.retired = none → s.cph.reqs = [] →
    let type := byteAt b 4 % 8
    let n := byteAt b 5
    Checked (.keyWrite t c) s t Op.keyWrite c [(decide (k > 131071), Status.keyRange), (type == 0 || decide (type > 5), Status.keyBad),
        (n == 0, Status.keyZero), (n != (if type ≤ 2 then 16 else 32), Status.keyLen), (s.flg Reg.cphCfg 8, Status.keyClear),
        (decide (3 ≤ type) && s.ctx.slotShared k, Status.keyShared)] (fun u =>
      { u with cph := { u.cph with order := u.cph.order + 1, keys := u.cph.keys.set (fun _ => {}) k { cur := {
          type := type, key := cut b 16 n, salt := cut b 48 12, ssci := leAt b 60 4, gen := (x.cur.gen + 1) % 65536, lastPn := 0,
          written := u.cph.order + 1 } } } }))
  ∧ (Buffered s Op.keyErase c 8 b → x.retired = none → s.cph.reqs = [] →
    Checked (.keyErase t c) s t Op.keyErase c [(decide (k > 131071), Status.keyRange)] (fun u =>
      { u with cph := { u.cph with order := u.cph.order + 1, keys := u.cph.keys.set (fun _ => {}) k {
          cur := { gen := (x.cur.gen + 1) % 65536, written := u.cph.order + 1 } } } }))
  ∧ (Buffered s Op.keyQuery c 4 b →
    Returns (.keyQuery t c) s t Op.keyQuery c [(decide (k > 131071), Status.keyRange)] 16 (toLe 1 x.cur.type ++ toLe 1 (s.keyUse k)
      ++ toLe 2 x.cur.gen ++ toLe 1 (b2n x.retired.isSome) ++ toLe 3 0 ++ toLe 8 x.cur.lastPn))

/-- R307, R315, R317, R324, R329 (11 Tables 5, 6 and 9): the commands that name key slots. -/
def Obligations.SealCommands : Prop := ∀ (s : State) (t : Nat) (c : Cmd) (b : List Byte),
  (Buffered s Op.ponKeySet c 20 b → leAt b 0 4 < (if bufBit b 4 0 then 192 else 49152) →
    let n := leAt b 0 4
    let bcast := bufBit b 4 0
    let k1 := slotField b 8
    let k2 := slotField b 12
    let kp := if bcast then none else slotField b 16
    Checked (.ponKeySet t c) s t Op.ponKeySet c [([k1, k2, kp].any (fun k => decide (k.getD 0 > 131071)), Status.keyRange),
        (s.slotBad 1 k1 || s.slotBad 1 k2 || s.slotBad 2 kp, Status.keyType)] (fun u =>
      if bcast then u.updCh n (fun p => { p with bcast1 := k1, bcast2 := k2, bcastTx := byteAt b 5 })
      else u.updTerm (n / 256) (n % 256) (fun y => { y with key1 := k1, key2 := k2, plKey := kp, txIndex := byteAt b 5 })))
  ∧ (Buffered s Op.sealSet c 16 b →
    let n : SealSec := { valid := bufBit b 0 0, txPhase := b2n (bufBit b 0 1), stag := leAt b 2 2 % 32768, slot0 := leAt b 4 4, slot1 := leAt b 8 4 }
    let f (x : CtxTables) : CtxTables := { x with services := x.services.upd (fun _ => {}) c.spec (fun y => { y with sec := n }) }
    Checked (.sealSet t c) s t Op.sealSet c [(decide (n.slot0 > 131071) || decide (n.slot1 > 131071), Status.sealBad),
        (n.valid && s.sharedAfter f [n.slot0, n.slot1], Status.keyShared),
        (!n.valid && (s.service c.spec).sec.valid && (s.carriers c.spec || s.ctx.endpoints.any (fun e => e.2.valid && e.2.svc == c.spec)),
          Status.sealInUse)] (·.ctxWrite f))
  ∧ (Buffered s Op.sealPhase c 4 b →
    let sec := (s.service c.spec).sec
    let phase := byteAt b 0 % 2
    Checked (.sealPhase t c) s t Op.sealPhase c
      [((s.keySlot (if phase = 0 then sec.slot0 else sec.slot1)).cur.type != 3, Status.keyEmpty)] (fun u =>
      u.ctxWrite (fun x => { x with services := x.services.upd (fun _ => {}) c.spec (fun y => { y with sec := { y.sec with txPhase := phase } }) })))
  ∧ (∀ k, Buffered s Op.sealEpSet c 24 b → s.epFind (leAt b 0 2) (leAt b 2 2) = none →
    (epWays (leAt b 0 2) (leAt b 2 2)).find? (fun k => !(s.ep k).valid) = some k →
    let rx0 := leAt b 8 4 % 2 ^ 17
    let rx1 := leAt b 12 4 % 2 ^ 17
    let e : SealEp :=
      { valid := bufBit b 4 0, binding := leAt b 0 2, svc := leAt b 2 2, act := b2n (bufBit b 4 1), dsPort := leAt b 6 2, rx0 := rx0, rx1 := rx1,
        replay := leAt b 16 2, overlap := leAt b 18 2, g0 := (s.keySlot rx0).cur.gen, g1 := (s.keySlot rx1).cur.gen }
    let f (x : CtxTables) : CtxTables := { x with endpoints := x.endpoints.set (fun _ => {}) k e }
    Checked (.sealEpSet t c) s t Op.sealEpSet c [(e.valid && s.sharedAfter f [rx0, rx1], Status.keyShared)] (·.ctxWrite f))
  ∧ (Buffered s Op.sealEpDel c 24 b →
    let k := s.epFind (leAt b 0 2) (leAt b 2 2)
    Checked (.sealEpDel t c) s t Op.sealEpDel c [(k.isNone, Status.epNone)]
      (fun u => u.ctxWrite (fun x => { x with endpoints := x.endpoints.set (fun _ => {}) (k.getD 0) {} })))

/-- 11 Table 9, R331 to R333: the MACsec commands. A transmit SC is the line of its logical port; a receive SC takes the place that
holds its SCI, else the lowest free one, and the lowest acceptable PN of each of its four associations from its buffer. -/
def Obligations.MacsecCommands : Prop := ∀ (s : State) (t : Nat) (c : Cmd) (b : List Byte),
  (Buffered s Op.macsecTxSet c 32 b →
    let m : MsecTx := { en := bufBit b 1 0, sc := bufBit b 1 1, es := bufBit b 1 2, strict := bufBit b 1 3, an := bits (byteAt b 1) 5 4,
                        clearVid := leAt b 2 2 % 4096, sci := cut b 8 8, slots := fourSlots b 16 }
    let f (x : CtxTables) : CtxTables := { x with msecTx := x.msecTx.set (fun _ => {}) c.spec m }
    Checked (.macsecTxSet t c) s t Op.macsecTxSet c [(!s.lpExists c.spec || s.mixedSuites m.slots, Status.msecBad),
        (m.en && s.sharedAfter f m.slots, Status.keyShared)] (·.ctxWrite f))
  ∧ (∀ n, Buffered s Op.macsecRxSet c 64 b →
    let m : MsecRx := { valid := bufBit b 9 0, sci := cut b 0 8, port := byteAt b 8, replay := leAt b 10 4, slots := fourSlots b 16 }
    let f (x : CtxTables) : CtxTables := { x with msecRx := x.msecRx.set (fun _ => {}) n (if m.valid then m else {}) }
    (s.scFind m.sci).orElse (fun _ => (List.range 1024).find? (fun n => !(s.msecRxOf n).valid)) = some n →
    Checked (.macsecRxSet t c) s t Op.macsecRxSet c [(!s.lpExists m.port || s.mixedSuites m.slots, Status.msecBad),
        (m.valid && s.sharedAfter f m.slots, Status.keyShared)] (fun u =>
      let pn (an : Nat) (u : State) : State := u.setRxPn n an { low := leAt b (32 + 8 * an) 8, next := leAt b (32 + 8 * an) 8 }
      pn 3 (pn 2 (pn 1 (pn 0 (u.ctxWrite f))))))

/-- R341, R342, 12 Table 5: the commands of the OAM engine. A new endpoint is written whole; one that is deleted, and has no standing
defect, is emptied. -/
def Obligations.OamCommands : Prop := ∀ (s : State) (t : Nat) (c : Cmd) (b : List Byte),
  (Buffered s Op.megSet c 52 b →
    let g := leAt b 0 2
    let v := bufBit b 2 0
    Checked (.megSet t c) s t Op.megSet c [(decide (g > 4095), Status.megRange),
        (!v && s.ctx.meps.any (fun e => e.2.valid && e.2.meg == g), Status.megInUse)]
      (fun u => u.ctxWrite (fun x => { x with megs := x.megs.set (fun _ => {}) g { valid := v, id := cut b 4 48 } })))
  ∧ (Buffered s Op.mepSet c 36 b → (s.mep (leAt b 0 2)).valid = false →
    let m := mepOf b (s.begin t).time.now
    Checked (.mepSet t c) s t Op.mepSet c [(decide (leAt b 0 2 > 16383), Status.mepRange), (s.mepBad m, Status.mepBad),
        (s.mepDup (leAt b 0 2) m, Status.mepDup)]
      (fun u => u.ctxWrite (fun x => { x with meps := x.meps.set (fun _ => {}) (leAt b 0 2) m })))
  ∧ (Buffered s Op.mepDel c 4 b → (s.mep (leAt b 0 2)).remotes = [] → (s.mep (leAt b 0 2)).lof = none → (s.mep (leAt b 0 2)).ais = false →
    Checked (.mepDel t c) s t Op.mepDel c [(decide (leAt b 0 2 > 16383) || !(s.mep (leAt b 0 2)).valid, Status.mepNone)]
      (fun u => u.ctxWrite (fun x => { x with meps := x.meps.upd (fun _ => {}) (leAt b 0 2) (fun m => { m with valid := false }) })))

/-- R406, R407, R418: TIME_SET makes its checks in order, and one that fails changes nothing. With take-effect tick 0 it takes effect at
once: OFF becomes the time given (SET), the presented time of the present tick moved by DELTA (STEP), or that presented time with the new ADJ
(RATE), and the present tick becomes the anchor; with a later tick it is pending. TOD_QUERY returns the frame whose count ends in the given
32 bits, its tick, and its presented time at the terminals. -/
def Obligations.TimeCommands : Prop := ∀ (s : State) (t : Nat) (c : Cmd) (b : List Byte),
  let u := (s.begin t).time
  (Buffered s Op.timeSet c 40 b → s.time.pending = [] →
    let op := byteAt b 0
    let at_ := leAt b 8 8
    let delta := signed 64 (leAt b 16 8) * 65536 + leAt b 28 2
    let now := u.present (u.tick * 256)
    let off : Int := if op = 0 then ((leAt b 16 8 * 1000000000 + leAt b 24 4) * 65536 + leAt b 28 2 : Nat)
      else if op = 1 then now + delta else now
    let st := firstBad [(decide (op ≥ 3) || (op == 0 && decide (leAt b 24 4 ≥ 1000000000)), Status.timeBad),
      (at_ != 0 && u.ahead at_ == 0, Status.timeLate), (at_ != 0 && decide (u.ahead at_ > 2 ^ 24), Status.timeRange),
      (at_ == 0 && op == 1 && decide (off < 0), Status.timeBad)]
    (st ≠ Status.ok → AnswersWith (.timeSet t c) s c st 0 (s.begin t))
    ∧ (st = Status.ok → at_ = 0 → ∃ w, exec (.timeSet t c) s = .next w ∧ Answered s c Status.ok 0 w
        ∧ w.time = { u with off := off, tA := u.tick, adj := if op = 2 then signed 40 (leAt b 32 5) else u.adj })
    ∧ (st = Status.ok → at_ ≠ 0 →
      ∃ w, exec (.timeSet t c) s = .next w ∧ w.host.slots = [cmdSlot s Op.timeSet c]
        ∧ w = { s.begin t with host := w.host, time := { u with pending := [timeSetOf s.host.nextSlot b] } }))
  ∧ (∀ f, Buffered s Op.todQuery c 4 b → u.todFrame (leAt b 0 4) = some f →
    let p := u.present (19440 * f * 256) + ((s.chanDelay c.spec * 65536 : Nat) : Int)
      + ((s.fld Reg.timChDly 15 0 c.spec * 65536 / 1000 : Nat) : Int)
    Returns (.todQuery t c) s t Op.todQuery c [(decide (c.spec > 191), Status.chRange),
        (!s.flg Reg.pchCtrl 0 c.spec, Status.todChOff)] 32 (toLe 8 f ++ toLe 10 (19440 * f) ++ stampTime p))

/-! ## Units, resets and power -/

/-- R27, R28, R30, R306: a running slice without frames, cells or commands for 100 µs stops, and a waking one runs; an idle gated
cluster stops after 10 µs, and a waking one runs. Nothing else changes. -/
def Obligations.SliceAndClusterUnits : Prop := ∀ (s : State) (t : Nat), Fast s →
  let u := s.begin t
  (∀ (sl : SliceIx), let x := s.slice sl.val
    (x.unit = .running → x.lastUse + 100 * usU ≤ u.time.now → x.ingress = [] → x.hostQ = [] → x.mgmtQ = [] → x.chain = [] →
      s.sliceCells sl.val = false → exec (.sliceStop t sl) s = .next (u.setSlice sl.val { x with unit := .stopped, stoppedAt := some u.time.now }))
    ∧ (x.unit = .waking → exec (.sliceWakeDone t sl) s = .next (u.setSlice sl.val { x with unit := .running, lastUse := u.time.now })))
  ∧ (∀ (n : ClusterIx), let c := s.cluster n.val
    (s.flg Reg.cphCfg 0 = true → c.unit = .running → c.idle = true → c.idleSince + 10 * usU ≤ u.time.now →
      exec (.clusterGate t n) s = .next (u.setCluster n.val { c with unit := .stopped, stoppedAt := some u.time.now }))
    ∧ (c.unit = .waking → exec (.clusterWakeDone t n) s = .next (u.setCluster n.val { c with unit := .running, idleSince := u.time.now })))

/-- R27, R29, R32, R51, R56: the unit of a channel that is disabled, or has been without work for eight PHY frames, stops,
transmit-disabled; a waking unit with work runs and lets the optics transmit; 512 ns before the preamble of an unsettled burst the channel's
receiver runs. -/
def Obligations.ChannelUnits : Prop := ∀ (s : State) (t : Nat) (c : Chan), Fast s →
  let u := s.begin t
  let p := s.ch c.val
  let en := s.flg Reg.pchCtrl 0 c.val
  let only (w : State) : Prop := (∀ d, d ≠ c.val → w.ch d = s.ch d) ∧ w.regs = s.regs ∧ w.terms = s.terms ∧ w.gnt = s.gnt ∧ w.sw = s.sw
  (p.unit ≠ .stopped → en = false → p.framing = false → Gives (.channelUnitStop t c) s (fun w => (w.ch c.val).unit = .stopped
      ∧ (w.ch c.val).txDisable = true ∧ (w.ch c.val).planned = [] ∧ (w.ch c.val).pend = [] ∧ only w))
  ∧ (p.unit = .running → en = true → s.chanWork c.val = false → 9 ≤ p.idleFrames →
    Gives (.channelUnitStop t c) s (fun w => (w.ch c.val).unit = .stopped ∧ (w.ch c.val).framing = false ∧ (w.ch c.val).txDisable = true ∧ only w))
  ∧ (s.chanMayRun c.val = true → s.chanWork c.val = true → p.unit = .waking → p.txDisable = true →
    exec (.channelUnitWakeDone t c) s
      = .next ((u.setCh c.val { p with unit := .running, idleFrames := 0, txDisable := false }).emit (.txDisable c.val false)))
  ∧ (∀ k j b, s.mapBurst c.val k j = some b → b.settled = false → b.wakes = true → u.expectedT0 c.val k b ≤ u.tu + 512 * nsU + u.burstP c.val b →
    ∃ w, exec (.burstReceiverWake t c k j) s = .next w ∧ w = { u.setCh c.val { p with receiver := .running } with outs := w.outs })

/-- R34, R266, R382 to R385, R388, R391 to R393: the Pannier without spill traffic for 1 ms goes into self-refresh; a waking one runs; a start
that passes its check makes it run, and one whose check fails disables it and flushes the queues with cells in it. A tREFI adds one to a
pseudo-channel's debt; with no catch-up and no request the debt is paid at once; at 8 a refresh is forced. A reading in another band
re-expresses the debts of its stack. A throttle ends after 64 tREFI without RFM. -/
def Obligations.PannierUnits : Prop := ∀ (s : State) (t : Nat), Fast s →
  let u := s.begin t
  (s.hbm.state = .running → s.hbm.waking = false → s.flg Reg.hbmCtrl 0 = true → s.hbm.lastUse + msU ≤ u.time.now →
    u.thisCycle s.hbm.wakeAt = false → (∀ sl < 8, s.waitingCells sl = 0) →
    exec (.pannierSelfRefresh t) s = .next { u with hbm := { s.hbm with
      state := .selfRefresh, stoppedAt := some u.time.now,
      pcs := s.hbm.pcs.mapVals (fun _ => {}) (fun _ p => { (p.refreshBanks s.rfmTh p.debt) with debt := 0, catchUp := none }) } })
  ∧ (s.hbm.waking = true → exec (.pannierWakeDone t) s
    = .next { u with hbm := { s.hbm with waking := false, state := .running, lastUse := u.time.now } })
  ∧ (s.hbm.state = .starting →
    exec (.pannierStartDone t none) s = .next { u with hbm := { s.hbm with state := .running, lastUse := u.time.now } }
    ∧ ∀ k, s.hbm.fail = false → Gives (.pannierStartDone t (some k)) s (fun w => w.hbm.fail = true ∧ w.hbm.state = .running
      ∧ (∀ q, 0 < (s.queue q).spilled → (w.queue q).frames = [])
      ∧ (s.host.inReset = false → w.flg (Reg.hifInt 5) 0 = true)))
  ∧ (∀ (k : Fin 128), s.hbm.state = .running → (u.pcNow k.val).catchUp = none → let p := u.pcNow k.val
    (7 ≤ p.debt → exec (.refreshDue t k) s
      = .next ((u.setPc k.val { (({ p with debt := p.debt + 1 } : PseudoCh).refreshBanks s.rfmTh 1) with debt := p.debt }).bump .devForcedRefreshes 0))
    ∧ (p.debt < 7 → s.pcBusy k.val = true → exec (.refreshDue t k) s = .next (u.setPc k.val { p with debt := p.debt + 1 }))
    ∧ (p.debt < 7 → s.pcBusy k.val = false → exec (.refreshDue t k) s
      = .next (u.setPc k.val { (({ p with debt := p.debt + 1 } : PseudoCh).refreshBanks s.rfmTh (p.debt + 1)) with debt := 0 })))
  ∧ (∀ (st : Fin 4) c, (s.band st.val = bandOf (s.band st.val) c → exec (.hbmTemperatureRead t st c) s = .next u)
    ∧ (s.band st.val ≠ bandOf (s.band st.val) c → Gives (.hbmTemperatureRead t st c) s (fun w => w.band st.val = bandOf (s.band st.val) c
      ∧ (∀ b, b ≠ st.val → w.band b = s.band b)
      ∧ ∀ n, n < 32 → (w.pc (32 * st.val + n)).debt
          = reexpress (u.pcNow (32 * st.val + n)).debt (s.band st.val) (bandOf (s.band st.val) c))))
  ∧ (∀ (k : Fin 128), (s.pc k.val).throttled ≠ [] → (s.pc k.val).lastRfm + 64 * trefi (s.band (k.val / 32)) ≤ u.time.now →
    exec (.throttleRelease t k) s = .next (u.setPc k.val { s.pc k.val with throttled := [] }))

/-- R266, R380, R381, R385, R388, R394: the read that a pseudo-channel issues next, when it is good and its slice's rate, catch-up and
throttles allow it, puts one cell of its queue on die, and no other queue's; any other read brings nothing. A delay register takes 24 bits
before the controller has started and is ignored and counted after. -/
def Obligations.PannierAccess : Prop := ∀ (s : State) (t : Nat),
  let u := s.begin t
  (∀ (q : Nat) (pc : Fin 128) bank row, Fast s → s.waitingCells (s.queueSlice q) = 0 →
    (s.nextRead pc.val = some q → s.panAccepts = true → (u.pcNow pc.val).catchUp = none → s.hbm.readAt.get (fun _ => 0) (s.queueSlice q) ≤ u.time.now * 1750 →
      s.actFrom pc.val (2 * s.queueSlice q + 1) ≤ u.time.now →
      Gives (.pannierReadComplete t q pc bank row .good) s (fun w => (w.queue q).frames = fetchOne (s.queue q).frames
        ∧ (∀ k, k ≠ q → w.queue k = s.queue k)
        ∧ w.hbm.prefetch.get (fun _ => 0) (queuePort q) = s.hbm.prefetch.get (fun _ => 0) (queuePort q) + 1 ∧ w.hbm.lastUse = u.time.now
        ∧ w.terms = s.terms ∧ w.ctx = s.ctx))
    ∧ (s.nextRead pc.val ≠ some q → ∀ r, exec (.pannierReadComplete t q pc bank row r) s = .next u))
  ∧ (∀ (n : Fin 64) v, Reaches s .other →
    (s.hbm.state = .notStarted → exec (.hbmDlyWrite t .host n v) s = .next (u.setReg (Reg.hbmDly n.val) (BitVec.ofNat 32 (v % 2 ^ 24))))
    ∧ (s.hbm.state ≠ .notStarted → exec (.hbmDlyWrite t .host n v) s = .next (u.bump .xDlyIgnored 0)))

/-- R9, R21, R402, R425, R453, R507, R509, R510, R512, R517, R518, 20 Tables 2 and 4: PORn low takes the whole device to its reset state
but for fuses, flash with the log in it, device memory and the JTAG port, its outputs silent; PORn high starts it with the tick counter at 0.
A warm reset, by WRSTn or the mailbox, does the same and keeps the tick counter, the log and the delay registers too, counts itself, notes and
logs its cause, and holds the device until its release. A host reset takes the rings, interrupts, MSI-X state, HIF registers but PCIE_ONLY,
the host's select registers, FLT_INJ, pages, and the mailbox's request and reply to their reset values, with the status fields that no
reset keeps; the rest of the device goes on. A command in progress at a host reset has no ring any more. -/
def Obligations.ResetRows : Prop := ∀ (s : State) (t : Nat),
  let u := s.begin t
  let base : State := { State.reset with
    pending := s.pending, outs := u.quietOutputs.outs, free := s.free, time := { now := u.time.now, refOk := s.time.refOk },
    life := { fuseSecv := s.life.fuseSecv, fuseProgrammed := s.life.fuseProgrammed, fuseRevoked := s.life.fuseRevoked },
    ctxShadow := s.ctxShadow, records := s.records, fwd := { shadow := s.fwd.shadow },
    cxm := { directory := s.cxm.directory, mem := s.cxm.mem },
    mgt := { flash := s.mgt.flash, flashLog := s.mgt.flashLog, jtag := s.mgt.jtag } }
  let warm (cause : Nat) : State :=
    let w : State := { base with
      time := { base.time with tick := u.time.tick, tickFrac := u.time.tickFrac }, phyFrame := s.phyFrame,
      life := { base.life with rstCount := min 65535 (s.life.rstCount + 1), rstCause := cause, warm := .held },
      regs := s.regs.filter (fun e => decide (Reg.hbmDly 0 ≤ e.1) && decide (e.1 ≤ Reg.hbmDly 63)),
      mgt := { base.mgt with log := s.mgt.log, logSeq := s.mgt.logSeq, logRead := s.mgt.logRead, logCopied := s.mgt.logCopied } }
    w.logWrite .warm LogCode.warm.sev ((Config.logItems [s.life.rstCause] ++ List.replicate 16 0).take 16)
  (s.life.por = false → exec (.coldReset t) s = .next { base with life := { base.life with por := true } })
  ∧ (s.host.slots = [] → s.life.por = true → exec (.coldStart t) s
    = .next { u with life := { s.life with por := false }, time := { u.time with tick := 0, tickFrac := 0 } })
  ∧ (s.life.por = false → s.life.tripped = false →
    (s.life.warm = .none → exec (.warmResetStart t true) s = .next (warm 1)
      ∧ ∀ b, s.life.warmDue = some b → b ≤ u.time.now → exec (.warmResetStart t false) s = .next (warm 2))
    ∧ (s.host.slots = [] → s.life.warm = .held → exec (.warmResetRelease t) s = .next { u with life := { s.life with warm := .none } })
    ∧ (s.life.warm = .none → exec (.hostReset t) s = .next u.hostDown.settleAll
      ∧ u.hostDown.host = { slots := u.hostDown.host.slots, nextSlot := s.host.nextSlot }
      ∧ ∀ x ∈ u.hostDown.host.slots, x.orphan = true ∧ ∃ y ∈ s.host.slots, y.id = x.id)
    ∧ (s.host.slots = [] → s.life.warm = .none → ∃ w, exec (.hostReset t) s = .next w
      ∧ w = { u with
          regs := w.regs, host := { nextSlot := s.host.nextSlot }, cnt := { s.cnt with pages := [] }, cxm := { s.cxm with err := 0 },
          mgt := { s.mgt with mbx := { s.mgt.mbx with pending := none, reply := false } },
          chans := s.chans.mapVals (fun _ => {}) (fun _ p => { p with refuse := 0 }),
          gnt := s.gnt.mapVals (fun _ => {}) (fun _ g => { g with last := 0, peak := 0 }),
          upl := s.upl.mapVals (fun _ => {}) (fun _ x => { x with
            refuse := 0, cause := 0, lanes := x.lanes.map (fun (l : Lane) => { l with eyeH := 0, eyeV := 0 }) }) }
      ∧ (∀ off inst, off < 0x4000000 → w.reg off inst =
          if off = Reg.hifCfg ∧ inst = 0 then (if s.flg Reg.hifCfg 24 then regResetWord off ||| 0x1000000#32 else regResetWord off)
          else if inHif off ∨ (isSelect off ∧ inst = 0) ∨ (off = Reg.fltInj ∧ inst = 0) then regResetWord off else s.reg off inst)))

/-- R426, R427, R450, R452: after training the host interface is out of reset, in CXL mode where the host accepts it and PCIE_ONLY is 0. A
function-level reset of a VF clears that VF's rings, their entries, counter pages and MSI-X state, and leaves everything else; in CXL mode, and
while the host interface is in reset, there is no VF to reset. -/
def Obligations.HostLink : Prop := ∀ (s : State) (t : Nat), s.host.slots = [] →
  let u := s.begin t
  (∀ cxl width rate, s.life.por = false → s.life.warm = .none → s.life.tripped = false → exec (.hostLinkTrained t cxl width rate) s
    = .next { u with host := { s.host with inReset := false, cxl := cxl && !s.flg Reg.hifCfg 24, width := width % 32, rate := rate % 8 } })
  ∧ (∀ (v : VfIx), s.host.inReset = false → s.host.cxl = false → v.val ≠ 0 → ∃ w, exec (.vfFlr t v) s = .next w
      ∧ (∀ r, w.ring r = if s.vfHolds r v.val then {} else s.ring r)
      ∧ w.cnt = { s.cnt with pages := s.cnt.pages.filter (fun p => !s.vfHolds p.ring v.val) }
      ∧ w.host.msix = s.host.msix.filter (fun e => e.1 / 65536 != v.val)
      ∧ (∀ off inst, off < 0x4000000 → w.reg off inst =
          if 0x110000 ≤ off ∧ off < 0x118000 ∧ s.vfHolds ((off - 0x110000) / 0x20) v.val = true then regResetWord off else s.reg off inst)
      ∧ w = { u with regs := w.regs, cnt := w.cnt, host := { s.host with rings := w.host.rings, msix := w.host.msix } })
  ∧ (∀ (v : VfIx), (s.host.inReset = true ∨ s.host.cxl = true) → exec (.vfFlr t v) s = .next u)

/-- R17, R392, R455, R456, R511, R525, R537, R540, 17 Table 1: the firmware of the preferred slot that is valid, or of the other, sets READY
and opens BAR0, with its versions; without one the ROM waits for recovery. A row of another outcome is no boot of this device (the model's reading). The lock is set after READY by the host alone and starts the
Pannier; going LIVE follows the lock; a reading of 130 °C trips the device: THERMTRIPn, the fast parts and the links down. -/
def Obligations.Bringup : Prop := ∀ (s : State) (t : Nat),
  let u := s.begin t
  (s.host.slots = [] → s.life.por = false → s.life.warm = .none → s.life.tripped = false → s.mgt.ready = false →
    s.mgt.switching = false → s.mgt.recovery = false → s.life.rstCause ≠ 0 →
    ∀ (slot : Fin 2) fw sv dl, Gives (.bootReady t slot fw sv dl) s (fun w =>
      if s.bootChoice = some slot.val ∧ s.slotFw slot.val = fw ∧ s.slotSec slot.val = sv ∧ dl = none then
        w.mgt.ready = true ∧ w.mgt.slot = slot.val ∧ w.mgt.fwVer = fw ∧ w.mgt.secVer = sv
        ∧ w.life = { s.life with opened := true } ∧ w.terms = s.terms ∧ w.ctx = s.ctx ∧ w.regs = s.regs
      else w = u))
  ∧ (Reaches s .glb → s.life.locked = false → (s.mgt.ready = false → exec (.setupLock t .host) s = .next (u.bump .xLockBeforeReady 0))
    ∧ (s.mgt.ready = true → Gives (.setupLock t .host) s (fun w => w.life = { s.life with locked := true }
      ∧ w.hbm = { s.hbm with state := .starting } ∧ w.regs = s.regs ∧ w.terms = s.terms ∧ w.ctx = s.ctx)))
  ∧ (Reaches s .glb → s.life.locked = true → exec (.setupLock t .host) s = .next u)
  ∧ (Awake s → exec (.setupLock t .mgmt) s = .next (u.bump .devManagementPathWritesDropped 0))
  ∧ (Fast s → s.life.locked = true → s.life.live = false → s.hbm.state ≠ .starting →
    Gives (.setupLive t) s (fun w => w.life = { s.life with live := true } ∧ w.regs = s.regs ∧ w.terms = s.terms ∧ w.ctx = s.ctx))
  ∧ (∀ temps volts, s.host.slots = [] → s.life.por = false → Gives (.sensorSample t temps volts) s (fun w =>
      w.mgt.temps = temps ∧ w.mgt.volts = volts ∧ (w.life.tripped = true ↔ s.life.tripped = true ∨ ∃ x ∈ temps, 520 ≤ x)
      ∧ (s.life.tripped = false → (∃ x ∈ temps, 520 ≤ x) → .thermTrip ∈ w.outs ∧ w.host.inReset = true ∧ w.cxm.link = false ∧ w.cph = {}
        ∧ (∀ c, (w.ch c).unit = .stopped) ∧ ∀ p, (w.port p).up = false)))

/-- R522 to R524, 20 Table 8, 10 Table 6: standby is refused while a channel or a port is enabled (cause 1), a channel reset, a flush or a
move is in progress (2), or set-up is not locked (3), with the lowest cause; otherwise it is entered: queues, cells and cipher requests are
gone and the stacks in self-refresh. It is left with every bucket of a meter and of a shaper full and every credit 0. -/
def Obligations.Standby : Prop := ∀ (s : State) (t : Nat), Reaches s .glb →
  let u := s.begin t
  let enabled := (∃ c : Chan, s.flg Reg.pchCtrl 0 c.val = true) ∨ ∃ p : PortIx, s.flg Reg.uplCtrl 0 p.val = true
  let busy := s.chans.any (fun e => e.2.resetting.isSome) = true ∨ s.sw.ports.any (fun e => e.2.flush.isSome) = true ∨ s.drl.moves ≠ []
  let refused (n : Nat) : Prop := exec (.standbyEntry t) s
    = .next (({ u with life := { s.life with pwrRefuse := n } }).bump .xStandbyRefused 0)
  (s.life.pwr = .running → enabled → refused 1)
  ∧ (s.life.pwr = .running → ¬enabled → busy → refused 2)
  ∧ (s.life.pwr = .running → ¬enabled → ¬busy → s.life.locked = false → refused 3)
  ∧ (s.life.pwr = .running → ¬enabled → ¬busy → s.life.locked = true → Gives (.standbyEntry t) s (fun w =>
      w.life = { s.life with pwr := .standby } ∧ (∀ q, (w.queue q).frames = [])
    ∧ w.sw.voqs = [] ∧ w.sw.cells = [] ∧ w.cph.reqs = [] ∧ w.hbm.state = .selfRefresh ∧ w.ctx = s.ctx ∧ w.terms = s.terms))
  ∧ (s.life.pwr = .standby → s.flt.inject = none → s.flt.queue = [] → Gives (.standbyExit t) s (fun w => w.life = { s.life with pwr := .running }
    ∧ w.terms = s.terms ∧ (∀ c ∈ w.tm.cbs, c.2.credit = 0)
    ∧ (∀ l e l', s.ctx.meters = l ++ e :: l' → (∀ x ∈ l', x.1 ≠ e.1) → w.tm.meters.get (fun _ => {}) e.1 = Meter.full e.2 u.cycle)
    ∧ (∀ l e l', s.ctx.shapers = l ++ e :: l' → (∀ x ∈ l', x.1 ≠ e.1) → w.tm.shapers.get (fun _ => {}) e.1 = Shaper.full e.2 u.cycle)))

/-! ## The PON line, activation, grants and moves -/

/-- R45 to R48, R62, R67, R69, R106, R130, R139: a PHY frame starts: where one channel frames and nothing waits, the last frame's end is
filled with idle frames and that channel sends its frame, with its map and an empty payload; an upstream frame ends: one that granted no
window clears the count of CH_LOS, the third in a row without a valid burst enters CH_LOS; a discovery window closes, and its receiver rests
where nothing else needs it; a quiet window begins with the BRST pulse, its receiver runs, and an armed dark measurement takes it. -/
def Obligations.FrameRows : Prop := ∀ (s : State) (t : Nat) (c : Chan), Fast s →
  let u := s.begin t
  let p := s.ch c.val
  (s.phyFrame < u.frameNo → (∀ d : Chan, s.frames d.val = false ∧ (s.ch d.val).framing = false) →
    exec (.phyFrameStart t) s = .next { u with phyFrame := u.frameNo })
  ∧ (let k := u.frameNo
    let m := ((s.gntCh c.val).maps.find? (fun m => m.k == k)).getD { k := k }
    s.phyFrame < k → s.frames c.val = true → (∀ d : Chan, d ≠ c → s.frames d.val = false ∧ (s.ch d.val).framing = false) →
    p.planned = [] → p.pend = [] → p.deferred = [] → p.parked = [] → p.ploamHost = [] → p.ploamHw = [] → p.rounds = .ended → s.termsOf c.val = [] → s.drl.tune = [] →
    s.profileDue c.val k = [] → (s.gntCh c.val).late = none →
    Gives (.phyFrameStart t) s (fun w => w.outs = (if p.space = 0 then [] else [.idle c.val p.space p.space]) ++ [.phyFrame c.val (k % 2 ^ 51)
        ((s.reg Reg.pchPonidHi c.val).toNat % 2 ^ 19 * 2 ^ 32 + (s.reg Reg.pchPonidLo c.val).toNat) (s.psync c.val) m []]
      ∧ w.phyFrame = k ∧ (w.ch c.val).framing = true
      ∧ (w.ch c.val).space = s.fsBytes c.val - (4 + 8 * (m.bursts.map (fun b => b.structs.length)).foldl (· + ·) 0)
      ∧ w.terms = s.terms ∧ w.regs = s.regs ∧ w.sw = s.sw ∧ (∀ d, w.gntCh d = s.gntCh d) ∧ ∀ d : Chan, d ≠ c → w.ch d.val = s.ch d.val))
  ∧ (∀ k, p.upFrame ≤ k → (k + 1) * frameU + teqdU ≤ u.tu → (s.gntCh c.val).maps = [] → s.drl.moves = [] →
    (s.termsOf c.val).all (fun e => e.2.state != .ranging) = true →
    Gives (.upstreamFrameEnd t c k) s (fun w => w.ch c.val = { p with upFrame := k + 1, losFrames := 0, frameValid := false }
      ∧ w.terms = s.terms ∧ w.regs = s.regs))
  ∧ (∀ k m, p.upFrame ≤ k → (k + 1) * frameU + teqdU ≤ u.tu → (s.gntCh c.val).maps = [m] → m.k ≤ k → m.bursts.all (·.settled) = true →
    m.bursts.any GBurst.grantedWindow = true → p.frameValid = false → p.losFrames = 2 → p.chLos = false → s.drl.moves = [] →
    (s.termsOf c.val).all (fun e => e.2.state != .ranging) = true →
    Gives (.upstreamFrameEnd t c k) s (fun w => w.ch c.val = { p with upFrame := k + 1, losFrames := 3, chLos := true }
      ∧ (w.gntCh c.val).maps = []))
  ∧ (let v := u.setCh c.val { p with disc := p.disc.filter (fun w => decide (u.tu < w.closes)) }
    exec (.discoveryWindowClose t c) s = .next (v.receiverRest c.val)
    ∧ (v.quietOpen c.val = [] → (s.gntCh c.val).maps = [] → exec (.discoveryWindowClose t c) s
      = .next (v.setCh c.val { v.ch c.val with receiver := .stopped })))
  ∧ (∀ w l, u.quietOpen c.val = w :: l → s.fld Reg.pchBrst 7 0 c.val ≠ 0 →
    let out : Out := .brst c.val (u.nowAt w.1) (u.nowAt w.1 + s.fld Reg.pchBrst 7 0 c.val * cycleU)
    let at_ := u.time.now - (u.tu - w.1)
    (p.rssi = none → exec (.quietWindowStart t c) s = .next ((u.setCh c.val { p with receiver := .running }).emit out))
    ∧ (∀ a, p.rssi = some a → exec (.quietWindowStart t c) s = .next ((u.setCh c.val { p with
        receiver := .running,
        rssi := some (if a.dark && a.window.isNone && decide (a.at_ ≤ at_) && decide (at_ ≤ a.at_ + 10 * msU) then { a with window := some w.1 }
                      else a) }).emit out)))

/-- R56, R57, R62, R65, R90, R121, R135, R158, R444: a granted burst whose header fails, or whose window closes without a delimiter, is counted
under what failed and as missed, and its receiver rests where no other burst needs it; a valid one clears the count of misses and joins the running average of its terminal's phase; a packet
on the OMCC port goes to a posted buffer of the channel's ring behind its 48-byte header. -/
def Obligations.BurstRows : Prop := ∀ (s : State) (t : Nat) (c : Chan) (i : TermIx) (k j : Nat) (b : GBurst),
  let u := s.begin t
  let p := s.term c.val i.val
  let n := s.fld Reg.pchDef 7 0 c.val
  let missed (u : State) : State := (u.burstOver c.val k j).setTerm c.val i.val { p with losCnt := p.losCnt + 1 }
  (Fast s → s.mapBurst c.val k j = some b → b.term = some i.val → b.settled = false → b.kind = .normal → s.evaluated c.val i.val = true →
    (n = 0 ∨ p.losCnt + 1 < n ∨ p.losi = true) →
    (u.burstT0 c.val k b + u.uiDur c.val (u.slackUi c.val b) ≤ u.tu + u.delimDur c.val b →
      exec (.delimiterWindowClose t c k j) s = .next (missed (u.bump .chBurstsWithoutDelimiter c.val)))
    ∧ (∀ r f, u.absToTu c.val (u.absUnit c.val k b.first) ≤ u.tu → u.burstFault c.val k b (u.hterm c.val i.val) r.head = some f →
      exec (.burstReceived t c k j r) s = .next (missed (u.countHead c.val f))))
  ∧ (∀ r : BurstRx, Fast s → s.mapBurst c.val k j = some b → b.term = some i.val → b.settled = false → b.kind = .normal →
    s.evaluated c.val i.val = true → s.moveTo c.val i.val = none → u.absToTu c.val (u.absUnit c.val k b.first) ≤ u.tu →
    u.burstFault c.val k b p r.head = none → b.structs = [] → (s.ch c.val).chLos = false → bit r.head.ind 0 = false →
    p.losi = false → p.delin = .sync → p.lofi = false → p.pending = none → p.newFrom ≤ k → p.dowi = false →
    r.phase.natAbs ≤ s.fld Reg.pchDow 15 0 c.val → s.fld Reg.actTrk 15 0 c.val = 0 →
    Gives (.burstReceived t c k j r) s (fun w => (w.term c.val i.val).losCnt = 0 ∧ (w.term c.val i.val).lofBad = 0
      ∧ (w.term c.val i.val).avg = p.avg + (r.phase - p.avg) / ((2 ^ s.fld Reg.actTrk 19 16 c.val : Nat) : Int)
      ∧ (w.term c.val i.val).state = p.state ∧ (w.term c.val i.val).eqd = p.eqd
      ∧ (w.ch c.val).frameValid = true ∧ (w.ch c.val).losFrames = 0 ∧ (w.term c.val i.val).wantPloamu = bit r.head.ind 8
      ∧ (w.ch c.val).receiver = ((u.burstOver c.val k j).ch c.val).receiver ∧ w.regs = s.regs))
  ∧ (∀ packet, Fast s → s.omccOf c.val i.val = none →
    exec (.upstreamOmciFrame t c i packet) s = .next (u.bump .chUnknownPortIdDrops c.val))
  ∧ (∀ (x : Slot) q packet, WaitsOn s x → x.opcode = Op.rxBuf → x.resOk = true → s.omccOf c.val i.val = some q → byteAt packet 3 ≠ 0xA7 →
    48 + packet.length ≤ x.len →
    (List.range 1024).find? (fun r => s.ringEn r && s.ringType r == 6 && s.ringBind r == c.val && s.ringRuns r) = some x.ring →
    ∃ w head, exec (.upstreamOmciFrame t c i packet) s = .next w ∧ Completed s x Status.ok (48 + packet.length) w ∧ head.length = 48
      ∧ .dma x.addr (head ++ packet) ∈ w.outs)

/-- R57, R90, R98, R106, R107, R110, R113, R116 to R119, R122, R134: a serial number that answers in an open discovery window and that its
allow-list entry admits takes its context, ONU-ID and binding, and is ASSIGNED; one that overlaps another counts as a collision. A ranging
response with a good header gives the RTD and EqD, and Ranging_Time is queued; a failing header is counted under what failed, and a response
that the context does not wait for as an event outside its state; a window that closes without one starts the next attempt. The Acknowledgement of an
activation brings OPERATION, and one in service makes the new EqD the terminal's. Registration and every other message go to the host. -/
def Obligations.ActivationRows : Prop := ∀ (s : State) (t : Nat) (c : Chan) (i : TermIx) (msg : List Byte), Fast s →
  let u := s.begin t
  let p := s.term c.val i.val
  let n := ctxNo c.val i.val
  let ok := s.ploamMicGood c.val (some i.val) msg
  let m := (u.ploamCheck c.val (some i.val) msg).1
  let told (w : State) (eqd : Nat) : Prop :=
    (w.ch c.val).ploamHw = (s.ch c.val).ploamHw ++ [{ ctx := some i.val, onuId := p.onuId, sn := p.sn, body := .rangingTime eqd, copies := 1 }]
  (∀ (r : SnResp) (d : DiscWin), (s.ch c.val).disc.find? (fun w => decide (u.nowAt w.opens ≤ u.nowAt r.arrival)
      && decide (w.opens ≤ r.arrival) && decide (r.arrival ≤ w.closes)) = some d →
    r.collided = true →
    exec (.serialNumberOnu t c r) s = .next (u.bump .chDiscoveryCollisions c.val))
  ∧ (∀ (r : SnResp) (d : DiscWin) k id b, (s.ch c.val).disc = [d] → d.opens ≤ r.arrival → r.arrival ≤ d.closes → d.last = none →
    d.admitted < s.fld Reg.actDisc 15 8 c.val → (s.ch c.val).chLos = false →
    s.headFault c.val 0 0x7FFFFFFF (Config.broadcastOnuId (s.mode c.val)) r.head = none → r.collided = false →
    (s.termsOf c.val).any (fun e => e.2.state == .disabled && e.2.sn == r.sn) = false → s.movingSn c.val r.sn = false →
    s.activeSn r.sn = none → s.allowFind r.sn = some k → (s.allowOf k).deny = false →
    ((s.allowOf k).treeAny = true ∨ (s.allowOf k).tree = c.val / 4) → (s.recordOf k).valid = false →
    s.admitIndex c.val r.sn (s.allowOf k).pinCtx = some i.val → s.admitOnu c.val (s.allowOf k).pinId none = some id →
    s.lowBinding = some b → p.state = .free →
    Gives (.serialNumberOnu t c r) s (fun w =>
      if s.ploamMicGood c.val none r.msg = true then
        (w.term c.val i.val).state = .assigned ∧ (w.term c.val i.val).sn = r.sn ∧ (w.term c.val i.val).onuId = id
        ∧ (w.term c.val i.val).tag = (s.allowOf k).tag ∧ (w.term c.val i.val).binding = some b ∧ (w.term c.val i.val).step = .admitted
        ∧ w.bindingCtx b = some n ∧ (w.ch c.val).disc.map (·.admitted) = [d.admitted + 1]
      else w.terms = s.terms ∧ (w.ch c.val).disc.map (·.admitted) = [d.admitted]))
  ∧ (∀ opens closes grant arrival head, p.step = .window opens closes grant → p.state = .ranging → opens ≤ arrival → arrival ≤ closes →
    (∀ f, s.headFault c.val 0 0x7FFFFFFF p.onuId head = some f → exec (.rangingResponse t c i p.sn ⟨head, arrival⟩) s = .next (u.countHead c.val f))
    ∧ (s.headFault c.val 0 0x7FFFFFFF p.onuId head = none →
    (s.ch c.val).chLos = false → toDrift (arrival + teqdU - grant) ≤ toDrift teqdU →
    let rtd := toDrift (arrival + teqdU - grant)
    let eqd := s.roundEqd c.val (toDrift teqdU - rtd)
    Gives (.rangingResponse t c i p.sn ⟨head, arrival⟩) s (fun w =>
      w.term c.val i.val = { p with rtd := rtd, eqd := eqd, step := .measured } ∧ told w eqd)))
  ∧ (∀ sn r, p.step = .none → exec (.rangingResponse t c i sn r) s = .next (u.bump .xTermEvent n))
  ∧ (∀ opens closes grant, p.step = .window opens closes grant → p.state = .ranging → closes ≤ u.tu → p.remembered = false →
    p.retries < s.fld Reg.actLost 23 16 c.val → exec (.rangingWindowClose t c i) s
      = .next ((u.setTerm c.val i.val { p with step := .assigned (u.frameNo - 2), retries := p.retries + 1 }).receiverRest c.val))
  ∧ (∀ f, p.state = .ranging → p.step = .ackDue f →
    Gives (.acknowledgement t c i msg) s (fun w => if ok = true then w.term c.val i.val = { p with
        state := .operation, step := .none, rangedAs := p.onuId, avg := 0, pending := none, holdUntil := none, remembered := false, wasLost := false,
        newFrom := 0 }
      else w = m.bump .termPloamMicFailures n))
  ∧ (∀ q, p.state = .operation → p.pending = some q →
    Gives (.acknowledgement t c i msg) s (fun w => if ok = true then
        (w.term c.val i.val).eqd = q.eqd ∧ (w.term c.val i.val).oldEqd = p.eqd ∧ (w.term c.val i.val).pending = none
        ∧ (w.term c.val i.val).avg = 0 ∧ (w.term c.val i.val).rtd = toDrift teqdU - q.eqd
      else w = m.bump .termPloamMicFailures n))
  ∧ exec (.registration t c i msg) s = .next (if ok = true then m.event 0x17 n (Config.registrationId msg)
      else m.bump .termPloamMicFailures n)
  ∧ exec (.ploamRx t c i msg) s = .next (m.event 0x18 n (msg.take 48 ++ toLe 1 (b2n ok)))

/-- R114, R126, R127, R129, R131, R272: a terminal whose LOSi has stood for `ACT_LOST.TIME` ms is LOST and its ONU-ID in quarantine for
QUAR ms; a quarantine ends; the queue set of a lost terminal is flushed when its hold ends; the first round of remembered attempts
begins SETTLE frames after the first one, and ends at once where no record is eligible or where TRIES or PER_FRAME is 0 (the model's choice,
log entry 46). No other terminal changes, and a row that is not due changes nothing. -/
def Obligations.LossRows : Prop := ∀ (s : State) (t : Nat) (c : Chan) (i : TermIx), Fast s →
  let u := s.begin t
  let p := s.term c.val i.val
  let now := u.time.now
  (p.state = .operation → p.losi = true → p.detached = false → p.losiAt + s.fld Reg.actLost 15 0 c.val * msU ≤ now →
    Gives (.lostTimeExpiry t c i) s (fun w => (w.term c.val i.val).state = .lost ∧ (w.term c.val i.val).sn = p.sn
      ∧ (w.term c.val i.val).binding = p.binding ∧ (w.term c.val i.val).losi = false
      ∧ (w.ch c.val).quarantine = (s.ch c.val).quarantine.filter (fun q => q.1 != p.onuId)
          ++ [(p.onuId, now + s.fld Reg.actLost 31 24 c.val * msU)]
      ∧ (w.ch c.val).ploamHw = (s.ch c.val).ploamHw ++ [{ ctx := some i.val, onuId := p.onuId, sn := p.sn, body := .deactivate, copies := 3 }]
      ∧ (∀ k, k ≠ ctxNo c.val i.val → w.term (k / 256) (k % 256) = s.term (k / 256) (k % 256)) ∧ w.ctx = s.ctx ∧ w.allocs = s.allocs))
  ∧ ((p.state ≠ .operation ∨ p.losi = false ∨ p.detached = true ∨ now < p.losiAt + s.fld Reg.actLost 15 0 c.val * msU) →
    exec (.lostTimeExpiry t c i) s = .next u)
  ∧ (∀ id, exec (.quarantineExpiry t c id) s = .next (u.setCh c.val { s.ch c.val with
      quarantine := (s.ch c.val).quarantine.filter (fun q => !(q.1 == id && decide (q.2 ≤ now))) }))
  ∧ (∀ x, p.holdUntil = some x → p.state ≠ .operation → x ≤ now →
    exec (.holdExpiry t c i) s = .next ((u.setTerm c.val i.val { p with holdUntil := none }).loseTermSet (ctxNo c.val i.val)))
  ∧ ((p.state = .operation ∨ ∀ x, p.holdUntil = some x → now < x) → exec (.holdExpiry t c i) s = .next u)
  ∧ (((s.ch c.val).rounds = .idle ∨ (s.ch c.val).rounds = .ended) → exec (.rememberedRoundStart t c) s = .next u)
  ∧ (∀ f, (s.ch c.val).rounds = .settling f → u.frameNo < f + s.fld Reg.actMem 15 8 c.val → exec (.rememberedRoundStart t c) s = .next u)
  ∧ (∀ f, (s.ch c.val).rounds = .settling f → f + s.fld Reg.actMem 15 8 c.val ≤ u.frameNo →
    (s.fld Reg.actMem 19 16 c.val = 0 ∨ s.fld Reg.actMem 7 0 c.val = 0) →
    exec (.rememberedRoundStart t c) s = .next (u.setCh c.val { s.ch c.val with rounds := .ended, firstDone := true }))
  ∧ (∀ f, (s.ch c.val).rounds = .settling f → f + s.fld Reg.actMem 15 8 c.val ≤ u.frameNo → 1 ≤ s.fld Reg.actMem 19 16 c.val →
    s.fld Reg.actMem 7 0 c.val ≠ 0 →
    (s.eligibleFrom c.val 0 ≠ [] →
      exec (.rememberedRoundStart t c) s = .next (u.setCh c.val { s.ch c.val with rounds := .running 1 0 }))
    ∧ (s.eligibleFrom c.val 0 = [] → s.attemptsOpen c.val = false → Gives (.rememberedRoundStart t c) s (fun w =>
      w.ch c.val = { s.ch c.val with rounds := .ended, firstDone := true } ∧ w.terms = s.terms)))

/-- R140, R141, R143, R176, R177, R496: at the snapshot of a channel that does not frame, nothing is built; at that of one with nothing to
grant an empty map joins its maps; at any other a map of the frame joins them that has its structures in StartTime order, its bursts apart
and at most 512 structures, or is the fallback map; a map that takes longer than 3,732 ticks is late, and at its deadline the fallback map replaces it. -/
def Obligations.GrantRows : Prop := ∀ (s : State) (t : Nat) (c : Chan) (compute : Nat), Fast s →
  let u := s.begin t
  let g := s.gntCh c.val
  let k := u.time.snapshotMap
  (g.snapped < k → s.builds c.val = false → Gives (.snapshot t c compute) s (fun w =>
    w.gntCh c.val = { g with snapped := k, room := 0 } ∧ w.terms = s.terms ∧ w.regs = s.regs ∧ w.allocs = s.allocs))
  ∧ (g.snapped < k → s.builds c.val = true → compute ≤ 3732 → s.slasOf c.val = [] → s.termsOf c.val = [] → s.drl.moves = [] →
    g.coop = [] → g.commits = [] → g.reserves = [] → s.flg Reg.actDisc 0 c.val = false → Gives (.snapshot t c compute) s (fun w =>
    w.gntCh c.val = { g with
      snapped := k, room := 0, last := compute, peak := max g.peak compute, late := none,
      maps := g.maps.filter (fun m => m.k != k && decide (k < m.k + 16)) ++ [{ k := k, bursts := [] }] }))
  ∧ (g.snapped < k → s.builds c.val = true → compute ≤ 3732 → Gives (.snapshot t c compute) s (fun w =>
      (w.gntCh c.val).snapped = k ∧ (w.gntCh c.val).late = none ∧ ∃ m ∈ (w.gntCh c.val).maps, m.k = k ∧ (m.fallback = true ∨
        let body := m.bursts.filter (fun b => b.first != b.stop)
        ((∀ x ∈ m.bursts.zip m.bursts.tail, x.1.start ≤ x.2.start) ∧ (∀ x ∈ body.zip body.tail, x.1.stop ≤ x.2.first)
        ∧ (m.bursts.map (fun b => b.structs.length)).sum ≤ 512))))
  ∧ (k ≤ g.snapped → exec (.snapshot t c compute) s = .next u)
  ∧ (g.snapped < k → s.builds c.val = true → 3732 < compute →
    Gives (.snapshot t c compute) s (fun w => (w.gntCh c.val).late = some k ∧ (w.gntCh c.val).maps = g.maps))
  ∧ (∀ m, g.late = some m → 19440 * (m - 1) + 15552 + 3732 ≤ u.time.tick →
    (s.builds c.val = true → Gives (.mapDeadline t c) s (fun w => (w.gntCh c.val).late = none
      ∧ (w.gntCh c.val).maps.any (fun x => x.k == m && x.fallback) = true))
    ∧ (s.builds c.val = false → exec (.mapDeadline t c) s = .next (u.setGnt c.val { g with late := none })))

/-- R183, R185, R186, R192, R198, R199, R201: TUNE_ACK accepts the move it belongs to, and any other message is counted; ACK_TMO brings
the next of three offers and then NO_ACK; TUNE_ARRIVE makes the terminal the target's; ARRIVE_TMO aborts the move and the source grants
its terminal again; a measurement window of a tree starts afresh when it ends, after its suggestion. -/
def Obligations.MoveRows : Prop := ∀ (s : State) (t : Nat) (c : Chan) (i : TermIx) (msg : List Byte) (m : Move), Fast s →
  let u := s.begin t
  let others := s.drl.moves.filter (fun x => !(x.src == m.src && x.i == m.i))
  (s.tuneMove c.val i.val msg = none → exec (.tuneAck t c i msg) s = .next (u.bump .xTuneBad (ctxNo c.val i.val)))
  ∧ (s.tuneMove c.val i.val msg = some m → byteAt msg 2 = 2 → m.src = c.val → m.accepted = false → m.step = 2 →
    byteAt msg 16 = 0 → beAt msg 18 2 ≤ s.ttMax →
    exec (.tuneAck t c i msg) s = .next (u.setMove { m with accepted := true, step := 3 }))
  ∧ (s.moveFrom c.val i.val = some m → m.accepted = false → m.offerDue = false → m.step = 2 → m.ackBy ≤ u.time.now →
    (m.offers < 3 → exec (.tuneAckTimeout t c i) s = .next ((u.setMove { m with offerDue := true }).tuneOffer m))
    ∧ (3 ≤ m.offers → m.arrived = false → Gives (.tuneAckTimeout t c i) s (fun w => w.drl.moves = others ∧ w.terms = s.terms)))
  ∧ (∀ phase, s.tuneMove c.val i.val msg = some m → byteAt msg 2 = 4 → m.tgt = c.val → m.i' = some i.val → m.arrived = false → 5 ≤ m.step →
    s.fld Reg.actTrk 15 0 c.val = 0 →
    let p := s.term m.src m.i
    Gives (.tuneArrive t c i msg phase) s (fun w =>
      w.term c.val i.val = { p with
        eqd := m.tgtEqd, avg := 0, detached := false, pending := none, wantPloamu := false, newFrom := 0, dowi := false, losCnt := 0 }
      ∧ w.drl.moves = s.drl.moves.map (fun x => if x.src = m.src ∧ x.i = m.i then { m with step := 9, arrived := true, error := phase } else x)
      ∧ ∀ b, p.binding = some b → w.bindingCtx b = some (ctxNo c.val i.val)))
  ∧ (s.moveFrom c.val i.val = some m → 5 ≤ m.step → m.arrived = false → m.srcGone = false → u.arrivesNow m = false →
    m.detachedAt + s.fld Reg.drlCfg 31 24 * msU ≤ u.time.now →
    Gives (.arriveTimeout t c i) s (fun w => w.drl.moves = others
      ∧ w.term c.val i.val = { s.term c.val i.val with detached := false }))
  ∧ (∀ (tree : Fin 48), let window := s.fld Reg.drlSug 31 16
    window ≠ 0 → s.drl.winStart.get (fun _ => 0) tree.val + window * msU ≤ u.time.now →
    Gives (.moveSuggest t tree) s (fun w => w.drl.winStart.get (fun _ => 0) tree.val = u.time.now
      ∧ (∀ l, l < 4 → (w.ch (4 * tree.val + l)).usLoad = 0 ∧ (w.ch (4 * tree.val + l)).dsLoad = 0)
      ∧ w.outs = ((u.suggestDir tree.val true window).getD ((u.suggestDir tree.val false window).getD u)).outs))

/-- R69, R377: at the point of an armed measurement the RSSI pulse goes out and the command completes with OK; 10 ms without one complete
it with RSSI_TIMEOUT. A module's answer within 2 ms completes MOD_ACCESS, a read with the bytes; no answer within 2 ms, and one after them,
completes it with MOD_NOACK. -/
def Obligations.OpticsRows : Prop := ∀ (s : State) (t : Nat) (c : Chan) (x : Slot), WaitsOn s x →
  let u := s.begin t
  (∀ (a : RssiArmed), (s.ch c.val).rssi = some a → a.slot = x.id →
    (∀ y, u.rssiPoint c.val a = some y → ∃ w, exec (.rssiTrigger t c) s = .next w ∧ Completed s x Status.ok 0 w
      ∧ .rssi c.val (u.nowAt y) (s.fld Reg.pchRssi 31 16 c.val) ∈ w.outs ∧ w.ch c.val = { s.ch c.val with rssi := none })
    ∧ (a.at_ + 10 * msU ≤ u.time.now → u.rssiMeet c.val a = none → ∃ w, exec (.rssiTimeout t c) s = .next w ∧ Completed s x Status.rssiTimeout 0 w
      ∧ w.ch c.val = { s.ch c.val with rssi := none }))
  ∧ (x.opcode = Op.modAccess → x.spec = c.val →
    let due := (s.ch c.val).modAt + 2 * msU
    (due ≤ u.time.now → ∃ w, exec (.modAccessDone t c none) s = .next w ∧ Completed s x Status.modNoack 0 w)
    ∧ (u.time.now < due → exec (.modAccessDone t c none) s = .next u)
    ∧ (∀ d, due < u.time.now → ∃ w, exec (.modAccessDone t c (some d)) s = .next w ∧ Completed s x Status.modNoack 0 w)
    ∧ (∀ d, u.time.now ≤ due → byteAt (x.buf.getD []) 0 = 1 → ∃ w, exec (.modAccessDone t c (some d)) s = .next w ∧ Completed s x Status.ok 0 w)
    ∧ (∀ d, u.time.now ≤ due → byteAt (x.buf.getD []) 0 ≠ 1 → d.length = byteAt (x.buf.getD []) 3 → d.length ≠ 0 → x.resOk = true →
      ∃ w, exec (.modAccessDone t c (some d)) s = .next w ∧ Completed s x Status.ok 0 w ∧ .dma x.aux d ∈ w.outs))

/-! ## Slices, forwarding table, switch core and traffic manager -/

/-- R30, R36, R204, R221, R261, R357, R411: a frame that passes the MAC's checks waits in its slice with its ingress stamp, in the wake
reserve where the slice's clock stands, which then wakes; one that finds that buffer full, or fails a check, is dropped and counted. A
core cycle has four slots: the Chainring's head has one, under its next rule set, the host's frames their share, and each port in turn one
for its oldest frame. -/
def Obligations.IngressRows : Prop := ∀ (s : State) (t : Nat) (p : PortIx) (frame : List Byte) (fec : List (Nat × Nat × Nat)), Fast s →
  let u := s.begin t
  let sl := s.portSlice p.val
  let x := s.slice sl
  let v := u.countFec p.val fec
  ((s.port p.val).up = false → ∀ ok, exec (.uplinkFrameRx t p frame ok fec) s = .next u)
  ∧ ((s.port p.val).up = true → fec.any (fun l => decide (l.2.2 ≠ 0)) = true → ∀ ok,
    exec (.uplinkFrameRx t p frame ok fec) s = .next (v.bump .xUplCodeword p.val))
  ∧ ((s.port p.val).up = true → fec.any (fun l => decide (l.2.2 ≠ 0)) = false →
    (exec (.uplinkFrameRx t p frame false fec) s = .next (v.bump .uplFcsErrors p.val))
    ∧ (frame.length + 4 < 64 → exec (.uplinkFrameRx t p frame true fec) s = .next (v.bump .uplRunts p.val))
    ∧ (16383 < frame.length + 4 → exec (.uplinkFrameRx t p frame true fec) s = .next (v.bump .uplOversize p.val))
    ∧ (60 ≤ frame.length → frame.length ≤ 16379 → beAt frame 12 2 = 0x8808 →
      exec (.uplinkFrameRx t p frame true fec) s = .next (v.bump .uplMacControlDrops p.val))
    ∧ (60 ≤ frame.length → frame.length ≤ 16379 → beAt frame 12 2 ≠ 0x8808 →
      let room := if x.unit = .running then s.ingressCells sl + x.waitCells false + cdiv frame.length 256 ≤ 61440
        else x.waitCells true + cdiv frame.length 256 ≤ 4096
      (room → Gives (.uplinkFrameRx t p frame true fec) s (fun w => ∃ r : FrameRec,
        w.slice sl = { x with
          ingress := x.ingress ++ [(192 + p.val, { rec_ := r, data := frame })], lastUse := u.time.now,
          unit := if x.unit = .stopped then (if u.thisCycle x.stoppedAt then .running else .waking) else x.unit }
        ∧ r.len = frame.length ∧ r.inPort = 192 + p.val ∧ r.tick * 256 + r.frac = u.tu * 256 / tickU ∧ r.frac < 256
        ∧ (r.held = true ↔ x.unit ≠ .running) ∧ w.sw = s.sw ∧ w.regs = s.regs))
      ∧ (¬room → Gives (.uplinkFrameRx t p frame true fec) s (fun w => (w.slice sl).ingress = x.ingress ∧ w.sw = s.sw
        ∧ (v.cnt.local_.get (fun _ => 0) (Ctr.slcVoqFull.key sl) < 2 ^ 48 - 1 →
          w.cnt.local_.get (fun _ => 0) (Ctr.slcVoqFull.key sl) = v.cnt.local_.get (fun _ => 0) (Ctr.slcVoqFull.key sl) + 1)))))
  ∧ (∀ (l : SliceIx), let v := u.slotWindow l.val
    let x := v.slice l.val
    let waits := x.hostQ ≠ [] ∨ x.mgmtQ ≠ []
    (x.unit ≠ .running → (waits ∨ x.ingress ≠ []) → exec (.ingressLookup t l) s = .next (v.wakeSlice l.val))
    ∧ (x.unit = .running → x.slotFree = false → exec (.ingressLookup t l) s = .next v)
    ∧ (x.unit = .running → x.slotFree = true → waits → x.hostTook < min 64 (s.fld Reg.clsCfg 15 8 l.val) →
      exec (.ingressLookup t l) s = .next (v.hostLookup l.val))
    ∧ (x.unit = .running → x.slotFree = true → (¬waits ∨ min 64 (s.fld Reg.clsCfg 15 8 l.val) ≤ x.hostTook) →
      (x.nextPort = none → exec (.ingressLookup t l) s = .next (v.hostLookup l.val))
      ∧ (∀ port f rest, x.nextPort = some port → takeOf port x.ingress = some (f, rest) →
        x.served.contains port = false ∧ (∃ e ∈ x.ingress, e.1 = port) ∧
        let e := (v.setSlice l.val { x with ingress := rest, rot := port, slotsUsed := x.slotsUsed + 1, served := port :: x.served }).enters l.val
          { f with rec_ := { f.rec_ with held := false } }
        exec (.ingressLookup t l) s = .next (e.1.firstPass l.val e.2)))
    ∧ (∀ f rest, x.chain = f :: rest →
      (x.unit ≠ .running → exec (.chainringPass t l) s = .next (v.wakeSlice l.val))
      ∧ (x.unit = .running → (x.chainServed = true ∨ 4 ≤ x.slotsUsed) → exec (.chainringPass t l) s = .next v)
      ∧ (x.unit = .running → x.chainServed = false → x.slotsUsed < 4 →
        let z := v.setSlice l.val { x with chain := rest, chainServed := true, slotsUsed := x.slotsUsed + 1 }
        exec (.chainringPass t l) s
          = .next (z.afterParse l.val (z.parse l.val f) f (fun s b => s.rulePass l.val f.rec_.nextSet b f)))))

/-- R245, R246, R250, R253, R256, R257, R398, R399, R494, R495: the learn request of the next queue moves an entry that names
another source, or takes the first free row; every TIME seconds the age sweep removes each entry that is not STATIC and was not hit, and
clears the hit bits; every 64 ms the compare sweeps rewrite a line that differs or is lost from its shadow, a lost shadow from its line, and
an entry that is lost in both goes; a stale shadow is written whole and not compared; no sweep runs without CMP or device memory; a walk
that ends completes its command. -/
def Obligations.TableRows : Prop := ∀ (s : State) (t : Nat),
  let u := s.begin t
  let turn := ((List.range 8).map (fun i => (s.fwd.lastQueue + 1 + i) % 8)).find? (fun q => !(s.fwd.queues.get (fun _ => []) q).isEmpty)
  (Fast s → turn = none → exec (.learnRequest t) s = .next u)
  ∧ (∀ q r rest, Fast s → turn = some q → s.fwd.queues.get (fun _ => []) q = r :: rest → s.learnExcess (s.service r.svc) (r.dtype, r.dest) = false →
    (∀ l, s.fwdFind r.fid r.mac = some l → (s.fwdRow l).static_ = false → ((s.fwdRow l).dtype ≠ r.dtype ∨ (s.fwdRow l).dest ≠ r.dest) →
      Gives (.learnRequest t) s (fun w => w.fwdRow l = { s.fwdRow l with dtype := r.dtype, dest := r.dest }
        ∧ (∀ k, k ≠ l → w.fwdRow k = s.fwdRow k) ∧ w.fwd.queues.get (fun _ => []) q = rest ∧ w.fwd.lastQueue = q))
    ∧ (∀ l, s.fwdRows ≠ 0 → s.fwdFind r.fid r.mac = none →
      ((List.range 4).map (fun i => s.fwdLoc r.fid r.mac ((s.fwd.counter % 4 + i) % 4))).find? (fun l => !(s.fwdRow l).valid) = some l →
      Gives (.learnRequest t) s (fun w =>
        w.fwdRow l = { mac := r.mac, fid := r.fid, valid := true, learned := true, dtype := r.dtype, dest := r.dest }
        ∧ (∀ k, k ≠ l → w.fwdRow k = s.fwdRow k) ∧ w.fwdHit l = false ∧ w.fwd.queues.get (fun _ => []) q = rest)))
  ∧ (let time := s.fld Reg.fwdAge 15 0
    (Fast s → (time = 0 ∨ u.time.now < s.fwd.agedAt + time * secU) → exec (.ageSweep t) s = .next u)
    ∧ (Fast s → time ≠ 0 → s.fwd.agedAt + time * secU ≤ u.time.now →
      Gives (.ageSweep t) s (fun w => w.fwd.hit = [] ∧ w.fwd.agedAt = u.time.now ∧ ∀ l,
        let old (e : FwdEntry) : Bool := e.valid && !e.static_ && !s.fwdHit l
        (old (s.fwdRow l) = true → w.fwdRow l = { s.fwdRow l with valid := false })
        ∧ ((∀ e ∈ s.fwd.rows, e.1 = l → old e.2 = false) → w.fwdRow l = s.fwdRow l))))
  ∧ (Fast s → (s.flg Reg.fwdCfg 8 = false ∨ s.cxm.link = false) → ∀ f g,
    exec (.compareSweep t f) s = .next u ∧ exec (.contextCompareSweep t g) s = .next u)
  ∧ (Fast s → s.flg Reg.fwdCfg 8 = true → s.cxm.link = true →
    (s.cxm.staleFwd = false → u.time.now < s.fwd.comparedAt + 64 * msU → ∀ f, exec (.compareSweep t f) s = .next u)
    ∧ (s.cxm.staleFwd = false → s.fwd.comparedAt + 64 * msU ≤ u.time.now → u.thisCycle s.fwd.wroteAt = false →
      (∀ l f, f ∈ [[.differs l], [.uncorrectable l]] → u.fwdDiffer f = [] → Gives (.compareSweep t f) s (fun w =>
        w.fwdRow l = s.fwd.shadow.get (fun _ => {}) l ∧ (∀ k, k ≠ l → w.fwdRow k = s.fwdRow k) ∧ w.fwd.used = []
          ∧ w.fwd.comparedAt = u.time.now))
      ∧ (∀ l f, f = [.shadowLost l] → u.fwdDiffer f = [] → Gives (.compareSweep t f) s (fun w =>
        w.fwd.shadow.get (fun _ => {}) l = s.fwdRow l ∧ (∀ k, w.fwdRow k = s.fwdRow k) ∧ w.fwd.used = []))
      ∧ (∀ l f, f = [.uncorrectable l, .shadowLost l] → u.fwdDiffer f = [] → Gives (.compareSweep t f) s (fun w =>
        w.fwdRow l = { s.fwdRow l with valid := false } ∧ (∀ k, k ≠ l → w.fwdRow k = s.fwdRow k) ∧ w.fwd.used = []))
      ∧ Gives (.compareSweep t []) s (fun w => (∀ k, k ∈ u.fwdDiffer [] → w.fwdRow k = s.fwd.shadow.get (fun _ => {}) k)
        ∧ (∀ k, k ∉ u.fwdDiffer [] → w.fwdRow k = s.fwdRow k) ∧ w.fwd.used = [] ∧ w.fwd.comparedAt = u.time.now))
    ∧ (s.cxm.staleFwd = true → ∀ f, Gives (.compareSweep t f) s (fun w => w.fwd.shadow = w.fwd.rows ∧ w.cxm.staleFwd = false
      ∧ (∀ l, l ∈ s.fwd.bad → (w.fwdRow l).valid = false) ∧ (∀ l, l ∉ s.fwd.bad → w.fwdRow l = s.fwdRow l)))
    ∧ (s.cxm.staleCtx = true → ∀ f, Gives (.contextCompareSweep t f) s (fun w => w.ctxShadow = s.ctx ∧ w.ctx = s.ctx ∧ w.cxm.staleCtx = false))
    ∧ (s.cxm.staleCtx = false → u.time.now < s.cxm.ctxComparedAt + 64 * msU → ∀ f, exec (.contextCompareSweep t f) s = .next u)
    ∧ (s.cxm.staleCtx = false → s.cxm.ctxComparedAt + 64 * msU ≤ u.time.now → ∀ tb k,
      (∀ f, f ∈ [[.differs tb k], [.uncorrectable tb k]] → Gives (.contextCompareSweep t f) s (fun w =>
        w.ctx = s.ctxShadow.copyLine s.ctx k tb ∧ w.ctxShadow = s.ctxShadow ∧ w.cxm.ctxComparedAt = u.time.now))
      ∧ Gives (.contextCompareSweep t [.shadowLost tb k]) s (fun w => w.ctxShadow = s.ctx.copyLine s.ctxShadow k tb ∧ w.ctx = s.ctx)
      ∧ Gives (.contextCompareSweep t [.uncorrectable tb k, .shadowLost tb k]) s (fun w =>
        w.ctx = ({} : CtxTables).copyLine s.ctx k tb ∧ w.ctxShadow = ({} : CtxTables).copyLine s.ctxShadow k tb)))
  ∧ (∀ (x : Slot) (f : Flush), WaitsOn s x → s.fwd.flushes.find? (fun w => w.slot == x.id) = some f →
    (f.more = none → ∃ w, exec (.flushWalkDone t x.id) s = .next w ∧ Completed s x Status.ok f.removed w
      ∧ w.fwd.flushes = s.fwd.flushes.filter (fun w => w.slot != x.id))
    ∧ (∀ cur, f.more = some cur → x.resOk = true → ∃ w, exec (.flushWalkDone t x.id) s = .next w
      ∧ Completed s x Status.flushMore f.removed w ∧ .dma x.aux (toLe 4 cur) ∈ w.outs))

/-- R259, R260, R262, R263, R268, R492: the Hub gives a lone request its cell, and does nothing where its copies disagree; a cell in
order is read, one ahead of its place is held, one behind it is discarded, and one whose CRC fails or that stays absent for 64 core
cycles after a later one is skipped; a frame that has waited 100 ms at its VOQ's head goes; a residue copy that is ready enters its queue,
with its colour, or is a port-down drop, and old ones go. -/
def Obligations.HubRows : Prop := ∀ (s : State) (t : Nat), Fast s →
  let u := s.begin t
  (∀ (plane : Fin 4), Gives (.hubSlot t plane true) s (fun w => w.sw.voqs = s.sw.voqs ∧ w.sw.cells = s.sw.cells ∧ w.sw.ptr = s.sw.ptr)
    ∧ (∀ i e c, i < 8 → e < 8 → c < 8 → ((List.range 8).foldl State.withholdUpdate u).hubRequests = [(i, e, c)] →
      Gives (.hubSlot t plane false) s (fun w => ∃ mc, let k := voqKey i e c mc
        (s.voq k).sendable u.time.now = true ∧ (w.voq k).seq = ((s.voq k).seq + 1) % 2 ^ 24 ∧ w.sw.cells = s.sw.cells
          ++ [{ voq := k, seq := (s.voq k).seq, pieces := (buildCell u.time.now 240 ((s.voq k).frames.map (VFrame.stampReq u.time.now))).1 }])))
  ∧ (∀ k c p, let r := s.reseq k
    s.sw.cells.find? (fun x => x.voq == k && x.seq == c.seq) = some c → (s.slice (k / 16 % 8)).unit = .running →
    (r.behind c.seq = true → ∀ ok, exec (.egressCell t k c.seq ok) s = .next { u with sw := { s.sw with cells := s.sw.cells.erase c } })
    ∧ (r.held = [] → r.lost = [] → r.next = c.seq →
      (c.pieces = [p] → p.off = 0 → p.len ≠ p.frame.bytes → Gives (.egressCell t k c.seq true) s (fun w =>
        w.reseq k = { next := (c.seq + 1) % 2 ^ 24, part := some p.len } ∧ w.sw.cells = s.sw.cells.erase c ∧ w.sw.queues = s.sw.queues))
      ∧ Gives (.egressCell t k c.seq false) s (fun w =>
        w.reseq k = { next := (c.seq + 1) % 2 ^ 24, part := none } ∧ w.sw.cells = s.sw.cells.erase c ∧ w.sw.queues = s.sw.queues))
    ∧ (r.held = [] → r.lost = [] → r.next ≠ c.seq → r.behind c.seq = false →
      Gives (.egressCell t k c.seq true) s (fun w => w.reseq k = { r with held := [(c, u.time.now)] } ∧ w.sw.cells = s.sw.cells.erase c)
      ∧ Gives (.egressCell t k c.seq false) s (fun w => w.reseq k = { r with lost := [c.seq] } ∧ w.sw.cells = s.sw.cells.erase c)))
  ∧ (∀ k, let r := s.reseq k
    let late := r.held.any (fun c => decide (c.2 + 64 * cycleU ≤ u.time.now))
    (late = false → exec (.cellLost t k) s = .next u)
    ∧ (late = true → r.held.all (fun c => c.1.seq != (r.next + 1) % 2 ^ 24) = true → r.lost.contains ((r.next + 1) % 2 ^ 24) = false →
      Gives (.cellLost t k) s (fun w => w.sw.queues = s.sw.queues
        ∧ w.reseq k = { r with next := (r.next + 1) % 2 ^ 24, part := none, lost := r.lost.filter (fun n => n != r.next) })))
  ∧ (∀ k f rest, (s.voq k).frames = f :: rest → f.headAt + 100 * msU ≤ u.time.now →
    Gives (.voqAge t k) s (fun w => (w.voq k).frames.map (·.id) = rest.map (·.id) ∧ (∀ j, j ≠ k → w.voq j = s.voq j)))
  ∧ (∀ (es : SliceIx) q r, (s.residueOf es.val).find? (fun x => x.queue == q) = some r → s.queueReady q = true →
    let v := u.setResidue es.val ((s.residueOf es.val).erase r)
    (r.epoch ≠ (s.swPort r.port).epoch → exec (.residueEnqueue t es q) s = .next (v.portDownCount q))
    ∧ (r.epoch = (s.swPort r.port).epoch → exec (.residueEnqueue t es q) s = .next (v.queueAdmit q r.pkt { yellow := r.yellow, ylim := r.ylim } r.portId)))
  ∧ (∀ (es : SliceIx), let limit := min 10000 (s.fld Reg.swMc 15 0) * usU
    Gives (.mcResidue t es) s (fun w => w.residueOf es.val = (s.residueOf es.val).filter (fun r => decide (u.time.now < r.since + limit))
      ∧ (∀ l, l ≠ es.val → w.residueOf l = s.residueOf l) ∧ w.sw.queues = s.sw.queues))

/-- R270, R271, R285, R291, R294, R296: a flush ends; a port that waits only for its minimum down time or its flush comes up; the pick
of a channel and of an uplink port, made on the shapers, records and credits as they stood before the commands of its core cycle, takes the
head of one queue and no other frame; a gate list moves to the entry of the presented time,
and a pending one takes its place at its change point. -/
def Obligations.PickRows : Prop := ∀ (s : State) (t : Nat), Fast s →
  let u := s.begin t
  (∀ (sp : Fin 272), (s.swPort sp.val).flush ≠ none →
    ((sp.val < 192 ∨ 256 ≤ sp.val) → exec (.flushEnd t sp) s = .next (u.setSwPort sp.val { s.swPort sp.val with flush := none }))
    ∧ (192 ≤ sp.val → sp.val < 256 → Gives (.flushEnd t sp) s (fun w => (w.swPort sp.val).flush = none)))
  ∧ (∀ (p : PortIx), u.mayRise p.val = true → (s.port p.val).held = true → (s.port p.val).up = false →
    Gives (.portMinimumDownExpiry t p) s (fun w => w.port p.val = { s.port p.val with up := true, lastEligible := u.time.now }
      ∧ (w.swPort (192 + p.val)).downAt = none ∧ ∀ k, k ≠ p.val → w.port k = s.port k))
  ∧ (let o := if s.tm.old.cycle = u.cycle then u.swapOld else u
    (∀ (c : Chan), let v := (o.backlog c.val).foldl (fun (s : State) q => State.dropOversize q (s.queue q).frames.length s) o
      let asks := (s.ch c.val).framing && decide (8 ≤ (s.ch c.val).space) && (s.ch c.val).pend.isEmpty
        && (s.slice (c.val / 24)).unit == .running && o.shaperOk (shaperKey 4 c.val)
      (asks = false → Gives (.schedulerPick t c) s (fun w => w.sw = s.sw ∧ w.cph = s.cph ∧ w.chans = s.chans))
      ∧ (∀ n q f a b, asks = true → v.pickNode c.val = some (n, a) → a.nodePick c.val n = some (q, f, b) →
        Gives (.schedulerPick t c) s (fun w => (w.queue q).frames = (v.queue q).frames.drop 1
          ∧ ∀ k, k ≠ q → (w.queue k).frames = (v.queue k).frames)))
    ∧ (∀ (p : PortIx), let v := o.portSettle p.val
      (o.portSends p.val = false → Gives (.uplinkPick t p) s (fun w => w.sw = s.sw ∧ w.upl = s.upl))
      ∧ (∀ q f a, o.portSends p.val = true → v.portPick p.val = some (q, f, a) →
        Gives (.uplinkPick t p) s (fun w => (w.queue q).frames = (v.queue q).frames.drop 1
          ∧ (∀ k, k ≠ q → (w.queue k).frames = (v.queue k).frames)
          ∧ (w.port p.val).txFw = none ∧ (w.port p.val).lastEligible = u.time.now))))
  ∧ (∀ target l, u.runningList target = some l → Gives (.gateChange t target) s (fun w =>
      w.gatesOf target = { s.gatesOf target with entry := l.entryAt u.time.presentNow } ∧ w.ctx = s.ctx))
  ∧ (∀ target l at256, (s.gatesOf target).pending = some (l, at256) → u.gclChangeAt target l at256 ≤ u.time.presentNow →
    Gives (.gclChangePoint t target) s (fun w => (w.gatesOf target).pending = none
      ∧ w.operList target = (if l.entries = [] then none else some l)
      ∧ (l.entries ≠ [] → (w.gatesOf target).entry = l.entryAt u.time.presentNow)))

/-! ## Uplink ports and lanes -/

/-- R355, R359 to R362: EN is refused with its reason, or sets the lanes leaving Kickstand; EN 0 takes the port down with cause 1 and into
Kickstand; the lanes then adapt; the port is up once its conditions have held for UP_HOLD and R271 lets it; a port that stays down
starts again every RECOV × 10 ms. Remote Fault is sent while the receive side is not aligned. -/
def Obligations.PortRows : Prop := ∀ (s : State) (t : Nat) (p : PortIx),
  let u := s.begin t
  let x := s.port p.val
  let now := u.time.now
  (Reaches s .other → s.portEn p.val = false →
    (s.uplRefusal p.val = if 64 < s.lanesPerPort * (p.val + 1) then 1 else if s.lanesPerPort = 1 ∧ s.fld Reg.uplCfg 1 0 p.val = 3 then 2
      else if s.fld Reg.uplLock 22 20 p.val = 0 ∨ s.fld Reg.uplLock 18 16 p.val = 0 ∨ s.fld Reg.uplLock 15 8 p.val = 0
        ∨ s.fld Reg.uplLock 7 0 p.val = 0 then 3 else 0)
    ∧ (s.uplRefusal p.val ≠ 0 → exec (.portEnable t .host p) s
      = .next ((u.setPort p.val { x with refuse := s.uplRefusal p.val }).bump .uplRefusedEnables p.val))
    ∧ (s.uplRefusal p.val = 0 → exec (.portEnable t .host p) s
      = .next ((u.setBit Reg.uplCtrl 0 true p.val).setPort p.val { x.kickstand with leaving := some now, downSince := now })))
  ∧ (Reaches s .other → s.portEn p.val = true → Gives (.portDisable t .host p) s (fun w => w.portEn p.val = false
      ∧ (w.port p.val).lanes = [] ∧ (w.port p.val).up = false ∧ (w.port p.val).deskewed = false
      ∧ (x.up = true → (w.port p.val).cause = 1 ∧ (w.swPort (192 + p.val)).epoch = ((s.swPort (192 + p.val)).epoch + 1) % 65536)
      ∧ ∀ k, k ≠ p.val → w.port k = s.port k))
  ∧ (Fast s → s.portEn p.val = true → x.leaving ≠ none → Gives (.kickstandExitDone t p) s (fun w =>
      let y := { x with
        leaving := none, lanes := List.replicate s.lanesPerPort { state := .adapting, los := decide (s.fld Reg.uplMon 11 4 p.val ≠ 0) } }
      w.port p.val = { y with rfSent := y.localFault } ∧ (y.localFault ≠ x.rfSent → .remoteFault p.val y.localFault ∈ w.outs)
        ∧ ∀ k, k ≠ p.val → w.port k = s.port k))
  ∧ (Fast s → ∀ b, x.holdSince = some b → now < b + s.fld Reg.uplCfg 23 16 p.val * 100 * usU → exec (.upHoldExpiry t p) s = .next u)
  ∧ (Fast s → ∀ b, x.holdSince = some b → b + s.fld Reg.uplCfg 23 16 p.val * 100 * usU ≤ now → x.up = false → u.mayRise p.val = true →
    Gives (.upHoldExpiry t p) s (fun w => w.port p.val = { x with held := true, up := true, lastEligible := now }
      ∧ ∀ k, k ≠ p.val → w.port k = s.port k))
  ∧ (Fast s → (s.portEn p.val = false ∨ x.up = true ∨ s.fld Reg.uplCfg 31 24 p.val = 0
    ∨ now < x.downSince + s.fld Reg.uplCfg 31 24 p.val * 10 * msU) → exec (.recoveryCycle t p) s = .next u)
  ∧ (Fast s → s.portEn p.val = true → x.up = false → s.fld Reg.uplCfg 31 24 p.val ≠ 0 →
    x.downSince + s.fld Reg.uplCfg 31 24 p.val * 10 * msU ≤ now →
    Gives (.recoveryCycle t p) s (fun w => w.port p.val = { x.kickstand with leaving := some now, downSince := now } ∧ w.sw = s.sw))

/-- R360, R361, R363, R364, 13 Tables 3 and 4: a lane adapts, and locks after as many headers or markers as
its thresholds ask; with the last lock the port is deskewed; the loss of lock, a skew above 180 ns and four fault sequences take an up port
down, each with its cause, and its epoch in the switch core moves on; a lane in Freewheel loses no lock. No other port changes. -/
def Obligations.LaneRows : Prop := ∀ (s : State) (t : Nat) (p : PortIx) (j : Fin 8), Fast s →
  let u := s.begin t
  let x := s.port p.val
  let l := s.lane p.val j.val
  let others (w : State) : Prop := ∀ k, k ≠ p.val → w.port k = s.port k
  let down (w : State) (cause : Nat) : Prop := (w.port p.val).up = false ∧ (w.port p.val).cause = cause
    ∧ (w.swPort (192 + p.val)).epoch = ((s.swPort (192 + p.val)).epoch + 1) % 65536 ∧ (w.swPort (192 + p.val)).flush ≠ none ∧ others w
  (s.laneRuns p.val j.val = true → l.state = .adapting → l.los = false →
    exec (.adaptationDone t p j) s = .next (u.setPort p.val (x.setLane s.lanesPerPort j.val (fun l => { l with state := .running }))))
  ∧ (∀ n, s.laneRuns p.val j.val = true → l.state ≠ .adapting → s.lockAt p.val ≤ n → Gives (.laneLock t p ⟨j, n⟩) s (fun w => (w.lane p.val j.val).lock = true
      ∧ ((∀ i, i < s.lanesPerPort → i ≠ j.val → (s.lane p.val i).lock = true) → (w.port p.val).deskewed = true)
      ∧ others w))
  ∧ (∀ n, (s.laneRuns p.val j.val = false ∨ l.state = .adapting ∨ n < s.lockAt p.val) → exec (.laneLock t p ⟨j, n⟩) s = .next u)
  ∧ (∀ n, (s.laneRuns p.val j.val = false ∨ l.lock = false ∨ l.state = .freewheel ∨ n < s.lossAt p.val) →
    exec (.lockLoss t p ⟨j, n⟩) s = .next u)
  ∧ (∀ n, s.laneRuns p.val j.val = true → l.lock = true → l.state ≠ .freewheel → x.up = true → s.lossAt p.val ≤ n →
    Gives (.lockLoss t p ⟨j, n⟩) s (fun w => down w (if s.noFec p.val then 4 else 5) ∧ (w.lane p.val j.val).lock = false ∧ (w.port p.val).deskewed = false))
  ∧ (∀ skew, skew ≤ 180000 → exec (.deskewFail t ⟨p, skew⟩) s = .next u)
  ∧ (∀ skew, 180000 < skew → s.portEn p.val = true → x.deskewed = true → x.up = true → Gives (.deskewFail t ⟨p, skew⟩) s (fun w => down w 6
      ∧ (w.port p.val).deskewed = false ∧ (w.port p.val).lanes = x.lanes.map (fun l => { l with lock := false })))
  ∧ (s.portEn p.val = true → (s.lanesOf p.val).all (·.lock) = true → x.up = true →
    Gives (.localFault t p) s (fun w => down w 7 ∧ (w.port p.val).lf = true ∧ (w.port p.val).lanes = x.lanes)
    ∧ Gives (.remoteFault t p) s (fun w => down w 8 ∧ (w.port p.val).rf = true ∧ (w.port p.val).lanes = x.lanes))
  ∧ (∀ a b, Gives (.faultSequencesEnd t p a b) s (fun w => (w.port p.val).lf = (x.lf && !a) ∧ (w.port p.val).rf = (x.rf && !b)
      ∧ (w.port p.val).lanes = x.lanes))

/-- R366 to R368, R370, R371: LOS and LOL stand on a lane from their detection to their clearing, and under `UPL_MON.SRC` other than 1 take
the port down with causes 2 and 3; an eye sweep leaves its openings, and the second below EYE_FAIL takes the port down with cause 9
where SRC is not 0. After LPI the receiver enters Freewheel, which ends with the signal or, after FW_MAX, in LOS; the transmitter
enters it after FW_IDLE and leaves it for an eligible frame. -/
def Obligations.MonitorRows : Prop := ∀ (s : State) (t : Nat) (p : PortIx) (j : Fin 8), Fast s →
  let u := s.begin t
  let x := s.port p.val
  let l := s.lane p.val j.val
  let src := s.monSrc p.val
  let fall (w : State) (cause : Nat) : Prop := x.up = true → (w.port p.val).up = false ∧ (w.port p.val).cause = cause
  (s.laneRuns p.val j.val = true → l.los = false →
    (∀ mv lpi, s.fld Reg.uplMon 11 4 p.val ≤ mv → exec (.losDetect t p ⟨j, mv⟩ lpi) s = .next u)
    ∧ (∀ mv lpi, mv < s.fld Reg.uplMon 11 4 p.val → l.state ≠ .freewheel →
      (lpi = false ∨ l.state ≠ .running ∨ s.fld Reg.uplLock 31 24 p.val = 0) → Gives (.losDetect t p ⟨j, mv⟩ lpi) s (fun w => (w.lane p.val j.val).los = true ∧ (src ≠ 1 → fall w 2)))
    ∧ (∀ mv, mv < s.fld Reg.uplMon 11 4 p.val → l.state = .running → s.fld Reg.uplLock 31 24 p.val ≠ 0 →
      Gives (.losDetect t p ⟨j, mv⟩ true) s (fun w => (w.lane p.val j.val).state = .freewheel ∧ (w.lane p.val j.val).los = false
        ∧ (w.port p.val).up = x.up ∧ (w.port p.val).rxFwLanes = x.rxFwLanes ++ [j.val])))
  ∧ (s.laneRuns p.val j.val = true → l.los = true → ∀ mv,
    (mv ≤ s.fld Reg.uplMon 11 4 p.val → exec (.losClear t p ⟨j, mv⟩) s = .next u)
    ∧ (s.fld Reg.uplMon 11 4 p.val < mv → Gives (.losClear t p ⟨j, mv⟩) s (fun w => (w.lane p.val j.val).los = false)))
  ∧ (s.laneRuns p.val j.val = true → l.lol = false → l.state = .running →
    Gives (.lolDetect t p j) s (fun w => (w.lane p.val j.val).lol = true ∧ (src ≠ 1 → fall w 3)))
  ∧ (s.laneRuns p.val j.val = true → l.lol = true → Gives (.lolClear t p j) s (fun w => (w.lane p.val j.val).lol = false))
  ∧ (∀ h v, s.laneRuns p.val j.val = true → l.state = .running → s.fld Reg.uplMon 31 24 p.val ≠ 0 →
    Gives (.eyeSweep t p j h v) s (fun w => (w.lane p.val j.val).eyeH = h.val ∧ (w.lane p.val j.val).eyeV = v.val
      ∧ (h.val < s.fld Reg.uplMon 23 18 p.val → 1 ≤ l.low → (w.lane p.val j.val).fail = true ∧ (l.fail = false → src ≠ 0 → fall w 9))))
  ∧ (j.val < s.lanesPerPort → l.state = .freewheel →
    (u.fwMaxOver p.val = true → Gives (.fwMaxExpiry t p j) s (fun w => (w.lane p.val j.val).los = true
      ∧ (w.lane p.val j.val).state = .running ∧ (src ≠ 1 → fall w 2)))
    ∧ (u.fwMaxOver p.val = false → Gives (.receiveFreewheelExit t p j) s (fun w => (w.lane p.val j.val).state = .running
      ∧ (w.port p.val).up = x.up ∧ (w.port p.val).rxFwLanes = x.rxFwLanes.filter (· != j.val))))
  ∧ (s.flg Reg.uplCfg 7 p.val = true → x.up = true → x.txFw = none → u.portEligible p.val = false →
    x.lastEligible + s.fld Reg.uplCfg 15 8 p.val * usU ≤ u.time.now →
    exec (.transmitFreewheelEntry t p) s = .next ((u.setPort p.val { x with txFw := some u.time.now }).emit (.lineIdle p.val true false)))
  ∧ (∀ b, x.txFw = some b → u.portEligible p.val = true → exec (.transmitFreewheelExit t p) s
    = .next ((u.setPort p.val { x with txFw := none, lastEligible := u.time.now }).emit
        (.lineIdle p.val false (decide (b + usU ≤ u.time.now)))))

/-! ## Cipher subsystem, OAM, device memory and time -/

/-- R28, R301, R303, R304, R311, R312, R326, R497: the dispatcher puts the next queued request, keystream before frames and the slices in
rotation, into a running cluster with room, in the lane with the shorter queue, or wakes a cluster; a request that ends leaves its lane, and
keystream for a burst stands complete; one that has waited 100 µs fails, counted and raised; a generation that no request is bound to is
zeroised, and the KEY_ERASE that waited for it completes; an overlap ends; a corrupt slot is emptied and its generation moves on. -/
def Obligations.CipherRows : Prop := ∀ (s : State) (t : Nat),
  let u := s.begin t
  let now := u.time.now
  (Fast s → s.cph.waiting = [] →
    let order := (List.range 8).map (fun i => (s.cph.rot + 1 + i) % 8)
    let first (frame : Bool) := order.findSome? (fun sl => (s.queuedReqs sl frame).head?)
    let runs := (List.range 32).find? (fun n => s.clusterUsable n && (s.cluster n).unit == .running && (s.cluster n).room)
    let gated := (List.range 32).find? (fun n => s.clusterUsable n && (s.cluster n).unit == .stopped)
    let waking := (List.range 32).any (fun n => (s.cluster n).unit == .waking)
    (first false = none → first true = none → exec (.cipherDispatch t) s = .next u)
    ∧ (∀ r, (first false = some r ∨ (first false = none ∧ first true = some r)) →
      (∀ n, runs = some n → s.reqOf r.id = some r →
        Gives (.cipherDispatch t) s (fun w => w.cph.rot = r.slice ∧
          let a := s.cluster n
          let one := decide (a.lane1.length < a.lane0.length)
          w.cluster n = { a with lane0 := if one then a.lane0 else a.lane0 ++ [r.id], lane1 := if one then a.lane1 ++ [r.id] else a.lane1 }
          ∧ w.reqOf r.id = some { r with
              phase := .placed n (b2n one)
              endsAt := if (if one then a.lane1 else a.lane0) = [] then some (now + r.laneTime * cycleU) else r.endsAt }
          ∧ (∀ k, k ≠ n → w.cluster k = s.cluster k)))
      ∧ (runs = none → (waking = true ∨ gated = none) → exec (.cipherDispatch t) s = .next u)
      ∧ (∀ n, runs = none → waking = false → gated = some n → u.thisCycle (s.cluster n).stoppedAt = false →
        exec (.cipherDispatch t) s = .next ((u.setCluster n { s.cluster n with unit := .waking }).bump .cphWakes n))
      ∧ (∀ n, runs = none → waking = false → gated = some n → u.thisCycle (s.cluster n).stoppedAt = true →
        Gives (.cipherDispatch t) s (fun w => w.cph.rot = r.slice ∧ (w.cluster n).unit = .running
          ∧ (w.cluster n).lane0.length + (w.cluster n).lane1.length = (s.cluster n).lane0.length + (s.cluster n).lane1.length + 1))))
  ∧ (Fast s → ∀ id r n l e, s.reqOf id = some r → r.phase = .placed n l → r.endsAt = some e →
    ((now < e ∨ s.reqRuns r = false) → ∀ fault, exec (.cipherRequestDone t id fault) s = .next u)
    ∧ (e ≤ now → s.reqRuns r = true →
      (∀ fault, Gives (.cipherRequestDone t id fault) s (fun w =>
        if l = 0 then (w.cluster n).lane0 = (s.cluster n).lane0.filter (· != id) else (w.cluster n).lane1 = (s.cluster n).lane1.filter (· != id)))
      ∧ (∀ c, r.user = .mic c → ∀ fault, Gives (.cipherRequestDone t id fault) s (fun w => w.reqOf id = none))
      ∧ (∀ c k j i, r.user = .upKs c k j i →
        Gives (.cipherRequestDone t id false) s (fun w => w.reqOf id = some { r with phase := .complete, output := s.ksKey r })
        ∧ Gives (.cipherRequestDone t id true) s (fun w => w.reqOf id = none))))
  ∧ (Fast s → ∀ id r, s.reqOf id = some r →
    ((r.phase = .complete ∨ now < r.queuedAt + 100 * usU) → exec (.cphLate t id) s = .next u)
    ∧ (r.phase ≠ .complete → r.queuedAt + 100 * usU ≤ now → Gives (.cphLate t id) s (fun w =>
      (id < s.cph.nextReq → w.reqOf id = none) ∧ (s.host.inReset = false → r.slice < 8 → w.flg (Reg.hifInt (6 + r.slice)) 9 = true))))
  ∧ (∀ k m, (s.keySlot k).retired = some m →
    let bound := s.cph.reqs.any (fun r => r.boundTo k (some m.gen))
    (Fast s → bound = true → exec (.retiredGenerationZeroise t k) s = .next u)
    ∧ (Fast s → bound = false → exec (.retiredGenerationZeroise t k) s = .next (u.setKeySlot k { s.keySlot k with retired := none }))
    ∧ (∀ x, WaitsOn s x → bound = false → x.opcode = Op.keyErase → leAt (x.buf.getD []) 0 4 = k →
      ∃ w, exec (.retiredGenerationZeroise t k) s = .next w ∧ Completed s x Status.ok 0 w ∧ (w.keySlot k).retired = none))
  ∧ (Fast s → ∀ k x, (s.ep k).oldUntil = some x →
    (x ≤ now → exec (.overlapExpiry t k) s = .next (u.setEp k { s.ep k with oldUntil := none }))
    ∧ (now < x → exec (.overlapExpiry t k) s = .next u))
  ∧ (Fast s → ∀ k, k < 131072 → s.cph.reqs = [] → Gives (.keyStoreCheck t [k]) s (fun w =>
      w.keySlot k = { cur := { gen := ((s.keySlot k).cur.gen + 1) % 65536, written := s.cph.order + 1 } }
      ∧ ∀ j, j ≠ k → w.keySlot j = s.keySlot j))

/-- R339, R340, R345, R346, R349 to R351: a CCM that is due goes toward the side that the endpoint faces, with its sequence number and its RDI,
and is judged by each other endpoint of its group here; one that is not due stays. At a check of the timers each remote that has been silent
for 3.5 periods enters dLOC, and dLOF and dAIS end when what they stand for has been absent for 3.5 of its periods. An AIS that is due on a side
goes there, or is counted where the endpoint has none there. -/
def Obligations.OamRows : Prop := ∀ (s : State) (t : Nat) (n : Fin 16384), Fast s → s.oamOn = true → (s.mep n.val).valid = true →
  let u := s.begin t
  let m := s.mep n.val
  let now := u.time.now
  let rdi := m.lof.isSome || m.remotes.any (·.loc)
  let quiet (x period : Nat) : Bool := decide (x + threeAndHalf period ≤ now)
  ((m.ccmAt = none ∨ ∃ b, m.ccmAt = some b ∧ b + ccmPeriod m.period ≤ now) →
    ((∀ e ∈ s.ctx.meps, e.1 ≠ n.val → e.2.valid = true → e.2.meg ≠ m.meg) →
      exec (.ccmTransmit t n) s = .next (((u.setMep n.val { m with seq := (m.seq + 1) % 2 ^ 32, ccmAt := some now }).bump .mepCCMsSent n.val).oamSend
        n.val m.face m.level (ccmPdu m.level rdi m.period m.seq m.mepid (s.meg m.meg).id)))
    ∧ ∀ (k : Fin 16384), let p := s.mep k.val
      k ≠ n → p.valid = true → p.meg = m.meg → p.level = m.level → p.period = m.period →
      ∀ r, p.remotes.find? (fun r => r.mepid == m.mepid) = some r → r.loc = false → Gives (.ccmTransmit t n) s (fun w =>
        w.mep k.val = { p with remotes := p.remotes.map (fun x => if x.mepid = m.mepid then { r with last := now, rdi := rdi } else x) }
        ∧ w.mep n.val = { m with seq := (m.seq + 1) % 2 ^ 32, ccmAt := some now }))
  ∧ (∀ b, m.ccmAt = some b → now < b + ccmPeriod m.period → exec (.ccmTransmit t n) s = .next u)
  ∧ (now < m.checkAt + ccmPeriod m.period / 8 → exec (.receiveTimerCheck t n) s = .next u)
  ∧ (m.checkAt + ccmPeriod m.period / 8 ≤ now → Gives (.receiveTimerCheck t n) s (fun w =>
      w.mep n.val = { m with
        checkAt := now
        remotes := m.remotes.map (fun x =>
          if m.remotes.any (fun r => r.mepid == x.mepid && !r.loc && quiet r.last (ccmPeriod m.period)) then { x with loc := true, locAt := now } else x)
        lof := if quiet m.lofLast (ccmPeriod m.period) then none else m.lof
        ais := m.ais && !quiet m.aisLast (aisPeriod m.aisRxPer) }
      ∧ ∀ k, k ≠ n.val → w.mep k = s.mep k))
  ∧ (let due (side : Bool) : Prop := s.aisStarts m side ≠ [] ∧ ∀ l, (if side then m.aisTermLast else m.aisNetLast) = some l →
      (∃ x ∈ s.aisStarts m side, l < x) ∨ l + aisPeriod m.aisPer ≤ now
    ((m.aisEn = false ∨ (¬due true ∧ ¬due false)) → exec (.aisTransmit t n) s = .next u)
    ∧ ∀ side, m.aisEn = true → due side → ¬due (!side) →
      let v := u.setMep n.val (if side then { m with aisTermLast := some now } else { m with aisNetLast := some now })
      ((if side then m.termEn else m.netEn) = true → exec (.aisTransmit t n) s
        = .next ((v.bump .mepAisSent n.val).oamSend n.val side m.aisLevel (aisPdu m.aisLevel m.aisPer)))
      ∧ ((if side then m.termEn else m.netEn) = false → exec (.aisTransmit t n) s = .next (v.bump .mepAisNotSentForAMissingSide n.val)))
  ∧ (m.aisEn = true → (∀ side, s.aisStarts m side ≠ []) → m.aisTermLast = none → m.aisNetLast = none → Gives (.aisTransmit t n) s (fun w =>
      w.mep n.val = { m with aisTermLast := some now, aisNetLast := some now }))

/-- R397 to R401: an expander that passes the port's checks becomes device memory, and every shadow is stale; one that fails one leaves
ERR; the loss of the link takes it away; a write through BAR2 that lies in the host region of the open device is stored, and one outside
it is dropped and counted. -/
def Obligations.DeviceMemoryRows : Prop := ∀ (s : State) (t : Nat), Awake s →
  let u := s.begin t
  (s.flg Reg.cxmCtrl 0 = true → s.cxm.link = false →
    (∀ t3 dec gib dir, expanderErr t3 dec gib ≠ 0 →
      exec (.cxmLinkUp t t3 dec gib dir) s = .next { u with cxm := { s.cxm with err := expanderErr t3 dec gib } })
    ∧ (∀ gib, 16 ≤ gib → gib ≤ 1024 → Gives (.cxmLinkUp t true true gib true) s (fun w => w.cxm =
        { s.cxm with link := true, cap := gib, err := 0, directory := true, staleFwd := true, staleCtx := true }
      ∧ w.records = s.records ∧ w.ctxShadow = s.ctxShadow))
    ∧ exec (.cxmTrainingFailed t) s = .next { u with cxm := { s.cxm with err := 4 } })
  ∧ (s.cxm.link = true → Gives (.cxmDown t) s (fun w => w.cxm = { s.cxm with link := false, cap := 0 } ∧ w.ctx = s.ctx
      ∧ w.fwd.rows = s.fwd.rows))
  ∧ (∀ off data, (s.life.opened = false ∨ s.life.pwr ≠ .running ∨ s.host.inReset = true) →
    exec (.bar2Write t off data) s = .next (u.bump .xBar2Drop 0))
  ∧ (∀ off data, s.life.opened = true → s.life.pwr = .running → s.host.inReset = false → s.cxm.link = false →
    exec (.bar2Write t off data) s = .next (u.bump .devDeviceMemoryWritesDropped 0))
  ∧ (∀ off data, s.life.opened = true → s.life.pwr = .running → s.host.inReset = false → s.cxm.link = true →
    (s.hostRegion ≤ off → off + data.length ≤ s.cxm.cap * 2 ^ 30 → Gives (.bar2Write t off data) s (fun w =>
      (∀ i, i < data.length → w.cxm.mem.get (fun _ => 0) (off + i) = data.getD i 0)
      ∧ (∀ a, (a < off ∨ off + data.length ≤ a) → w.cxm.mem.get (fun _ => 0) a = s.cxm.mem.get (fun _ => 0) a)
      ∧ w = { u with cxm := { s.cxm with mem := w.cxm.mem } }))
    ∧ (s.cxm.cap * 2 ^ 30 < off + data.length → exec (.bar2Write t off data) s = .next (u.bump .xBar2Drop 0))
    ∧ (off < s.hostRegion → exec (.bar2Write t off data) s = .next (u.bump .xBar2Drop 0)))

/-- R403, R406, R410, R416, R417, R421, R423: a pending TIME_SET takes effect at its tick and completes; TIM_LATCH holds the counter and
the presented time; the loss of REFCLK_PON stops the counter until edges come again; PPS_OUT rises at a whole second for WIDTH ms; a
selected edge of PPS_IN is stamped, and one within 500 ms of the last is counted; an output resumes after HOLD, and a gate leaves its
offset. -/
def Obligations.TimeRows : Prop := ∀ (s : State) (t : Nat),
  let u := s.begin t
  let now := u.time.now
  (∀ (x : Slot) (p : TimeSet), WaitsOn s x → s.time.pending = [p] → p.slot = x.id → u.time.ahead p.at_ = 0 →
    let te := u.time.fullTick p.at_
    (p.op = 1 → 0 ≤ u.time.present (te * 256) + p.delta → ∃ w, exec (.timeSetTakeEffect t) s = .next w ∧ Completed s x Status.ok 0 w
      ∧ w.time.pending = [] ∧ w.time.adj = s.time.adj ∧ w.time.tA = te ∧ w.time.off = u.time.present (te * 256) + p.delta)
    ∧ (p.op = 1 → u.time.present (te * 256) + p.delta < 0 → ∃ w, exec (.timeSetTakeEffect t) s = .next w
      ∧ Completed s x Status.timeBad 0 w ∧ w.time.pending = [] ∧ w.time.adj = s.time.adj ∧ w.time.tA = s.time.tA ∧ w.time.off = s.time.off)
    ∧ (p.op = 2 → ∃ w, exec (.timeSetTakeEffect t) s = .next w ∧ Completed s x Status.ok 0 w ∧ w.time.pending = []
      ∧ w.time.adj = p.adj ∧ w.time.tA = te ∧ w.time.off = u.time.present (te * 256))
    ∧ (p.op = 0 → ∃ w, exec (.timeSetTakeEffect t) s = .next w ∧ Completed s x Status.ok 0 w ∧ w.time.pending = []
      ∧ w.time.adj = s.time.adj ∧ w.time.tA = te ∧ w.time.off = (((p.sec * 1000000000 + p.ns) * 65536 + p.sub : Nat) : Int)))
  ∧ (∀ v, Reaches s .select → bit v 0 = true → let x := splitTime u.time.presentNow
    exec (.timeLatch t .host v) s
      = .next { u with time := { u.time with hostLatch := { tick := u.time.tick, sec := x.1, ns := x.2.1, sub := x.2.2 } } })
  ∧ (Awake s →
    (s.time.refOk = true → Gives (.timRefLost t) s (fun w => w.time = { u.time with refOk := false }))
    ∧ (s.time.refOk = false → Gives (.refclkPonReturn t) s (fun w => w.time = { u.time with refOk := true }))
    ∧ (s.flg Reg.timPps 0 = true → 0 < s.fld Reg.timPps 31 16 → s.time.refOk = true → u.time.wholeSecond = true →
      exec (.ppsOut t) s = .next (({ u with time := { u.time with
        ppsOut := true, ppsFall := now + min (s.fld Reg.timPps 31 16) 999 * msU } }).emit (.ppsOut true)))
    ∧ ((s.flg Reg.timPps 0 = false ∨ s.fld Reg.timPps 31 16 = 0 ∨ s.time.refOk = false ∨ u.time.wholeSecond = false) →
      exec (.ppsOut t) s = .next u)
    ∧ (s.time.ppsOut = true → s.time.ppsFall ≤ now →
      exec (.ppsOutPulseEnd t) s = .next (({ u with time := { u.time with ppsOut := false } }).emit (.ppsOut false)))
    ∧ (∀ rising, s.flg Reg.timPps 1 = true → rising = !s.flg Reg.timPps 2 →
      (s.time.ppsIn = none → Gives (.ppsIn t rising) s (fun w => w.time = { u.time with ppsIn := some now }))
      ∧ (∀ l, s.time.ppsIn = some l → now < l + 500 * msU → exec (.ppsIn t rising) s = .next (u.bump .xPpsInEarly 0)))
    ∧ (∀ (n : Fin 2), (∀ b, (s.rclk n.val).clean = some b → s.rclkBad n.val = false → s.rclkClean n.val = true →
        b + s.fld (Reg.timRclk n.val) 31 24 * 10 * msU ≤ now →
        Gives (.rclkResume t n) s (fun w => (w.rclk n.val).squelched = false))
      ∧ (∀ f : Int, s.rclkSrc n.val ≤ 64 → s.time.refOk = true → exec (.frequencyGate t n f) s
        = .next (u.setRclk n.val { s.rclk n.val with foff := max (-(2 ^ 30 : Int)) (min f (2 ^ 30 - 1)) }))))

/-! ## The host interface -/

/-- R428, R430, R432: doorbells, enabling and disabling. A doorbell sets IDX; one below IDX by the modular comparison is ignored, counted
and raised; one that announces more than the ring holds, or on an event ring consumes what was not written, halts it with cause 8. An enable is refused with its cause, or the ring runs from
index 0; a disable drains it. -/
def Obligations.RingControl : Prop := ∀ (s : State) (t : Nat) (r : RingIx), Reaches s .hif →
  let u := s.begin t
  let q := s.ring r.val
  let cfg := Reg.hifRingCfg r.val
  (∀ idx, q.state = .running →
    let d := idxDiff (idx % 2 ^ 32) q.idx
    (d = 0 → exec (.doorbell t r idx) s = .next u)
    ∧ (2 ^ 31 ≤ d → exec (.doorbell t r idx) s = .next ((u.bump .xDoorbellBack r.val).raise 0 3))
    ∧ (0 < d → d < 2 ^ 31 → s.ringType r.val ≠ 3 → idxDiff (idx % 2 ^ 32) q.tail ≤ s.ringSize r.val →
      exec (.doorbell t r idx) s = .next (u.setRing r.val { q with idx := idx % 2 ^ 32 }))
    ∧ (0 < d → d < 2 ^ 31 → s.ringType r.val = 3 → let ahead := idxDiff (idx % 2 ^ 32) q.head
      ((0 < ahead ∧ ahead < 2 ^ 31) → Gives (.doorbell t r idx) s (fun w => (w.ring r.val).state = .halted ∧ (w.ring r.val).cause = 8))
      ∧ (¬(0 < ahead ∧ ahead < 2 ^ 31) → exec (.doorbell t r idx) s = .next (u.setRing r.val { q with idx := idx % 2 ^ 32 })))
    ∧ (0 < d → d < 2 ^ 31 → s.ringType r.val ≠ 3 → s.ringSize r.val < idxDiff (idx % 2 ^ 32) q.tail →
      Gives (.doorbell t r idx) s (fun w => (w.ring r.val).state = .halted ∧ (w.ring r.val).cause = 8)))
  ∧ (∀ idx, q.state ≠ .running → exec (.doorbell t r idx) s = .next u)
  ∧ (∀ v, let v0 := v % 2 ^ 31 + 2 ^ 31
      let s1 := u.setReg cfg (BitVec.ofNat 32 (v0 - v0 % 2 ^ 28 / 2 ^ 24 * 2 ^ 24))
      (s.ringEn r.val = true → exec (.ringEnable t r v) s = .next (s1.setBit cfg 31 true))
      ∧ (s.ringEn r.val = false →
      (q.state ≠ .draining → s1.ringRefusal r.val = 0 →
        exec (.ringEnable t r v) s = .next ((s1.setBit cfg 31 true).setRing r.val { state := .running }))
      ∧ (q.state ≠ .draining → s1.ringRefusal r.val ≠ 0 → exec (.ringEnable t r v) s
        = .next (((s1.setBit cfg 31 false).setRing r.val { q with cause := s1.ringRefusal r.val }).bump .xRingRefused r.val))
      ∧ (q.state = .draining → exec (.ringEnable t r v) s
        = .next (((s1.setBit cfg 31 false).setRing r.val { q with cause := 11 }).bump .xRingRefused r.val))))
  ∧ (s.ringEn r.val = true → let s1 := u.setBit cfg 31 false
    exec (.ringDisable t r) s = .next (({ s1 with cnt := { s.cnt with pages := s.cnt.pages.filter (fun p => p.ring != r.val) } } : State).setRing
      r.val { q with state := .draining, chain := 0 }))
  ∧ (s.ringEn r.val = false → exec (.ringDisable t r) s = .next u)
  ∧ (q.state ≠ .draining → exec (.ringDrainDone t r) s = .next u)
  ∧ (q.state = .draining → exec (.ringDrainDone t r) s = .next (u.setRing r.val { q with state := .idle }))

/-- R6, R429, R430, R431, R433, R435: a snooped doorbell line delivers the one word that changed. A descriptor read takes the 32 bytes of
the announced entry, little-endian, into its slot; one that fails a check of R435 is complete at once; a read that fails halts the ring with
cause 9. -/
def Obligations.RingFetch : Prop := ∀ (s : State) (t : Nat), s.host.slots = [] →
  let u := s.begin t
  (∀ (line : Fin 128) (words : List Nat) (j : Fin 8),
    let word (i : Nat) : Nat := (words.drop (2 * i)).headD 0 % 2 ^ 32
    let r := 8 * line.val + j.val
    s.host.inReset = false → s.host.cxl = true → s.flg Reg.hifCfg 0 = true → (s.ring r).state = .running → (s.ring r).word ≠ word j.val →
    (∀ i : Fin 8, i ≠ j → (s.ring (8 * line.val + i.val)).word = word i.val) →
    exec (.doorbellLineSnoop t line words) s = .next ((u.setRing r { s.ring r with word := word j.val }).deliverIdx r (word j.val)))
  ∧ (∀ (r : RingIx), s.fetches r.val = true → (s.ring r.val).idx % 2 ^ 32 ≠ (s.ring r.val).head % 2 ^ 32 →
    Gives (.descriptorFetch t r none) s (fun w => (w.ring r.val).state = .halted ∧ (w.ring r.val).cause = 9 ∧ w.host.slots = [])
    ∧ (∀ (b : List Byte), b.length = 32 →
      let x : Slot :=
      { id := s.host.nextSlot, ring := r.val, idx := (s.ring r.val).head, opcode := byteAt b 0, flags := byteAt b 1, spec := leAt b 2 2,
        len := leAt b 4 4, addr := leAt b 8 8, cookie := leAt b 16 8, aux := leAt b 24 8, phase := .fetched }
      (s.descFault r.val (byteAt b 0) = none → ∃ w, exec (.descriptorFetch t r (some b)) s = .next w
        ∧ w = { u with host := w.host } ∧ (w.ring r.val).head = ((s.ring r.val).head + 1) % 2 ^ 32 ∧ w.host.slots = [x])
      ∧ (∀ st, s.descFault r.val (byteAt b 0) = some st → ∃ w, exec (.descriptorFetch t r (some b)) s = .next w ∧ w.host.slots = []
        ∧ (w.ring r.val).tail = (x.idx + 1) % 2 ^ 32
        ∧ .completion r.val x.idx (s.ringCmpl r.val + 16 * (x.idx % s.ringSize r.val)) st 0 x.cookie
          (phaseOf (s.ringSize r.val) x.idx) false ∈ w.outs)))
  ∧ (∀ (r : RingIx) read, (s.fetches r.val = false ∨ (s.ring r.val).idx % 2 ^ 32 = (s.ring r.val).head % 2 ^ 32) →
    exec (.descriptorFetch t r read) s = .next u)

/-- R431, R448, R449, R492: interrupts. A ring's message is sent COAL_US after its first unsignalled entry; a write to HIF_INT clears the PEND
bits written 1 and stores MASK; a group's owed message is sent when its microsecond is over. An error of the link that ends a write to a
ring's memory halts that ring with cause 10; one of AER is reported in class 15. -/
def Obligations.InterruptRows : Prop := ∀ (s : State) (t : Nat), s.host.slots = [] →
  let u := s.begin t
  (∀ (r : RingIx) t0, let us := s.fld (Reg.hifRingCoal r.val) 31 16
    (s.ring r.val).firstUnsig = some t0 → us ≠ 0 →
    (t0 + us * usU ≤ u.time.now → exec (.interruptCoalesceTimer t r) s
      = .next ((u.setRing r.val { s.ring r.val with unsig := 0, firstUnsig := none }).emit
        (.msix (s.ringOwner r.val) (s.fld (Reg.hifRingCfg r.val) 10 0))))
    ∧ (u.time.now < t0 + us * usU → exec (.interruptCoalesceTimer t r) s = .next u))
  ∧ (∀ (g : Fin 16) v, Reaches s .hif → Gives (.hifIntWrite t g v) s (fun w => ∀ i : Fin 16,
      w.flg (Reg.hifInt g.val) i.val = (s.flg (Reg.hifInt g.val) i.val && !bit v i.val)
      ∧ w.flg (Reg.hifInt g.val) (16 + i.val) = bit v (16 + i.val)))
  ∧ (∀ (g : Fin 16) t0, s.groupDelivers g.val = true → s.intGroup g.val = { last := some t0, owed := true } →
    (t0 + usU ≤ u.time.now → Gives (.interruptGroupIntervalEnd t g) s (fun w =>
      w.outs = [.msix 0 (s.fld (Reg.hifIntv g.val) 10 0)] ∧ w.intGroup g.val = { last := some u.time.now, owed := false }
      ∧ w.regs = s.regs ∧ w.host.rings = s.host.rings))
    ∧ (u.time.now < t0 + usU → exec (.interruptGroupIntervalEnd t g) s = .next u))
  ∧ (Awake s → s.host.inReset = false → exec (.hostLinkError t .aer) s = .next (u.report { cls := 15, cause := .aer, site := siteHost }))
  ∧ (∀ (r : RingIx), Awake s → (s.ring r.val).state = .running → Gives (.hostLinkError t (.ringWrite r)) s (fun w =>
      (w.ring r.val).state = .halted ∧ (w.ring r.val).cause = 10 ∧ w.terms = s.terms ∧ w.ctx = s.ctx))

/-! ## Registers and channel control -/

/-- R7, R8, R511, R523, R527, R529, R531 to R534, R538: writes to BAR0 and BAR4. A write of another size or unaligned, through a closed
BAR0, over the management path, or through a window with an out-of-range select value is dropped and counted; any other stores the fields
that the access codes let it store, in the instance that the path's select register names; after the lock a changed RWL field is kept,
counted and raised. What is written where no register stands, or to a lane that a port does not have, is ignored. -/
def Obligations.RegisterWrites : Prop := ∀ (s : State) (t : Nat) (off v : Nat), s.host.slots = [] →
  let u := s.begin t
  let n := s.selected .host (winOf off)
  let put (x : State) (o : Nat) (r : RegRow) (w : Nat) : State :=
    (if r.violates x.life.locked (x.reg o n).toNat w then (x.bump .devLockedFieldWrites 0).raise 0 6 else x).setReg o
      (BitVec.ofNat 32 (r.store x.life.locked (x.reg o n).toNat w)) n
  let plain (o : Nat) (r : RegRow) : Prop :=
    regAt o = some r ∧ actsOnWrite o = false ∧ s.laneReserved o = false ∧ isSelect o = false
  (∀ bar size, Reaches s (regionOf off) → ¬(size = 4 ∧ off % 4 = 0) → ¬(size = 8 ∧ off % 8 = 0) →
    exec (.registerWrite t .host bar off size v) s = .next (u.bump .xBadSizeWrite 0))
  ∧ (s.hostAnswers = true → s.shows (regionOf off) = false → off % 4 = 0 →
    exec (.registerWrite t .host .pf0 off 4 v) s = .next (u.bump .xClosedWrite 0))
  ∧ (Awake s → regionOf off ≠ .mgt → regionOf off ≠ .flt → regionOf off ≠ .select → off % 4 = 0 → isHbmDly off = false →
    exec (.registerWrite t .mgmt .pf0 off 4 v) s = .next (u.bump .devManagementPathWritesDropped 0))
  ∧ (Reaches s (regionOf off) → off % 4 = 0 → winOf off ≠ .none → winLimit (winOf off) ≤ n →
    exec (.registerWrite t .host .pf0 off 4 v) s = .next ((u.bump .devOutOfRangeSelectDrops 0).raise 0 7))
  ∧ (∀ r, Reaches s (regionOf off) → off % 4 = 0 → n < winLimit (winOf off) → plain off r →
    exec (.registerWrite t .host .pf0 off 4 v) s = .next (put u off r (v % 2 ^ 32)))
  ∧ (∀ r, Reaches s (regionOf off) → off % 4 = 0 → isSelect off = true → regAt off = some r → actsOnWrite off = false →
    exec (.registerWrite t .host .pf0 off 4 v) s = .next (u.setReg off (BitVec.ofNat 32 (r.store s.life.locked (s.reg off 0).toNat (v % 2 ^ 32)))))
  ∧ (Reaches s (regionOf off) → off % 4 = 0 → n < winLimit (winOf off) → (s.laneReserved off = true ∨ regAt off = none) → actsOnWrite off = false →
    exec (.registerWrite t .host .pf0 off 4 v) s = .next u)
  ∧ (∀ r r', Reaches s (regionOf off) → Reaches s (regionOf (off + 4)) → off % 8 = 0 → n < winLimit (winOf off) → plain off r → plain (off + 4) r' →
    exec (.registerWrite t .host .pf0 off 8 v) s = .next (put (put u off r (v % 2 ^ 32)) (off + 4) r' (v / 2 ^ 32 % 2 ^ 32)))
  ∧ (s.hostAnswers = true → off % 4 = 0 → off < 32768 → exec (.registerWrite t .host .pf4 off 4 v) s
    = .next { u with host := { s.host with msix := s.host.msix.set (fun _ => 0) off (v % 2 ^ 32) } })

/-- 16, 17, 18, 19, 20 and 21: the rows that stand for a write to one register do what that write does. -/
def Obligations.NamedWrites : Prop := ∀ (s : State) (t v : Nat) (path : Path), v < 2 ^ 32 →
  let wr (p : Path) (off : Nat) : Host.Outcome State Fault Refusal := exec (.registerWrite t p .pf0 off 4 v) s
  (bit v 0 = true → wr path Reg.glbCtrl = exec (.setupLock t path) s ∧ wr .host Reg.glbPwr = exec (.standbyEntry t) s)
  ∧ (bit v 0 = false → wr .host Reg.glbPwr = exec (.standbyExit t) s)
  ∧ (∀ c : Chan, s.selected path .channel = c.val →
    wr path Reg.pchCtrl = if bit v 0 then exec (.channelEnable t path c) s
      else if s.flg Reg.pchCtrl 0 c.val then exec (.channelDisable t path c) s else exec (.channelReset t path c) s)
  ∧ wr path Reg.mgtMbxDb = exec (.mailboxDoorbell t path v) s
  ∧ wr path Reg.fltInj = exec (.faultInject t path v) s
  ∧ wr path Reg.cntSamp = exec (.cntSampWrite t path v) s
  ∧ (∀ n : Fin 64, wr path (Reg.hbmDly n.val) = exec (.hbmDlyWrite t path n v) s)
  ∧ (∀ g : Fin 16, wr .host (Reg.hifInt g.val) = exec (.hifIntWrite t g v) s)
  ∧ (∀ r : RingIx, wr .host (Reg.hifDoorbell r.val) = exec (.doorbell t r v) s)

/-- R7, R8, R531, R533, R538: the access codes. What a write stores: RW fields, and RWL fields until the lock; every other bit stays, and it
is a locked-field write where it would change an RWL field after the lock. A 1 written to a W1C field clears it and a 0 leaves it; a 0
written to the W1S field LOCK does nothing. The host's read of GNT_STAT returns PEAK and LAST of its selected channel and clears PEAK; the
management path's read, through its own select copy, clears nothing. Through a select value beyond the channels, or through a BAR0 that does
not show the register, all-ones are read and nothing is cleared; a path that does not answer reads nothing. -/
def Obligations.AccessCodes : Prop :=
  (∀ off r, regAt off = some r → ∀ locked old v i, old < 2 ^ 32 → v < 2 ^ 32 → i < 32 →
    bit (r.store locked old v) i = (if bit r.rw i || (bit r.rwl i && !locked) then bit v i else bit old i)
    ∧ (r.violates locked old v = true ↔ locked = true ∧ ∃ k < 32, bit r.rwl k = true ∧ bit old k ≠ bit v k))
  ∧ ∀ (s : State) (t : Nat),
  let u := s.begin t
  (∀ v, Reaches s .flt → exec (.registerWrite t .host .pf0 Reg.fltStat 4 (v % 2 ^ 32)) s
    = .next { u with flt := { s.flt with self := s.flt.self && !bit v 17 } })
  ∧ (∀ v, Reaches s .mgt → exec (.registerWrite t .host .pf0 Reg.mgtMbxStat 4 (v % 2 ^ 32)) s
    = .next { u with mgt := { s.mgt with mbx := { s.mgt.mbx with reply := s.mgt.mbx.reply && !bit v 0 } } })
  ∧ (∀ v, Reaches s .glb → bit v 0 = false → exec (.registerWrite t .host .pf0 Reg.glbCtrl 4 (v % 2 ^ 32)) s = .next u)
  ∧ (∀ (c : Chan), let g := s.gntCh c.val
    let word := g.peak % 2 ^ 16 * 2 ^ 16 + g.last % 2 ^ 16
    (Reaches s .other → s.selected .host .channel = c.val →
      exec (.gntStatRead t .host) s = .next ((u.emit (.read word)).setGnt c.val { g with peak := 0 }))
    ∧ (Awake s → s.selected .mgmt .channel = c.val → exec (.gntStatRead t .mgmt) s = .next (u.emit (.read word))))
  ∧ (s.host.slots = [] →
    (s.hostAnswers = false → exec (.gntStatRead t .host) s = .next u)
    ∧ (s.hostAnswers = true → (s.shows .other = false ∨ 192 ≤ s.selected .host .channel) →
      exec (.gntStatRead t .host) s = .next (u.emit (.read 0xFFFFFFFF)))
    ∧ ((s.life.por = true ∨ s.life.warm ≠ .none) → exec (.gntStatRead t .mgmt) s = .next u)
    ∧ (s.life.por = false → s.life.warm = .none → 192 ≤ s.selected .mgmt .channel →
      exec (.gntStatRead t .mgmt) s = .next (u.emit (.read 0xFFFFFFFF))))

/-- R44, R99, R103, R519 to R521: channel control. An enable meets its checks, and is refused with the lowest cause; a disable ends every
activation and makes every terminal in OPERATION LOST; a reset clears the channel and waits for its end, which checks an enable written
meanwhile; discovery is refused beyond the reach limits. Other channels keep their state. -/
def Obligations.ChannelControl : Prop := ∀ (s : State) (t : Nat) (c : Chan),
  let u := s.begin t
  let p := s.ch c.val
  let en := s.flg Reg.pchCtrl 0 c.val
  let others (w : State) : Prop := ∀ d : Chan, d ≠ c → w.ch d.val = s.ch d.val ∧ w.gntCh d.val = s.gntCh d.val
    ∧ w.flg Reg.pchCtrl 0 d.val = s.flg Reg.pchCtrl 0 d.val ∧ ∀ i < 256, w.term d.val i = s.term d.val i
  (Reaches s .other →
    (en = true → exec (.channelEnable t .host c) s = .next u)
    ∧ (en = false → p.resetting ≠ none → exec (.channelEnable t .host c) s = .next (u.setBit Reg.pchCtrl 0 true c.val))
    ∧ (en = false → p.resetting = none → s.enableRefusal c.val ≠ 0 → exec (.channelEnable t .host c) s
      = .next ((((u.setBit Reg.pchCtrl 0 false c.val).setCh c.val { p with refuse := s.enableRefusal c.val }).bump .chRefusedEnables c.val).raise
          (chanGroup c.val) 0))
    ∧ (en = false → p.resetting = none → s.enableRefusal c.val = 0 → Gives (.channelEnable t .host c) s (fun w =>
        w.flg Reg.pchCtrl 0 c.val = true ∧ (w.ch c.val).used = true ∧ w.terms = s.terms ∧ w.gnt = s.gnt ∧ others w))
    ∧ (en = false → exec (.channelDisable t .host c) s = .next u)
    ∧ (en = true → p.resetting = none → s.drl.moves = [] → Gives (.channelDisable t .host c) s (fun w =>
        w.flg Reg.pchCtrl 0 c.val = false ∧ (w.ch c.val).rounds = .idle ∧ (w.ch c.val).stopping = p.framing
        ∧ (∀ i < 256, (w.term c.val i).state ≠ .assigned ∧ (w.term c.val i).state ≠ .ranging
          ∧ ((w.term c.val i).state = .operation → (w.term c.val i).detached = true)) ∧ others w))
    ∧ (en = true → exec (.channelReset t .host c) s = if p.resetting.isSome then .next (u.bump .xChannelResetAgain c.val) else .next u)
    ∧ (en = false → p.resetting = none → s.drl.moves = [] → Gives (.channelReset t .host c) s (fun w =>
        (w.ch c.val).resetting ≠ none ∧ (w.ch c.val).framing = false ∧ (w.ch c.val).txDisable = true ∧ (w.gntCh c.val).maps = []
        ∧ (∀ i < 256, (w.term c.val i).state = .free ∨ (w.term c.val i).detached = true) ∧ others w))
    ∧ (let min_ := s.fld Reg.actReach 9 0 c.val
       let diff := s.fld Reg.actReach 25 16 c.val
      ((600 < min_ + diff ∨ 400 < diff ∨ s.fld Reg.actDisc 7 1 c.val < 8) →
        exec (.discoveryEnable t .host c) s = .next ((u.setBit Reg.actDisc 0 false c.val).bump .xDiscRefused c.val))
      ∧ (min_ + diff ≤ 600 → diff ≤ 400 → 8 ≤ s.fld Reg.actDisc 7 1 c.val → Gives (.discoveryEnable t .host c) s (fun w =>
        w.flg Reg.actDisc 0 c.val = true ∧ w.terms = s.terms ∧ others w))))
  ∧ (Fast s → p.resetting ≠ none → en = false →
    exec (.channelResetDone t c) s = .next (u.setCh c.val { p with resetting := none, used := false }))
  ∧ (Fast s → p.resetting ≠ none → en = true → s.enableRefusal c.val ≠ 0 → Gives (.channelResetDone t c) s (fun w =>
      w.flg Reg.pchCtrl 0 c.val = false ∧ (w.ch c.val).resetting = none ∧ (w.ch c.val).refuse = s.enableRefusal c.val))

/-! ## Management, telemetry and faults -/

/-- R458, R461, R463, 17 Table 4: the mailbox and its queries. A doorbell during a pending request is ignored and counted; during a switch
the answer is BUSY; an OP that is not served is answered BAD_OP, or RECOVERY. GET_INFO, GET_SENSORS and LOG_READ answer with their data;
LOG_READ of 0 entries is BAD_LEN, of more than 127 BAD_ARG; a length that does not match is BAD_LEN. -/
def Obligations.MailboxQueries : Prop := ∀ (s : State) (t : Nat),
  let u := s.begin t
  (∀ v, Reaches s .mgt →
    (s.mgt.mbx.pending ≠ none → exec (.mailboxDoorbell t .host v) s = .next (u.bump .mgtIgnoredDoorbells 0))
    ∧ (s.mgt.mbx.pending = none → s.mgt.switching = true →
      Gives (.mailboxDoorbell t .host v) s (fun w => Replied (u.bump .mgtMailboxRequests 0) w (v % 65536) 1 []))
    ∧ (s.mgt.mbx.pending = none → s.mbxServes = true → s.mgt.recovery = false → mbxOps.contains s.reqOp = false →
      Gives (.mailboxDoorbell t .host v) s (fun w => Replied (u.bump .mgtMailboxRequests 0) w (v % 65536) 2 []))
    ∧ (s.mgt.mbx.pending = none → s.mbxServes = true → s.mgt.recovery = true → recoveryOps.contains s.reqOp = false →
      Gives (.mailboxDoorbell t .host v) s (fun w => Replied (u.bump .mgtMailboxRequests 0) w (v % 65536) 8 []))
    ∧ (s.mgt.mbx.pending = none → s.mbxServes = true → s.mgt.recovery = false → mbxOps.contains s.reqOp = true →
      exec (.mailboxDoorbell t .host v) s = .next { u.bump .mgtMailboxRequests 0 with
        mgt := { s.mgt with mbx := { s.mgt.mbx with pending := some (v % 65536) } } }))
  ∧ (∀ seq, ServesOp s 0x0001 seq → s.reqLen = 0 → Gives (.getInfo t) s (fun w => Replied u w seq 0
      (Config.infoBody [s.mgt.slot, s.slotFw 0, s.slotSec 0, s.slotFw 1, s.slotSec 1, b2n (s.slotValid 0), b2n (s.slotValid 1), 3])))
  ∧ (∀ seq, ServesOp s 0x0001 seq → s.reqLen ≠ 0 → Gives (.getInfo t) s (fun w => Replied u w seq 3 []))
  ∧ (∀ seq, ServesOp s 0x0002 seq → s.reqLen = 0 → Gives (.getSensors t) s (fun w => Replied u w seq 0 s.sensorBytes))
  ∧ (∀ seq, ServesOp s 0x0002 seq → s.reqLen ≠ 0 → Gives (.getSensors t) s (fun w => Replied u w seq 3 []))
  ∧ (∀ seq, ServesOp s 0x0003 seq → s.reqLen ≠ 6 → Gives (.logRead t) s (fun w => Replied u w seq 3 []))
  ∧ (∀ seq, ServesOp s 0x0003 seq → s.reqLen = 6 →
    let n := s.reqAt 20 2
    let l := s.logFrom (s.reqAt 16 4) n
    (n = 0 → Gives (.logRead t) s (fun w => Replied u w seq 3 []))
    ∧ (127 < n → Gives (.logRead t) s (fun w => Replied u w seq 4 []))
    ∧ (0 < n → n ≤ 127 → Gives (.logRead t) s (fun w => Replied (u.logReturned l) w seq 0 (l.flatMap LogEntry.bytes))))

/-- R455, R456, R459, R463, R464: the mailbox's updates. IMG_WRITE programs the slot that does not run, and nothing else of flash; IMG_VERIFY
makes a valid slot activable; IMG_ACTIVATE writes the preference and starts the switch; DLY_WRITE writes the board
delay record; WARM_RESET starts the 1 ms. A length that does not match is BAD_LEN; a write of no data is OK and changes nothing. -/
def Obligations.MailboxUpdates : Prop := ∀ (s : State) (t seq : Nat),
  let u := s.begin t
  let slot := s.reqAt 16 1
  (ServesOp s 0x0010 seq → 8 < s.reqLen → s.reqLen ≤ 4080 →
    let off := s.reqAt 20 4
    let n := s.reqLen - 8
    let base := slotBase slot + off
    ((1 < slot ∨ s.runningSlot = some slot) → ∀ ok, Gives (.imgWrite t ok) s (fun w => Replied u w seq 7 []))
    ∧ (slot ≤ 1 → s.runningSlot ≠ some slot → (off % 8 ≠ 0 ∨ 8388608 < off + n) → ∀ ok, Gives (.imgWrite t ok) s (fun w => Replied u w seq 4 []))
    ∧ (slot ≤ 1 → s.runningSlot ≠ some slot → off % 8 = 0 → off + n ≤ 8388608 →
        (off = 0 ∨ ((s.imgSlot slot).fresh = true ∧ (s.imgSlot slot).written.any (overlap (off, n)) = false)) →
      Gives (.imgWrite t true) s (fun w => Replied (u.imgProgram slot off (s.reqBody 8 n)) w seq 0 []
        ∧ (∀ k < n, w.flashAt (base + k) = s.mgt.mbx.request.get (fun _ => 0) (24 + k))
        ∧ ∀ a, a < slotBase slot ∨ slotBase slot + 8388608 ≤ a → w.flashAt a = s.flashAt a)
      ∧ Gives (.imgWrite t false) s (fun w => .reply seq 6 [] ∈ w.outs
        ∧ ∀ a, a < slotBase slot ∨ slotBase slot + 8388608 ≤ a → w.flashAt a = s.flashAt a)))
  ∧ (ServesOp s 0x0010 seq → s.reqLen = 8 → ∀ ok, Gives (.imgWrite t ok) s (fun w => Replied u w seq 0 []))
  ∧ (ServesOp s 0x0010 seq → (s.reqLen < 8 ∨ 4080 < s.reqLen) → ∀ ok, Gives (.imgWrite t ok) s (fun w => Replied u w seq 3 []))
  ∧ (ServesOp s 0x0011 seq → s.reqLen ≠ 1 → Gives (.imgVerify t) s (fun w => Replied u w seq 3 []))
  ∧ (ServesOp s 0x0012 seq → s.reqLen ≠ 1 → ∀ ok, Gives (.imgActivate t ok) s (fun w => Replied u w seq 3 []))
  ∧ (ServesOp s 0x0012 seq → s.reqLen = 1 → 1 < slot → ∀ ok, Gives (.imgActivate t ok) s (fun w => Replied u w seq 4 []))
  ∧ (ServesOp s 0x0020 seq → s.reqLen ≠ 196 → ∀ ok, Gives (.dlyWrite t ok) s (fun w => Replied u w seq 3 []))
  ∧ (ServesOp s 0x0030 seq → s.reqLen ≠ 4 → Gives (.warmReset t) s (fun w => Replied u w seq 3 []))
  ∧ (ServesOp s 0x0011 seq → s.reqLen = 1 →
    (slot ≤ 1 → Gives (.imgVerify t) s (fun w => Replied (u.setImgSlot slot { s.imgSlot slot with verified := s.slotValid slot }) w seq 0
      (Config.verifyBody (s.slotValid slot))))
    ∧ (1 < slot → Gives (.imgVerify t) s (fun w => Replied u w seq 4 [])))
  ∧ (ServesOp s 0x0012 seq → s.reqLen = 1 → slot ≤ 1 →
    ((s.imgSlot slot).verified = false → ∀ ok, Gives (.imgActivate t ok) s (fun w => Replied u w seq 5 []))
    ∧ ((s.imgSlot slot).verified = true →
      Gives (.imgActivate t true) s (fun w => .reply seq 0 [] ∈ w.outs ∧ w.mgt.switching = true ∧ w.mgt.ready = false
        ∧ w.mgt.previous = some s.mgt.slot ∧ w.flashBytes 0 4 = toLe 4 slot ∧ (∀ a, 8 ≤ a → w.flashAt a = s.flashAt a)
        ∧ w.mgt.slotA.fresh = false ∧ w.mgt.slotB.fresh = false)
      ∧ Gives (.imgActivate t false) s (fun w => .reply seq 6 [] ∈ w.outs ∧ w.mgt.switching = s.mgt.switching
        ∧ ∀ a, 8 ≤ a → w.flashAt a = s.flashAt a)))
  ∧ (ServesOp s 0x0020 seq → s.reqLen = 196 →
    Gives (.dlyWrite t true) s (fun w => .reply seq 0 [] ∈ w.outs
      ∧ (∀ k < 196, w.flashAt (0x1000 + k) = s.mgt.mbx.request.get (fun _ => 0) (16 + k))
      ∧ (∀ a, a < 0x1000 ∨ 0x2000 ≤ a → w.flashAt a = s.flashAt a) ∧ w.life = s.life)
    ∧ Gives (.dlyWrite t false) s (fun w => .reply seq 6 [] ∈ w.outs ∧ ∀ a, a < 0x1000 ∨ 0x2000 ≤ a → w.flashAt a = s.flashAt a))
  ∧ (ServesOp s 0x0030 seq → s.reqLen = 4 →
    (s.reqAt 16 4 = 0x52535457 →
      Gives (.warmReset t) s (fun w => Replied { u with life := { s.life with warmDue := some (u.time.now + msU) } } w seq 0 []))
    ∧ (s.reqAt 16 4 ≠ 0x52535457 → Gives (.warmReset t) s (fun w => Replied u w seq 4 [])))

/-- R462: SECVER_COMMIT raises the fused minimum security version, a thermometer code, to the SEC_VER of the running image, and clears no fuse.
It is answered DENIED, and fuses nothing, when the other slot holds a valid image of lower SEC_VER, unless byte 0 of the request is 1. -/
def Obligations.SecverCommit : Prop := ∀ (s : State) (t seq : Nat), ServesOp s 0x0013 seq →
  let u := s.begin t
  let other := 1 - s.mgt.slot
  let denied := s.slotValid other = true ∧ s.slotSec other < s.mgt.secVer ∧ s.reqAt 16 1 ≠ 1
  let f := Nat.lor s.life.fuseSecv (2 ^ s.mgt.secVer - 1) % 2 ^ 64
  (s.reqLen ≠ 1 → Gives (.secverCommit t) s (fun w => Replied u w seq 3 []))
  ∧ (s.reqLen = 1 → Gives (.secverCommit t) s (fun w => (denied → Replied u w seq 7 [])
    ∧ (¬denied → Replied { u with life := { s.life with fuseSecv := f } } w seq 0 (Config.minimumBody (popcount 64 f))
      ∧ (∀ i, i < 64 → w.life.fuseSecv.testBit i = (s.life.fuseSecv.testBit i || decide (i < s.mgt.secVer))))))

/-- R454, R458 to R461: the Tandem restarts. A lockstep mismatch starts a restart, answers a pending request BUSY and leaves the data plane
alone; the firmware of the slot that the ROM takes ends the switch, with its versions, which the row names, and a BOOT entry; where that slot is not valid, or has not
set READY within 2 s, the previous one returns with its preference; recovery is entered while no firmware runs and no slot is valid. -/
def Obligations.TandemRows : Prop := ∀ (s : State) (t : Nat), Awake s →
  let u := s.begin t
  (∀ memory, Gives (.mgtLockstep t memory) s (fun w => w.mgt.switching = true ∧ w.mgt.ready = false ∧ w.mgt.previous = none
      ∧ w.mgt.mbx.pending = none ∧ (∀ seq, s.mgt.mbx.pending = some seq → .reply seq 1 [] ∈ w.outs) ∧ w.terms = s.terms
      ∧ w.chans = s.chans ∧ w.sw = s.sw ∧ w.fwd = s.fwd ∧ w.ctx = s.ctx ∧ w.life = s.life))
  ∧ (let next := if s.mgt.switching = false then none
      else if s.mgt.previous.isSome then (if s.slotValid s.bootSlot then some s.bootSlot else none)
      else if s.slotValid s.bootSlot then some s.bootSlot else if s.slotValid (1 - s.bootSlot) then some (1 - s.bootSlot) else none
    ∀ fw sv, Gives (.imageSwitchDone t fw sv) s (fun w => ((∀ slot, next = some slot → ¬(s.slotFw slot = fw ∧ s.slotSec slot = sv)) → w = u)
      ∧ ∀ slot, next = some slot → s.slotFw slot = fw → s.slotSec slot = sv → w.mgt.ready = true ∧ w.mgt.switching = false
      ∧ w.mgt.recovery = false ∧ w.mgt.slot = slot ∧ w.mgt.fwVer = s.slotFw slot ∧ w.mgt.secVer = s.slotSec slot
      ∧ w.mgt.previous = none ∧ w.mgt.held = [] ∧ w.life.opened = true ∧ (∃ e ∈ w.mgt.log, e.code = .boot)
      ∧ (s.host.inReset = false → w.flg (Reg.hifInt 2) 1 = true ∧ (s.mgt.previous ≠ none → w.flg (Reg.hifInt 2) 2 = true))
      ∧ w.terms = s.terms ∧ w.sw = s.sw))
  ∧ (let fails := s.mgt.switching = true ∧ (s.slotValid s.bootSlot = false ∨ s.mgt.switchAt + 2 * secU ≤ u.time.now)
    ∀ fw sv, Gives (.imgFallback t fw sv) s (fun w => ((s.mgt.previous = none ∨ ¬fails) → w = u) ∧ ∀ slot, s.mgt.previous = some slot → fails →
      let good := s.slotValid slot = true ∧ s.slotFw slot = fw ∧ s.slotSec slot = sv
      (¬good → w = u)
      ∧ (good → w.mgt.ready = true
      ∧ w.mgt.switching = false ∧ w.mgt.slot = slot ∧ w.mgt.fwVer = s.slotFw slot ∧ w.mgt.secVer = s.slotSec slot ∧ w.mgt.previous = none
      ∧ w.flashBytes 0 4 = toLe 4 slot ∧ (∃ e ∈ w.mgt.log, e.code = .imgFallback)
      ∧ (s.host.inReset = false → w.flg (Reg.hifInt 2) 1 = true ∧ w.flg (Reg.hifInt 2) 3 = true))))
  ∧ (let none_ := s.slotValid s.bootSlot = false ∧ s.slotValid (1 - s.bootSlot) = false
    Gives (.bootRecovery t) s (fun w => ((s.mgt.ready = true ∨ ¬none_) → w = u)
      ∧ (s.mgt.ready = false → none_ → w.mgt.recovery = true ∧ w.mgt.switching = false
      ∧ w.mgt.previous = none ∧ (s.host.inReset = false → w.flg (Reg.hifInt 2) 3 = true) ∧ w.mgt.flash = s.mgt.flash ∧ w.life = s.life)))

/-- R469, R472, 17 Table 6: the SMBus slave takes two bytes as its pointer and NACKs anything else; each JTAG instruction shifts out what
it selects, and the ones that take the balls drive what was preloaded, or nothing. -/
def Obligations.SideBandRows : Prop := ∀ (s : State) (t : Nat), s.host.slots = [] →
  let u := s.begin t
  let j (i : JtagInstr) : State := { u with mgt := { s.mgt with jtag := { s.mgt.jtag with instr := i } } }
  let b := s.mgt.jtag.boundary
  (∀ d : List Byte, Awake s →
    (d.length = 2 → exec (.smbusWrite t d) s = .next (({ u with mgt := { s.mgt with smbusPtr := le d } } : State).emit (.smbus true)))
    ∧ (d.length ≠ 2 → exec (.smbusWrite t d) s = .next ((u.bump .mgtSMBusNACKs 0).emit (.smbus false))))
  ∧ exec (.bypass t) s = .next ((j .bypass).emit (.jtag 0 []))
  ∧ exec (.idcode t) s = .next ((j .idcode).emit (.jtag 0x3C1927AF []))
  ∧ (∀ pins preload, exec (.samplePreload t pins preload) s = .next
      (({ u with mgt := { s.mgt with jtag := { instr := .samplePreload, boundary := preload } } } : State).emit (.jtag 0 pins)))
  ∧ exec (.extest t) s = .next ((j .extest).emit (.jtag 0 b))
  ∧ exec (.extestPulse t) s = .next ((j .extestPulse).emit (.jtag 0 b))
  ∧ exec (.extestTrain t) s = .next ((j .extestTrain).emit (.jtag 0 b))
  ∧ exec (.clamp t) s = .next ((j .clamp).emit (.jtag 0 b))
  ∧ exec (.highz t) s = .next ((j .highz).emit (.jtag 0 []))

/-- R474 to R479, R484, R485, R487: the counter reader. A sweep that is due folds every listed counter into its accumulator, clears it, numbers
itself and rewrites every page, or is counted as skipped without device memory; a window closes every port's bandwidth values; one sample
record goes into every live page of its slice; a write to CNT_SAMP loads the LFSRs. -/
def Obligations.TelemetryRows : Prop := ∀ (s : State) (t : Nat),
  let u := s.begin t
  (Fast s → u.time.now < s.cnt.sweepAt + s.sweepPeriod → exec (.counterSweep t) s = .next u)
  ∧ (Fast s → s.cnt.sweepAt + s.sweepPeriod ≤ u.time.now → s.cxm.link = false → Gives (.counterSweep t) s (fun w =>
      w.cnt.sweep = s.cnt.sweep ∧ w.cnt.acc = s.cnt.acc ∧ w.cnt.sweepAt = u.time.now))
  ∧ (Fast s → s.cnt.sweepAt + s.sweepPeriod ≤ u.time.now → s.cxm.link = true → (∀ e ∈ s.cnt.local_, e.2 < 2 ^ 48 - 1) →
      (∀ e ∈ s.cnt.bw, e.1 < 532) → Gives (.counterSweep t) s (fun w =>
      w.cnt.sweep = s.cnt.sweep + 1 ∧ w.cnt.stat = (s.cnt.sweep + 1) % 2 ^ 32
      ∧ (∀ (c : Ctr) obj, c.kind < 17 → c.idx < 256 → obj < 2 ^ 32 → w.count c obj = 0
        ∧ (c.kind ≠ 6 → w.acc c obj % 2 ^ 64
          = (s.acc c obj + ((s.cnt.local_.filter (fun e => e.1 == c.key obj)).map (fun (e : Nat × Nat) => e.2)).sum) % 2 ^ 64))
      ∧ (s.fld Reg.cntBw 19 0 = 0 → ∀ i obj, i < 256 → obj < 2 ^ 32 → w.acc ⟨6, i⟩ obj = 0)
      ∧ (∀ p ∈ s.cnt.pages, p.kind ≠ 17 → (s.ring p.ring).state = .running →
        .dma (p.addr + 8) (w.pageRest p (u.time.tick % 2 ^ 64) (u.time.tick % 2 ^ 64)) ∈ w.outs
        ∧ .dma p.addr (toLe 8 (2 * (s.cnt.sweep + 1))) ∈ w.outs)))
  ∧ (let win := min (s.fld Reg.cntBw 19 0) 1000000
    (Fast s → (win = 0 ∨ u.time.now < s.cnt.winAt + win * usU) → exec (.bandwidthWindow t) s = .next u)
    ∧ (Fast s → win ≠ 0 → s.cnt.winAt + win * usU ≤ u.time.now → Gives (.bandwidthWindow t) s (fun w =>
      w = { u with cnt := { s.cnt with winAt := u.time.now, bw := w.cnt.bw } } ∧ ∀ k < 532,
        let d := s.cnt.bw.get (fun _ => {}) k
        w.cnt.bw.get (fun _ => {}) k = { cur := 0, last := d.cur, min := if d.windows = 0 then d.cur else Nat.min d.min d.cur,
                                         max := Nat.max d.max d.cur, windows := d.windows + 1 })))
  ∧ (∀ (sl : SliceIx) r rest, Fast s → s.cnt.samples.get (fun _ => []) sl.val = r :: rest → s.cnt.sampleAt + 250 * nsU ≤ u.time.now →
    Gives (.sampleRecordWrite t sl) s (fun w => w.cnt.samples.get (fun _ => []) sl.val = rest ∧ w.cnt.sampleAt = u.time.now
      ∧ ∀ p ∈ s.cnt.pages, p.kind = 17 → (p.first = sl.val ∨ p.first = 8) → (s.ring p.ring).state = .running →
        .dma (p.addr + 64 + 64 * (p.written % 63)) r ∈ w.outs ∧ .dma p.addr (toLe 8 (p.written + 1)) ∈ w.outs))
  ∧ (∀ v, Reaches s .other → Gives (.cntSampWrite t .host v) s (fun w => w.reg Reg.cntSamp = BitVec.ofNat 32 (v % 32)
      ∧ ∀ k < 8, w.cnt.lfsr.get (fun j => 0xACE10001 + j) k
        = let x := ((s.reg Reg.cntSeed).toNat + k) % 2 ^ 32
          if x = 0 then 1 else x))

/-- R119, R454, R491, R492, R498, R501, R502, 19 Tables 1, 3 and 7: faults. A watchdog completes the command in hand with DMA_ERR, or ends
what its state machine has in hand, and reports class 4; scrub reports what it corrects and what it cannot; a PLL that loses lock stops its
unit and reports class 9; an injection is met at once where the fast clocks run, is armed where they do not, and is ignored and counted
where it may not be made. -/
def Obligations.FaultRows : Prop := ∀ (s : State) (t : Nat),
  let u := s.begin t
  (∀ x, s.clocksRun = true → s.host.slots = [x] → x.phase = .ready → x.orphan = false → x.cmplOk = true → x.more = false →
    (s.ring x.ring).state = .running → ∃ w, exec (.watchdog t .commandEngine) s = .next w ∧ Completed s x Status.dmaErr 0 w)
  ∧ (Fast s → exec (.watchdog t .counterReader) s = .next ((u.bump .devSweepsSkipped 0).report { cls := 4, cause := .watchdog, site := siteHost }))
  ∧ (Fast s → exec (.watchdog t .commandEngine) s = .next (u.report { cls := 4, cause := .watchdog, site := siteHost }))
  ∧ (∀ x (f : Flush) rest, WaitsOn s x → s.fwd.flushes = f :: rest → f.slot = x.id → x.resOk = true →
    ∃ w, exec (.watchdog t .tableUpdate) s = .next w ∧ Completed s x Status.flushMore f.removed w
      ∧ (∀ cur, f.more = some cur → .dma x.aux (toLe 4 cur) ∈ w.outs))
  ∧ (Fast s → s.fwd.flushes = [] → exec (.watchdog t .tableUpdate) s = .next (u.report { cls := 4, cause := .watchdog, site := siteUpdate }))
  ∧ (∀ (c : Chan) (i : TermIx), Fast s → ((s.term c.val i.val).state = .assigned ∨ (s.term c.val i.val).state = .ranging) →
    Gives (.watchdog t (.activation c i)) s (fun w =>
      (w.term c.val i.val).state = if (s.term c.val i.val).wasLost then .lost else .free))
  ∧ (∀ (c : Chan) (i : TermIx) m, Fast s → s.moveFrom c.val i.val = some m → exec (.watchdog t (.balancer c i)) s
      = .next ((u.abortMove m .host).report { cls := 4, cause := .watchdog, site := siteChannel c.val, obj := ctxNo c.val i.val }))
  ∧ (∀ (c : Chan) (i : TermIx), Fast s → s.drl.moves = [] → exec (.watchdog t (.balancer c i)) s
      = .next (u.report { cls := 4, cause := .watchdog, site := siteChannel c.val, obj := ctxNo c.val i.val }))
  ∧ (∀ x : Site, Awake s → x.kind.val ≠ 4 → x.kind.val ≠ 8 →
    exec (.scrub t x false) s = .next (u.report { cls := 0, cause := .memCorrected, site := Site.code x, recovered := true })
    ∧ (∀ t0, s.flg Reg.fltCfg 0 = true → s.flt.corrected.get (fun _ => none) (Site.code x) = some t0 →
      (u.time.now < t0 + secU → exec (.scrub t x false) s = .next (u.bump .xCorrected (Site.code x)))
      ∧ (t0 + secU ≤ u.time.now → Gives (.scrub t x false) s (fun w =>
        w.flt.corrected.get (fun _ => none) (Site.code x) = some u.time.now
        ∧ (s.life.pwr = .running → s.host.inReset = false → w.flg (Reg.hifInt 1) 0 = true))))
    ∧ (x.kind.val ≠ 9 → exec (.scrub t x true) s = .next (u.report { cls := 1, cause := .memUncorrectable, site := Site.code x })))
  ∧ (∀ x : Site, Awake s → (x.kind.val = 8 ∨ x.kind.val = 4) → exec (.scrub t x false) s
    = .next ((u.bump (if x.kind.val = 8 then .mgtSramCorrectedErrors else .devPannierCorrectedErrors) 0).report
        { cls := 0, cause := .memCorrected, site := Site.code x, recovered := true }))
  ∧ (∀ x : Site, Awake s → x.kind.val = 4 → exec (.scrub t x true) s
    = .next (((u.bump .devPannierUncorrectableErrors 0).report { cls := 10, cause := .pannierUncorrectable, site := Site.code x }).raise 5 1))
  ∧ (∀ x : Site, Awake s → (x.kind.val = 8 → exec (.scrub t x true) s = exec (.mgtLockstep t true) s)
    ∧ (x.kind.val = 9 → Gives (.scrub t x true) s (fun w => w.flt.self = true)))
  ∧ (∀ (sl : SliceIx), Fast s → (s.slice sl.val).unit ≠ .stopped →
    let x := s.slice sl.val
    let empty := x.ingress = [] ∧ x.hostQ = [] ∧ x.mgmtQ = [] ∧ x.chain = [] ∧ s.sliceCells sl.val = false
    exec (.pllLockLoss t (.slice sl)) s
      = .next ((u.setSlice sl.val { x with unit := if empty then .stopped else .waking, stoppedAt := none }).report
          { cls := 9, cause := .pllLockLoss, site := siteSlice sl.val }))
  ∧ (∀ (n : ClusterIx), Fast s → (s.cluster n.val).unit ≠ .stopped → exec (.pllLockLoss t (.cluster n)) s
      = .next ((u.setCluster n.val { s.cluster n.val with
          unit := if (s.cluster n.val).idle then .stopped else .waking, stoppedAt := none }).report
          { cls := 9, cause := .pllLockLoss, site := siteCluster n.val }))
  ∧ (∀ (c : Chan), Fast s → (s.ch c.val).unit ≠ .stopped → Gives (.pllLockLoss t (.channel c)) s (fun w =>
      (w.ch c.val).unit ≠ .running ∧ (w.ch c.val).framing = false ∧ (w.ch c.val).planned = [] ∧ w.terms = s.terms
      ∧ ∀ d, d ≠ c.val → w.ch d = s.ch d))
  ∧ (Fast s → s.hbm.state = .running → exec (.pllLockLoss t .pannier) s
      = .next (({ u with hbm := { s.hbm with waking := true } } : State).report { cls := 9, cause := .pllLockLoss, site := siteStack 0 }))
  ∧ (∀ (p : PortIx), Fast s → Gives (.pllLockLoss t (.uplink p)) s (fun w =>
      (∀ j, j < s.lanesPerPort → s.laneRuns p.val j = true → (w.lane p.val j).lock = false)
      ∧ ((∃ j, j < s.lanesPerPort ∧ s.laneRuns p.val j = true ∧ (s.lane p.val j).lock = true) → (w.port p.val).up = false)
      ∧ ∀ k, k ≠ p.val → w.port k = s.port k))
  ∧ (∀ v, Reaches s .flt →
    let s1 := u.setReg Reg.fltInj (BitVec.ofNat 32 (bits v 28 28 * 2 ^ 28 + bits v 23 0))
    let kind := bits v 23 20
    (bit v 31 = false → exec (.faultInject t .host v) s = .next s1)
    ∧ (bit v 31 = true → (8 ≤ kind ∨ (bit v 28 = true ∧ s.life.locked = true)) → exec (.faultInject t .host v) s = .next (s1.bump .xInjIgnored 0))
    ∧ (bit v 31 = true → kind < 7 → (bit v 28 = false ∨ s.life.locked = false) → s.clocksRun = false → exec (.faultInject t .host v) s
      = .next { s1 with flt := { s.flt with inject := some (bit v 28, kind, bits v 19 0) } })
    ∧ (bit v 31 = true → bit v 28 = true → s.life.locked = false →
      (kind = 7 → exec (.faultInject t .host v) s = .next (s1.takeFree.2.lockstep true))
      ∧ (kind = 5 → s.clocksRun = true → exec (.faultInject t .host v) s = .next (s1.keyCorrupt (bits v 19 0 % 131072)))
      ∧ (kind = 2 → s.clocksRun = true → exec (.faultInject t .host v) s
        = .next (s1.takeFree.2.fwdLost (s1.takeFree.1 % 4 * 2 ^ 30 + bits v 19 0 % max 1 s.fwdRows))))
    ∧ (bit v 31 = true → bit v 28 = false → kind < 7 → kind ≠ 6 → s.clocksRun = true → Gives (.faultInject t .host v) s (fun w =>
      w.free = s.free + 1 ∧ w.flt.inject = s.flt.inject ∧ w.terms = s.terms ∧ w.ctx = s.ctx ∧ w.cph = s.cph)))

/-! ## The machine -/

/-- One step takes the command at the front of the queue and is exec of it with the queue's rest; on an empty queue the block idles (the
model's choice, log entry 9). No command of the table ends in a fault or a refusal. -/
def Obligations.StepRunsFront : Prop :=
  (∀ (c : Instr) (rest : List Instr) (s : State), step { s with pending := c :: rest } = exec c { s with pending := rest })
  ∧ (∀ s : State, s.pending = [] → step s = .next s)
  ∧ ∀ (c : Instr) (s : State), ∃ w, exec c s = .next w

/-- R433: every step keeps completions in ring order: whatever the step, a command that is done and whose completion is not yet written has an
older command of its ring before it that is not done. -/
def Obligations.CompletionOrder : Prop := ∀ s s' : State, OrderKept s → step s = .next s' → OrderKept s'

/-- R402, R510, R513, 16 Table 14 and the reset columns of the register tables: the device right after reset. Completions stand in order. -/
def Obligations.ResetState : Prop :=
  let r := State.reset
  r.pending = [] ∧ OrderKept r ∧ r.host.inReset = true ∧ r.host.slots = [] ∧ r.life.locked = false ∧ r.life.live = false
    ∧ r.life.opened = false ∧ r.life.pwr = .running ∧ r.mgt.ready = false ∧ r.time.tick = 0 ∧ r.hbm.state = .notStarted
    ∧ (∀ c i, (r.term c i).state = .free) ∧ (∀ c : Chan, (r.ch c.val).unit = .stopped ∧ r.flg Reg.pchCtrl 0 c.val = false)
    ∧ (∀ n, (r.ring n).state = .idle) ∧ (∀ k, r.fwdRow k = {}) ∧ (∀ c obj, r.count c obj = 0)
    ∧ (∀ g : Fin 16, r.reg (Reg.hifInt g.val) = 0xFFFF0000) ∧ r.reg (Reg.fwdSeed 0) = 0x9E3779B9 ∧ ∀ c : Chan, r.reg Reg.actDisc c.val = 0x820
end

