-- ==== Sys2Proof/Laws/State.lean ====
section
/-! SUPPORT. Laws/State.lean: what each named update of State leaves as it was, field by field (true by rfl), and what it
writes. -/

namespace Sys2Proof.Machine

theorem State.regs_only_pending (s : State) (x : Tab Word) : ({ s with regs := x } : State).pending = s.pending := rfl
theorem State.regs_only_outs (s : State) (x : Tab Word) : ({ s with regs := x } : State).outs = s.outs := rfl
theorem State.regs_only_free (s : State) (x : Tab Word) : ({ s with regs := x } : State).free = s.free := rfl
theorem State.regs_only_time (s : State) (x : Tab Word) : ({ s with regs := x } : State).time = s.time := rfl
theorem State.regs_only_life (s : State) (x : Tab Word) : ({ s with regs := x } : State).life = s.life := rfl
theorem State.regs_only_host (s : State) (x : Tab Word) : ({ s with regs := x } : State).host = s.host := rfl
theorem State.regs_only_flt (s : State) (x : Tab Word) : ({ s with regs := x } : State).flt = s.flt := rfl
theorem State.regs_only_cnt (s : State) (x : Tab Word) : ({ s with regs := x } : State).cnt = s.cnt := rfl
theorem State.regs_only_ctx (s : State) (x : Tab Word) : ({ s with regs := x } : State).ctx = s.ctx := rfl
theorem State.regs_only_ctxShadow (s : State) (x : Tab Word) : ({ s with regs := x } : State).ctxShadow = s.ctxShadow := rfl
theorem State.regs_only_records (s : State) (x : Tab Word) : ({ s with regs := x } : State).records = s.records := rfl
theorem State.regs_only_forgotten (s : State) (x : Tab Word) : ({ s with regs := x } : State).forgotten = s.forgotten := rfl
theorem State.regs_only_chans (s : State) (x : Tab Word) : ({ s with regs := x } : State).chans = s.chans := rfl
theorem State.regs_only_terms (s : State) (x : Tab Word) : ({ s with regs := x } : State).terms = s.terms := rfl
theorem State.regs_only_gnt (s : State) (x : Tab Word) : ({ s with regs := x } : State).gnt = s.gnt := rfl
theorem State.regs_only_phyFrame (s : State) (x : Tab Word) : ({ s with regs := x } : State).phyFrame = s.phyFrame := rfl
theorem State.regs_only_sdus (s : State) (x : Tab Word) : ({ s with regs := x } : State).sdus = s.sdus := rfl
theorem State.regs_only_allocs (s : State) (x : Tab Word) : ({ s with regs := x } : State).allocs = s.allocs := rfl
theorem State.regs_only_treeRot (s : State) (x : Tab Word) : ({ s with regs := x } : State).treeRot = s.treeRot := rfl
theorem State.regs_only_drl (s : State) (x : Tab Word) : ({ s with regs := x } : State).drl = s.drl := rfl
theorem State.regs_only_slices (s : State) (x : Tab Word) : ({ s with regs := x } : State).slices = s.slices := rfl
theorem State.regs_only_fwd (s : State) (x : Tab Word) : ({ s with regs := x } : State).fwd = s.fwd := rfl
theorem State.regs_only_sw (s : State) (x : Tab Word) : ({ s with regs := x } : State).sw = s.sw := rfl
theorem State.regs_only_tm (s : State) (x : Tab Word) : ({ s with regs := x } : State).tm = s.tm := rfl
theorem State.regs_only_cph (s : State) (x : Tab Word) : ({ s with regs := x } : State).cph = s.cph := rfl
theorem State.regs_only_upl (s : State) (x : Tab Word) : ({ s with regs := x } : State).upl = s.upl := rfl
theorem State.regs_only_hbm (s : State) (x : Tab Word) : ({ s with regs := x } : State).hbm = s.hbm := rfl
theorem State.regs_only_cxm (s : State) (x : Tab Word) : ({ s with regs := x } : State).cxm = s.cxm := rfl
theorem State.regs_only_mgt (s : State) (x : Tab Word) : ({ s with regs := x } : State).mgt = s.mgt := rfl

@[simp] theorem State.begin_pending (s : State) (t : Nat) : (s.begin t).pending = s.pending := rfl
@[simp] theorem State.begin_free (s : State) (t : Nat) : (s.begin t).free = s.free := rfl
@[simp] theorem State.begin_life (s : State) (t : Nat) : (s.begin t).life = s.life := rfl
@[simp] theorem State.begin_host (s : State) (t : Nat) : (s.begin t).host = s.host := rfl
@[simp] theorem State.begin_regs (s : State) (t : Nat) : (s.begin t).regs = s.regs := rfl
@[simp] theorem State.begin_flt (s : State) (t : Nat) : (s.begin t).flt = s.flt := rfl
@[simp] theorem State.begin_cnt (s : State) (t : Nat) : (s.begin t).cnt = s.cnt := rfl
@[simp] theorem State.begin_ctx (s : State) (t : Nat) : (s.begin t).ctx = s.ctx := rfl
@[simp] theorem State.begin_ctxShadow (s : State) (t : Nat) : (s.begin t).ctxShadow = s.ctxShadow := rfl
@[simp] theorem State.begin_records (s : State) (t : Nat) : (s.begin t).records = s.records := rfl
@[simp] theorem State.begin_forgotten (s : State) (t : Nat) : (s.begin t).forgotten = s.forgotten := rfl
@[simp] theorem State.begin_chans (s : State) (t : Nat) : (s.begin t).chans = s.chans := rfl
@[simp] theorem State.begin_terms (s : State) (t : Nat) : (s.begin t).terms = s.terms := rfl
@[simp] theorem State.begin_gnt (s : State) (t : Nat) : (s.begin t).gnt = s.gnt := rfl
@[simp] theorem State.begin_phyFrame (s : State) (t : Nat) : (s.begin t).phyFrame = s.phyFrame := rfl
@[simp] theorem State.begin_sdus (s : State) (t : Nat) : (s.begin t).sdus = s.sdus := rfl
@[simp] theorem State.begin_allocs (s : State) (t : Nat) : (s.begin t).allocs = s.allocs := rfl
@[simp] theorem State.begin_treeRot (s : State) (t : Nat) : (s.begin t).treeRot = s.treeRot := rfl
@[simp] theorem State.begin_drl (s : State) (t : Nat) : (s.begin t).drl = s.drl := rfl
@[simp] theorem State.begin_slices (s : State) (t : Nat) : (s.begin t).slices = s.slices := rfl
@[simp] theorem State.begin_fwd (s : State) (t : Nat) : (s.begin t).fwd = s.fwd := rfl
@[simp] theorem State.begin_sw (s : State) (t : Nat) : (s.begin t).sw = s.sw := rfl
@[simp] theorem State.begin_tm (s : State) (t : Nat) : (s.begin t).tm = s.tm := rfl
@[simp] theorem State.begin_cph (s : State) (t : Nat) : (s.begin t).cph = s.cph := rfl
@[simp] theorem State.begin_upl (s : State) (t : Nat) : (s.begin t).upl = s.upl := rfl
@[simp] theorem State.begin_hbm (s : State) (t : Nat) : (s.begin t).hbm = s.hbm := rfl
@[simp] theorem State.begin_cxm (s : State) (t : Nat) : (s.begin t).cxm = s.cxm := rfl
@[simp] theorem State.begin_mgt (s : State) (t : Nat) : (s.begin t).mgt = s.mgt := rfl

@[simp] theorem State.emit_pending (s : State) (o : Out) : (s.emit o).pending = s.pending := rfl
@[simp] theorem State.emit_free (s : State) (o : Out) : (s.emit o).free = s.free := rfl
@[simp] theorem State.emit_time (s : State) (o : Out) : (s.emit o).time = s.time := rfl
@[simp] theorem State.emit_life (s : State) (o : Out) : (s.emit o).life = s.life := rfl
@[simp] theorem State.emit_host (s : State) (o : Out) : (s.emit o).host = s.host := rfl
@[simp] theorem State.emit_regs (s : State) (o : Out) : (s.emit o).regs = s.regs := rfl
@[simp] theorem State.emit_flt (s : State) (o : Out) : (s.emit o).flt = s.flt := rfl
@[simp] theorem State.emit_cnt (s : State) (o : Out) : (s.emit o).cnt = s.cnt := rfl
@[simp] theorem State.emit_ctx (s : State) (o : Out) : (s.emit o).ctx = s.ctx := rfl
@[simp] theorem State.emit_ctxShadow (s : State) (o : Out) : (s.emit o).ctxShadow = s.ctxShadow := rfl
@[simp] theorem State.emit_records (s : State) (o : Out) : (s.emit o).records = s.records := rfl
@[simp] theorem State.emit_forgotten (s : State) (o : Out) : (s.emit o).forgotten = s.forgotten := rfl
@[simp] theorem State.emit_chans (s : State) (o : Out) : (s.emit o).chans = s.chans := rfl
@[simp] theorem State.emit_terms (s : State) (o : Out) : (s.emit o).terms = s.terms := rfl
@[simp] theorem State.emit_gnt (s : State) (o : Out) : (s.emit o).gnt = s.gnt := rfl
@[simp] theorem State.emit_phyFrame (s : State) (o : Out) : (s.emit o).phyFrame = s.phyFrame := rfl
@[simp] theorem State.emit_sdus (s : State) (o : Out) : (s.emit o).sdus = s.sdus := rfl
@[simp] theorem State.emit_allocs (s : State) (o : Out) : (s.emit o).allocs = s.allocs := rfl
@[simp] theorem State.emit_treeRot (s : State) (o : Out) : (s.emit o).treeRot = s.treeRot := rfl
@[simp] theorem State.emit_drl (s : State) (o : Out) : (s.emit o).drl = s.drl := rfl
@[simp] theorem State.emit_slices (s : State) (o : Out) : (s.emit o).slices = s.slices := rfl
@[simp] theorem State.emit_fwd (s : State) (o : Out) : (s.emit o).fwd = s.fwd := rfl
@[simp] theorem State.emit_sw (s : State) (o : Out) : (s.emit o).sw = s.sw := rfl
@[simp] theorem State.emit_tm (s : State) (o : Out) : (s.emit o).tm = s.tm := rfl
@[simp] theorem State.emit_cph (s : State) (o : Out) : (s.emit o).cph = s.cph := rfl
@[simp] theorem State.emit_upl (s : State) (o : Out) : (s.emit o).upl = s.upl := rfl
@[simp] theorem State.emit_hbm (s : State) (o : Out) : (s.emit o).hbm = s.hbm := rfl
@[simp] theorem State.emit_cxm (s : State) (o : Out) : (s.emit o).cxm = s.cxm := rfl
@[simp] theorem State.emit_mgt (s : State) (o : Out) : (s.emit o).mgt = s.mgt := rfl

@[simp] theorem State.setReg_pending (s : State) (off : Nat) (v : Word) (n : Nat) : (s.setReg off v n).pending = s.pending := State.regs_only_pending s _
@[simp] theorem State.setReg_outs (s : State) (off : Nat) (v : Word) (n : Nat) : (s.setReg off v n).outs = s.outs := State.regs_only_outs s _
@[simp] theorem State.setReg_free (s : State) (off : Nat) (v : Word) (n : Nat) : (s.setReg off v n).free = s.free := State.regs_only_free s _
@[simp] theorem State.setReg_time (s : State) (off : Nat) (v : Word) (n : Nat) : (s.setReg off v n).time = s.time := State.regs_only_time s _
@[simp] theorem State.setReg_life (s : State) (off : Nat) (v : Word) (n : Nat) : (s.setReg off v n).life = s.life := State.regs_only_life s _
@[simp] theorem State.setReg_host (s : State) (off : Nat) (v : Word) (n : Nat) : (s.setReg off v n).host = s.host := State.regs_only_host s _
@[simp] theorem State.setReg_flt (s : State) (off : Nat) (v : Word) (n : Nat) : (s.setReg off v n).flt = s.flt := State.regs_only_flt s _
@[simp] theorem State.setReg_cnt (s : State) (off : Nat) (v : Word) (n : Nat) : (s.setReg off v n).cnt = s.cnt := State.regs_only_cnt s _
@[simp] theorem State.setReg_ctx (s : State) (off : Nat) (v : Word) (n : Nat) : (s.setReg off v n).ctx = s.ctx := State.regs_only_ctx s _
@[simp] theorem State.setReg_ctxShadow (s : State) (off : Nat) (v : Word) (n : Nat) : (s.setReg off v n).ctxShadow = s.ctxShadow := State.regs_only_ctxShadow s _
@[simp] theorem State.setReg_records (s : State) (off : Nat) (v : Word) (n : Nat) : (s.setReg off v n).records = s.records := State.regs_only_records s _
@[simp] theorem State.setReg_forgotten (s : State) (off : Nat) (v : Word) (n : Nat) : (s.setReg off v n).forgotten = s.forgotten := State.regs_only_forgotten s _
@[simp] theorem State.setReg_chans (s : State) (off : Nat) (v : Word) (n : Nat) : (s.setReg off v n).chans = s.chans := State.regs_only_chans s _
@[simp] theorem State.setReg_terms (s : State) (off : Nat) (v : Word) (n : Nat) : (s.setReg off v n).terms = s.terms := State.regs_only_terms s _
@[simp] theorem State.setReg_gnt (s : State) (off : Nat) (v : Word) (n : Nat) : (s.setReg off v n).gnt = s.gnt := State.regs_only_gnt s _
@[simp] theorem State.setReg_phyFrame (s : State) (off : Nat) (v : Word) (n : Nat) : (s.setReg off v n).phyFrame = s.phyFrame := State.regs_only_phyFrame s _
@[simp] theorem State.setReg_sdus (s : State) (off : Nat) (v : Word) (n : Nat) : (s.setReg off v n).sdus = s.sdus := State.regs_only_sdus s _
@[simp] theorem State.setReg_allocs (s : State) (off : Nat) (v : Word) (n : Nat) : (s.setReg off v n).allocs = s.allocs := State.regs_only_allocs s _
@[simp] theorem State.setReg_treeRot (s : State) (off : Nat) (v : Word) (n : Nat) : (s.setReg off v n).treeRot = s.treeRot := State.regs_only_treeRot s _
@[simp] theorem State.setReg_drl (s : State) (off : Nat) (v : Word) (n : Nat) : (s.setReg off v n).drl = s.drl := State.regs_only_drl s _
@[simp] theorem State.setReg_slices (s : State) (off : Nat) (v : Word) (n : Nat) : (s.setReg off v n).slices = s.slices := State.regs_only_slices s _
@[simp] theorem State.setReg_fwd (s : State) (off : Nat) (v : Word) (n : Nat) : (s.setReg off v n).fwd = s.fwd := State.regs_only_fwd s _
@[simp] theorem State.setReg_sw (s : State) (off : Nat) (v : Word) (n : Nat) : (s.setReg off v n).sw = s.sw := State.regs_only_sw s _
@[simp] theorem State.setReg_tm (s : State) (off : Nat) (v : Word) (n : Nat) : (s.setReg off v n).tm = s.tm := State.regs_only_tm s _
@[simp] theorem State.setReg_cph (s : State) (off : Nat) (v : Word) (n : Nat) : (s.setReg off v n).cph = s.cph := State.regs_only_cph s _
@[simp] theorem State.setReg_upl (s : State) (off : Nat) (v : Word) (n : Nat) : (s.setReg off v n).upl = s.upl := State.regs_only_upl s _
@[simp] theorem State.setReg_hbm (s : State) (off : Nat) (v : Word) (n : Nat) : (s.setReg off v n).hbm = s.hbm := State.regs_only_hbm s _
@[simp] theorem State.setReg_cxm (s : State) (off : Nat) (v : Word) (n : Nat) : (s.setReg off v n).cxm = s.cxm := State.regs_only_cxm s _
@[simp] theorem State.setReg_mgt (s : State) (off : Nat) (v : Word) (n : Nat) : (s.setReg off v n).mgt = s.mgt := State.regs_only_mgt s _

@[simp] theorem State.setBit_pending (s : State) (off i : Nat) (b : Bool) (n : Nat) : (s.setBit off i b n).pending = s.pending := State.regs_only_pending s _
@[simp] theorem State.setBit_outs (s : State) (off i : Nat) (b : Bool) (n : Nat) : (s.setBit off i b n).outs = s.outs := State.regs_only_outs s _
@[simp] theorem State.setBit_free (s : State) (off i : Nat) (b : Bool) (n : Nat) : (s.setBit off i b n).free = s.free := State.regs_only_free s _
@[simp] theorem State.setBit_time (s : State) (off i : Nat) (b : Bool) (n : Nat) : (s.setBit off i b n).time = s.time := State.regs_only_time s _
@[simp] theorem State.setBit_life (s : State) (off i : Nat) (b : Bool) (n : Nat) : (s.setBit off i b n).life = s.life := State.regs_only_life s _
@[simp] theorem State.setBit_host (s : State) (off i : Nat) (b : Bool) (n : Nat) : (s.setBit off i b n).host = s.host := State.regs_only_host s _
@[simp] theorem State.setBit_flt (s : State) (off i : Nat) (b : Bool) (n : Nat) : (s.setBit off i b n).flt = s.flt := State.regs_only_flt s _
@[simp] theorem State.setBit_cnt (s : State) (off i : Nat) (b : Bool) (n : Nat) : (s.setBit off i b n).cnt = s.cnt := State.regs_only_cnt s _
@[simp] theorem State.setBit_ctx (s : State) (off i : Nat) (b : Bool) (n : Nat) : (s.setBit off i b n).ctx = s.ctx := State.regs_only_ctx s _
@[simp] theorem State.setBit_ctxShadow (s : State) (off i : Nat) (b : Bool) (n : Nat) : (s.setBit off i b n).ctxShadow = s.ctxShadow := State.regs_only_ctxShadow s _
@[simp] theorem State.setBit_records (s : State) (off i : Nat) (b : Bool) (n : Nat) : (s.setBit off i b n).records = s.records := State.regs_only_records s _
@[simp] theorem State.setBit_forgotten (s : State) (off i : Nat) (b : Bool) (n : Nat) : (s.setBit off i b n).forgotten = s.forgotten := State.regs_only_forgotten s _
@[simp] theorem State.setBit_chans (s : State) (off i : Nat) (b : Bool) (n : Nat) : (s.setBit off i b n).chans = s.chans := State.regs_only_chans s _
@[simp] theorem State.setBit_terms (s : State) (off i : Nat) (b : Bool) (n : Nat) : (s.setBit off i b n).terms = s.terms := State.regs_only_terms s _
@[simp] theorem State.setBit_gnt (s : State) (off i : Nat) (b : Bool) (n : Nat) : (s.setBit off i b n).gnt = s.gnt := State.regs_only_gnt s _
@[simp] theorem State.setBit_phyFrame (s : State) (off i : Nat) (b : Bool) (n : Nat) : (s.setBit off i b n).phyFrame = s.phyFrame := State.regs_only_phyFrame s _
@[simp] theorem State.setBit_sdus (s : State) (off i : Nat) (b : Bool) (n : Nat) : (s.setBit off i b n).sdus = s.sdus := State.regs_only_sdus s _
@[simp] theorem State.setBit_allocs (s : State) (off i : Nat) (b : Bool) (n : Nat) : (s.setBit off i b n).allocs = s.allocs := State.regs_only_allocs s _
@[simp] theorem State.setBit_treeRot (s : State) (off i : Nat) (b : Bool) (n : Nat) : (s.setBit off i b n).treeRot = s.treeRot := State.regs_only_treeRot s _
@[simp] theorem State.setBit_drl (s : State) (off i : Nat) (b : Bool) (n : Nat) : (s.setBit off i b n).drl = s.drl := State.regs_only_drl s _
@[simp] theorem State.setBit_slices (s : State) (off i : Nat) (b : Bool) (n : Nat) : (s.setBit off i b n).slices = s.slices := State.regs_only_slices s _
@[simp] theorem State.setBit_fwd (s : State) (off i : Nat) (b : Bool) (n : Nat) : (s.setBit off i b n).fwd = s.fwd := State.regs_only_fwd s _
@[simp] theorem State.setBit_sw (s : State) (off i : Nat) (b : Bool) (n : Nat) : (s.setBit off i b n).sw = s.sw := State.regs_only_sw s _
@[simp] theorem State.setBit_tm (s : State) (off i : Nat) (b : Bool) (n : Nat) : (s.setBit off i b n).tm = s.tm := State.regs_only_tm s _
@[simp] theorem State.setBit_cph (s : State) (off i : Nat) (b : Bool) (n : Nat) : (s.setBit off i b n).cph = s.cph := State.regs_only_cph s _
@[simp] theorem State.setBit_upl (s : State) (off i : Nat) (b : Bool) (n : Nat) : (s.setBit off i b n).upl = s.upl := State.regs_only_upl s _
@[simp] theorem State.setBit_hbm (s : State) (off i : Nat) (b : Bool) (n : Nat) : (s.setBit off i b n).hbm = s.hbm := State.regs_only_hbm s _
@[simp] theorem State.setBit_cxm (s : State) (off i : Nat) (b : Bool) (n : Nat) : (s.setBit off i b n).cxm = s.cxm := State.regs_only_cxm s _
@[simp] theorem State.setBit_mgt (s : State) (off i : Nat) (b : Bool) (n : Nat) : (s.setBit off i b n).mgt = s.mgt := State.regs_only_mgt s _

@[simp] theorem State.bump_pending (s : State) (c : Ctr) (obj n : Nat) : (s.bump c obj n).pending = s.pending := rfl
@[simp] theorem State.bump_outs (s : State) (c : Ctr) (obj n : Nat) : (s.bump c obj n).outs = s.outs := rfl
@[simp] theorem State.bump_free (s : State) (c : Ctr) (obj n : Nat) : (s.bump c obj n).free = s.free := rfl
@[simp] theorem State.bump_time (s : State) (c : Ctr) (obj n : Nat) : (s.bump c obj n).time = s.time := rfl
@[simp] theorem State.bump_life (s : State) (c : Ctr) (obj n : Nat) : (s.bump c obj n).life = s.life := rfl
@[simp] theorem State.bump_host (s : State) (c : Ctr) (obj n : Nat) : (s.bump c obj n).host = s.host := rfl
@[simp] theorem State.bump_regs (s : State) (c : Ctr) (obj n : Nat) : (s.bump c obj n).regs = s.regs := rfl
@[simp] theorem State.bump_flt (s : State) (c : Ctr) (obj n : Nat) : (s.bump c obj n).flt = s.flt := rfl
@[simp] theorem State.bump_ctx (s : State) (c : Ctr) (obj n : Nat) : (s.bump c obj n).ctx = s.ctx := rfl
@[simp] theorem State.bump_ctxShadow (s : State) (c : Ctr) (obj n : Nat) : (s.bump c obj n).ctxShadow = s.ctxShadow := rfl
@[simp] theorem State.bump_records (s : State) (c : Ctr) (obj n : Nat) : (s.bump c obj n).records = s.records := rfl
@[simp] theorem State.bump_forgotten (s : State) (c : Ctr) (obj n : Nat) : (s.bump c obj n).forgotten = s.forgotten := rfl
@[simp] theorem State.bump_chans (s : State) (c : Ctr) (obj n : Nat) : (s.bump c obj n).chans = s.chans := rfl
@[simp] theorem State.bump_terms (s : State) (c : Ctr) (obj n : Nat) : (s.bump c obj n).terms = s.terms := rfl
@[simp] theorem State.bump_gnt (s : State) (c : Ctr) (obj n : Nat) : (s.bump c obj n).gnt = s.gnt := rfl
@[simp] theorem State.bump_phyFrame (s : State) (c : Ctr) (obj n : Nat) : (s.bump c obj n).phyFrame = s.phyFrame := rfl
@[simp] theorem State.bump_sdus (s : State) (c : Ctr) (obj n : Nat) : (s.bump c obj n).sdus = s.sdus := rfl
@[simp] theorem State.bump_allocs (s : State) (c : Ctr) (obj n : Nat) : (s.bump c obj n).allocs = s.allocs := rfl
@[simp] theorem State.bump_treeRot (s : State) (c : Ctr) (obj n : Nat) : (s.bump c obj n).treeRot = s.treeRot := rfl
@[simp] theorem State.bump_drl (s : State) (c : Ctr) (obj n : Nat) : (s.bump c obj n).drl = s.drl := rfl
@[simp] theorem State.bump_slices (s : State) (c : Ctr) (obj n : Nat) : (s.bump c obj n).slices = s.slices := rfl
@[simp] theorem State.bump_fwd (s : State) (c : Ctr) (obj n : Nat) : (s.bump c obj n).fwd = s.fwd := rfl
@[simp] theorem State.bump_sw (s : State) (c : Ctr) (obj n : Nat) : (s.bump c obj n).sw = s.sw := rfl
@[simp] theorem State.bump_tm (s : State) (c : Ctr) (obj n : Nat) : (s.bump c obj n).tm = s.tm := rfl
@[simp] theorem State.bump_cph (s : State) (c : Ctr) (obj n : Nat) : (s.bump c obj n).cph = s.cph := rfl
@[simp] theorem State.bump_upl (s : State) (c : Ctr) (obj n : Nat) : (s.bump c obj n).upl = s.upl := rfl
@[simp] theorem State.bump_hbm (s : State) (c : Ctr) (obj n : Nat) : (s.bump c obj n).hbm = s.hbm := rfl
@[simp] theorem State.bump_cxm (s : State) (c : Ctr) (obj n : Nat) : (s.bump c obj n).cxm = s.cxm := rfl
@[simp] theorem State.bump_mgt (s : State) (c : Ctr) (obj n : Nat) : (s.bump c obj n).mgt = s.mgt := rfl

@[simp] theorem State.setCh_pending (s : State) (c : Nat) (v : PonCh) : (s.setCh c v).pending = s.pending := rfl
@[simp] theorem State.setCh_outs (s : State) (c : Nat) (v : PonCh) : (s.setCh c v).outs = s.outs := rfl
@[simp] theorem State.setCh_free (s : State) (c : Nat) (v : PonCh) : (s.setCh c v).free = s.free := rfl
@[simp] theorem State.setCh_time (s : State) (c : Nat) (v : PonCh) : (s.setCh c v).time = s.time := rfl
@[simp] theorem State.setCh_life (s : State) (c : Nat) (v : PonCh) : (s.setCh c v).life = s.life := rfl
@[simp] theorem State.setCh_host (s : State) (c : Nat) (v : PonCh) : (s.setCh c v).host = s.host := rfl
@[simp] theorem State.setCh_regs (s : State) (c : Nat) (v : PonCh) : (s.setCh c v).regs = s.regs := rfl
@[simp] theorem State.setCh_flt (s : State) (c : Nat) (v : PonCh) : (s.setCh c v).flt = s.flt := rfl
@[simp] theorem State.setCh_cnt (s : State) (c : Nat) (v : PonCh) : (s.setCh c v).cnt = s.cnt := rfl
@[simp] theorem State.setCh_ctx (s : State) (c : Nat) (v : PonCh) : (s.setCh c v).ctx = s.ctx := rfl
@[simp] theorem State.setCh_ctxShadow (s : State) (c : Nat) (v : PonCh) : (s.setCh c v).ctxShadow = s.ctxShadow := rfl
@[simp] theorem State.setCh_records (s : State) (c : Nat) (v : PonCh) : (s.setCh c v).records = s.records := rfl
@[simp] theorem State.setCh_forgotten (s : State) (c : Nat) (v : PonCh) : (s.setCh c v).forgotten = s.forgotten := rfl
@[simp] theorem State.setCh_terms (s : State) (c : Nat) (v : PonCh) : (s.setCh c v).terms = s.terms := rfl
@[simp] theorem State.setCh_gnt (s : State) (c : Nat) (v : PonCh) : (s.setCh c v).gnt = s.gnt := rfl
@[simp] theorem State.setCh_phyFrame (s : State) (c : Nat) (v : PonCh) : (s.setCh c v).phyFrame = s.phyFrame := rfl
@[simp] theorem State.setCh_sdus (s : State) (c : Nat) (v : PonCh) : (s.setCh c v).sdus = s.sdus := rfl
@[simp] theorem State.setCh_allocs (s : State) (c : Nat) (v : PonCh) : (s.setCh c v).allocs = s.allocs := rfl
@[simp] theorem State.setCh_treeRot (s : State) (c : Nat) (v : PonCh) : (s.setCh c v).treeRot = s.treeRot := rfl
@[simp] theorem State.setCh_drl (s : State) (c : Nat) (v : PonCh) : (s.setCh c v).drl = s.drl := rfl
@[simp] theorem State.setCh_slices (s : State) (c : Nat) (v : PonCh) : (s.setCh c v).slices = s.slices := rfl
@[simp] theorem State.setCh_fwd (s : State) (c : Nat) (v : PonCh) : (s.setCh c v).fwd = s.fwd := rfl
@[simp] theorem State.setCh_sw (s : State) (c : Nat) (v : PonCh) : (s.setCh c v).sw = s.sw := rfl
@[simp] theorem State.setCh_tm (s : State) (c : Nat) (v : PonCh) : (s.setCh c v).tm = s.tm := rfl
@[simp] theorem State.setCh_cph (s : State) (c : Nat) (v : PonCh) : (s.setCh c v).cph = s.cph := rfl
@[simp] theorem State.setCh_upl (s : State) (c : Nat) (v : PonCh) : (s.setCh c v).upl = s.upl := rfl
@[simp] theorem State.setCh_hbm (s : State) (c : Nat) (v : PonCh) : (s.setCh c v).hbm = s.hbm := rfl
@[simp] theorem State.setCh_cxm (s : State) (c : Nat) (v : PonCh) : (s.setCh c v).cxm = s.cxm := rfl
@[simp] theorem State.setCh_mgt (s : State) (c : Nat) (v : PonCh) : (s.setCh c v).mgt = s.mgt := rfl

@[simp] theorem State.updCh_pending (s : State) (c : Nat) (f : PonCh → PonCh) : (s.updCh c f).pending = s.pending := rfl
@[simp] theorem State.updCh_outs (s : State) (c : Nat) (f : PonCh → PonCh) : (s.updCh c f).outs = s.outs := rfl
@[simp] theorem State.updCh_free (s : State) (c : Nat) (f : PonCh → PonCh) : (s.updCh c f).free = s.free := rfl
@[simp] theorem State.updCh_time (s : State) (c : Nat) (f : PonCh → PonCh) : (s.updCh c f).time = s.time := rfl
@[simp] theorem State.updCh_life (s : State) (c : Nat) (f : PonCh → PonCh) : (s.updCh c f).life = s.life := rfl
@[simp] theorem State.updCh_host (s : State) (c : Nat) (f : PonCh → PonCh) : (s.updCh c f).host = s.host := rfl
@[simp] theorem State.updCh_regs (s : State) (c : Nat) (f : PonCh → PonCh) : (s.updCh c f).regs = s.regs := rfl
@[simp] theorem State.updCh_flt (s : State) (c : Nat) (f : PonCh → PonCh) : (s.updCh c f).flt = s.flt := rfl
@[simp] theorem State.updCh_cnt (s : State) (c : Nat) (f : PonCh → PonCh) : (s.updCh c f).cnt = s.cnt := rfl
@[simp] theorem State.updCh_ctx (s : State) (c : Nat) (f : PonCh → PonCh) : (s.updCh c f).ctx = s.ctx := rfl
@[simp] theorem State.updCh_ctxShadow (s : State) (c : Nat) (f : PonCh → PonCh) : (s.updCh c f).ctxShadow = s.ctxShadow := rfl
@[simp] theorem State.updCh_records (s : State) (c : Nat) (f : PonCh → PonCh) : (s.updCh c f).records = s.records := rfl
@[simp] theorem State.updCh_forgotten (s : State) (c : Nat) (f : PonCh → PonCh) : (s.updCh c f).forgotten = s.forgotten := rfl
@[simp] theorem State.updCh_terms (s : State) (c : Nat) (f : PonCh → PonCh) : (s.updCh c f).terms = s.terms := rfl
@[simp] theorem State.updCh_gnt (s : State) (c : Nat) (f : PonCh → PonCh) : (s.updCh c f).gnt = s.gnt := rfl
@[simp] theorem State.updCh_phyFrame (s : State) (c : Nat) (f : PonCh → PonCh) : (s.updCh c f).phyFrame = s.phyFrame := rfl
@[simp] theorem State.updCh_sdus (s : State) (c : Nat) (f : PonCh → PonCh) : (s.updCh c f).sdus = s.sdus := rfl
@[simp] theorem State.updCh_allocs (s : State) (c : Nat) (f : PonCh → PonCh) : (s.updCh c f).allocs = s.allocs := rfl
@[simp] theorem State.updCh_treeRot (s : State) (c : Nat) (f : PonCh → PonCh) : (s.updCh c f).treeRot = s.treeRot := rfl
@[simp] theorem State.updCh_drl (s : State) (c : Nat) (f : PonCh → PonCh) : (s.updCh c f).drl = s.drl := rfl
@[simp] theorem State.updCh_slices (s : State) (c : Nat) (f : PonCh → PonCh) : (s.updCh c f).slices = s.slices := rfl
@[simp] theorem State.updCh_fwd (s : State) (c : Nat) (f : PonCh → PonCh) : (s.updCh c f).fwd = s.fwd := rfl
@[simp] theorem State.updCh_sw (s : State) (c : Nat) (f : PonCh → PonCh) : (s.updCh c f).sw = s.sw := rfl
@[simp] theorem State.updCh_tm (s : State) (c : Nat) (f : PonCh → PonCh) : (s.updCh c f).tm = s.tm := rfl
@[simp] theorem State.updCh_cph (s : State) (c : Nat) (f : PonCh → PonCh) : (s.updCh c f).cph = s.cph := rfl
@[simp] theorem State.updCh_upl (s : State) (c : Nat) (f : PonCh → PonCh) : (s.updCh c f).upl = s.upl := rfl
@[simp] theorem State.updCh_hbm (s : State) (c : Nat) (f : PonCh → PonCh) : (s.updCh c f).hbm = s.hbm := rfl
@[simp] theorem State.updCh_cxm (s : State) (c : Nat) (f : PonCh → PonCh) : (s.updCh c f).cxm = s.cxm := rfl
@[simp] theorem State.updCh_mgt (s : State) (c : Nat) (f : PonCh → PonCh) : (s.updCh c f).mgt = s.mgt := rfl

@[simp] theorem State.setTerm_pending (s : State) (c i : Nat) (v : Term) : (s.setTerm c i v).pending = s.pending := rfl
@[simp] theorem State.setTerm_outs (s : State) (c i : Nat) (v : Term) : (s.setTerm c i v).outs = s.outs := rfl
@[simp] theorem State.setTerm_free (s : State) (c i : Nat) (v : Term) : (s.setTerm c i v).free = s.free := rfl
@[simp] theorem State.setTerm_time (s : State) (c i : Nat) (v : Term) : (s.setTerm c i v).time = s.time := rfl
@[simp] theorem State.setTerm_life (s : State) (c i : Nat) (v : Term) : (s.setTerm c i v).life = s.life := rfl
@[simp] theorem State.setTerm_host (s : State) (c i : Nat) (v : Term) : (s.setTerm c i v).host = s.host := rfl
@[simp] theorem State.setTerm_regs (s : State) (c i : Nat) (v : Term) : (s.setTerm c i v).regs = s.regs := rfl
@[simp] theorem State.setTerm_flt (s : State) (c i : Nat) (v : Term) : (s.setTerm c i v).flt = s.flt := rfl
@[simp] theorem State.setTerm_cnt (s : State) (c i : Nat) (v : Term) : (s.setTerm c i v).cnt = s.cnt := rfl
@[simp] theorem State.setTerm_ctx (s : State) (c i : Nat) (v : Term) : (s.setTerm c i v).ctx = s.ctx := rfl
@[simp] theorem State.setTerm_ctxShadow (s : State) (c i : Nat) (v : Term) : (s.setTerm c i v).ctxShadow = s.ctxShadow := rfl
@[simp] theorem State.setTerm_records (s : State) (c i : Nat) (v : Term) : (s.setTerm c i v).records = s.records := rfl
@[simp] theorem State.setTerm_forgotten (s : State) (c i : Nat) (v : Term) : (s.setTerm c i v).forgotten = s.forgotten := rfl
@[simp] theorem State.setTerm_chans (s : State) (c i : Nat) (v : Term) : (s.setTerm c i v).chans = s.chans := rfl
@[simp] theorem State.setTerm_gnt (s : State) (c i : Nat) (v : Term) : (s.setTerm c i v).gnt = s.gnt := rfl
@[simp] theorem State.setTerm_phyFrame (s : State) (c i : Nat) (v : Term) : (s.setTerm c i v).phyFrame = s.phyFrame := rfl
@[simp] theorem State.setTerm_sdus (s : State) (c i : Nat) (v : Term) : (s.setTerm c i v).sdus = s.sdus := rfl
@[simp] theorem State.setTerm_allocs (s : State) (c i : Nat) (v : Term) : (s.setTerm c i v).allocs = s.allocs := rfl
@[simp] theorem State.setTerm_treeRot (s : State) (c i : Nat) (v : Term) : (s.setTerm c i v).treeRot = s.treeRot := rfl
@[simp] theorem State.setTerm_drl (s : State) (c i : Nat) (v : Term) : (s.setTerm c i v).drl = s.drl := rfl
@[simp] theorem State.setTerm_slices (s : State) (c i : Nat) (v : Term) : (s.setTerm c i v).slices = s.slices := rfl
@[simp] theorem State.setTerm_fwd (s : State) (c i : Nat) (v : Term) : (s.setTerm c i v).fwd = s.fwd := rfl
@[simp] theorem State.setTerm_sw (s : State) (c i : Nat) (v : Term) : (s.setTerm c i v).sw = s.sw := rfl
@[simp] theorem State.setTerm_tm (s : State) (c i : Nat) (v : Term) : (s.setTerm c i v).tm = s.tm := rfl
@[simp] theorem State.setTerm_cph (s : State) (c i : Nat) (v : Term) : (s.setTerm c i v).cph = s.cph := rfl
@[simp] theorem State.setTerm_upl (s : State) (c i : Nat) (v : Term) : (s.setTerm c i v).upl = s.upl := rfl
@[simp] theorem State.setTerm_hbm (s : State) (c i : Nat) (v : Term) : (s.setTerm c i v).hbm = s.hbm := rfl
@[simp] theorem State.setTerm_cxm (s : State) (c i : Nat) (v : Term) : (s.setTerm c i v).cxm = s.cxm := rfl
@[simp] theorem State.setTerm_mgt (s : State) (c i : Nat) (v : Term) : (s.setTerm c i v).mgt = s.mgt := rfl

@[simp] theorem State.updTerm_pending (s : State) (c i : Nat) (f : Term → Term) : (s.updTerm c i f).pending = s.pending := rfl
@[simp] theorem State.updTerm_outs (s : State) (c i : Nat) (f : Term → Term) : (s.updTerm c i f).outs = s.outs := rfl
@[simp] theorem State.updTerm_free (s : State) (c i : Nat) (f : Term → Term) : (s.updTerm c i f).free = s.free := rfl
@[simp] theorem State.updTerm_time (s : State) (c i : Nat) (f : Term → Term) : (s.updTerm c i f).time = s.time := rfl
@[simp] theorem State.updTerm_life (s : State) (c i : Nat) (f : Term → Term) : (s.updTerm c i f).life = s.life := rfl
@[simp] theorem State.updTerm_host (s : State) (c i : Nat) (f : Term → Term) : (s.updTerm c i f).host = s.host := rfl
@[simp] theorem State.updTerm_regs (s : State) (c i : Nat) (f : Term → Term) : (s.updTerm c i f).regs = s.regs := rfl
@[simp] theorem State.updTerm_flt (s : State) (c i : Nat) (f : Term → Term) : (s.updTerm c i f).flt = s.flt := rfl
@[simp] theorem State.updTerm_cnt (s : State) (c i : Nat) (f : Term → Term) : (s.updTerm c i f).cnt = s.cnt := rfl
@[simp] theorem State.updTerm_ctx (s : State) (c i : Nat) (f : Term → Term) : (s.updTerm c i f).ctx = s.ctx := rfl
@[simp] theorem State.updTerm_ctxShadow (s : State) (c i : Nat) (f : Term → Term) : (s.updTerm c i f).ctxShadow = s.ctxShadow := rfl
@[simp] theorem State.updTerm_records (s : State) (c i : Nat) (f : Term → Term) : (s.updTerm c i f).records = s.records := rfl
@[simp] theorem State.updTerm_forgotten (s : State) (c i : Nat) (f : Term → Term) : (s.updTerm c i f).forgotten = s.forgotten := rfl
@[simp] theorem State.updTerm_chans (s : State) (c i : Nat) (f : Term → Term) : (s.updTerm c i f).chans = s.chans := rfl
@[simp] theorem State.updTerm_gnt (s : State) (c i : Nat) (f : Term → Term) : (s.updTerm c i f).gnt = s.gnt := rfl
@[simp] theorem State.updTerm_phyFrame (s : State) (c i : Nat) (f : Term → Term) : (s.updTerm c i f).phyFrame = s.phyFrame := rfl
@[simp] theorem State.updTerm_sdus (s : State) (c i : Nat) (f : Term → Term) : (s.updTerm c i f).sdus = s.sdus := rfl
@[simp] theorem State.updTerm_allocs (s : State) (c i : Nat) (f : Term → Term) : (s.updTerm c i f).allocs = s.allocs := rfl
@[simp] theorem State.updTerm_treeRot (s : State) (c i : Nat) (f : Term → Term) : (s.updTerm c i f).treeRot = s.treeRot := rfl
@[simp] theorem State.updTerm_drl (s : State) (c i : Nat) (f : Term → Term) : (s.updTerm c i f).drl = s.drl := rfl
@[simp] theorem State.updTerm_slices (s : State) (c i : Nat) (f : Term → Term) : (s.updTerm c i f).slices = s.slices := rfl
@[simp] theorem State.updTerm_fwd (s : State) (c i : Nat) (f : Term → Term) : (s.updTerm c i f).fwd = s.fwd := rfl
@[simp] theorem State.updTerm_sw (s : State) (c i : Nat) (f : Term → Term) : (s.updTerm c i f).sw = s.sw := rfl
@[simp] theorem State.updTerm_tm (s : State) (c i : Nat) (f : Term → Term) : (s.updTerm c i f).tm = s.tm := rfl
@[simp] theorem State.updTerm_cph (s : State) (c i : Nat) (f : Term → Term) : (s.updTerm c i f).cph = s.cph := rfl
@[simp] theorem State.updTerm_upl (s : State) (c i : Nat) (f : Term → Term) : (s.updTerm c i f).upl = s.upl := rfl
@[simp] theorem State.updTerm_hbm (s : State) (c i : Nat) (f : Term → Term) : (s.updTerm c i f).hbm = s.hbm := rfl
@[simp] theorem State.updTerm_cxm (s : State) (c i : Nat) (f : Term → Term) : (s.updTerm c i f).cxm = s.cxm := rfl
@[simp] theorem State.updTerm_mgt (s : State) (c i : Nat) (f : Term → Term) : (s.updTerm c i f).mgt = s.mgt := rfl

@[simp] theorem State.setGnt_pending (s : State) (c : Nat) (v : GntCh) : (s.setGnt c v).pending = s.pending := rfl
@[simp] theorem State.setGnt_outs (s : State) (c : Nat) (v : GntCh) : (s.setGnt c v).outs = s.outs := rfl
@[simp] theorem State.setGnt_free (s : State) (c : Nat) (v : GntCh) : (s.setGnt c v).free = s.free := rfl
@[simp] theorem State.setGnt_time (s : State) (c : Nat) (v : GntCh) : (s.setGnt c v).time = s.time := rfl
@[simp] theorem State.setGnt_life (s : State) (c : Nat) (v : GntCh) : (s.setGnt c v).life = s.life := rfl
@[simp] theorem State.setGnt_host (s : State) (c : Nat) (v : GntCh) : (s.setGnt c v).host = s.host := rfl
@[simp] theorem State.setGnt_regs (s : State) (c : Nat) (v : GntCh) : (s.setGnt c v).regs = s.regs := rfl
@[simp] theorem State.setGnt_flt (s : State) (c : Nat) (v : GntCh) : (s.setGnt c v).flt = s.flt := rfl
@[simp] theorem State.setGnt_cnt (s : State) (c : Nat) (v : GntCh) : (s.setGnt c v).cnt = s.cnt := rfl
@[simp] theorem State.setGnt_ctx (s : State) (c : Nat) (v : GntCh) : (s.setGnt c v).ctx = s.ctx := rfl
@[simp] theorem State.setGnt_ctxShadow (s : State) (c : Nat) (v : GntCh) : (s.setGnt c v).ctxShadow = s.ctxShadow := rfl
@[simp] theorem State.setGnt_records (s : State) (c : Nat) (v : GntCh) : (s.setGnt c v).records = s.records := rfl
@[simp] theorem State.setGnt_forgotten (s : State) (c : Nat) (v : GntCh) : (s.setGnt c v).forgotten = s.forgotten := rfl
@[simp] theorem State.setGnt_chans (s : State) (c : Nat) (v : GntCh) : (s.setGnt c v).chans = s.chans := rfl
@[simp] theorem State.setGnt_terms (s : State) (c : Nat) (v : GntCh) : (s.setGnt c v).terms = s.terms := rfl
@[simp] theorem State.setGnt_phyFrame (s : State) (c : Nat) (v : GntCh) : (s.setGnt c v).phyFrame = s.phyFrame := rfl
@[simp] theorem State.setGnt_sdus (s : State) (c : Nat) (v : GntCh) : (s.setGnt c v).sdus = s.sdus := rfl
@[simp] theorem State.setGnt_allocs (s : State) (c : Nat) (v : GntCh) : (s.setGnt c v).allocs = s.allocs := rfl
@[simp] theorem State.setGnt_treeRot (s : State) (c : Nat) (v : GntCh) : (s.setGnt c v).treeRot = s.treeRot := rfl
@[simp] theorem State.setGnt_drl (s : State) (c : Nat) (v : GntCh) : (s.setGnt c v).drl = s.drl := rfl
@[simp] theorem State.setGnt_slices (s : State) (c : Nat) (v : GntCh) : (s.setGnt c v).slices = s.slices := rfl
@[simp] theorem State.setGnt_fwd (s : State) (c : Nat) (v : GntCh) : (s.setGnt c v).fwd = s.fwd := rfl
@[simp] theorem State.setGnt_sw (s : State) (c : Nat) (v : GntCh) : (s.setGnt c v).sw = s.sw := rfl
@[simp] theorem State.setGnt_tm (s : State) (c : Nat) (v : GntCh) : (s.setGnt c v).tm = s.tm := rfl
@[simp] theorem State.setGnt_cph (s : State) (c : Nat) (v : GntCh) : (s.setGnt c v).cph = s.cph := rfl
@[simp] theorem State.setGnt_upl (s : State) (c : Nat) (v : GntCh) : (s.setGnt c v).upl = s.upl := rfl
@[simp] theorem State.setGnt_hbm (s : State) (c : Nat) (v : GntCh) : (s.setGnt c v).hbm = s.hbm := rfl
@[simp] theorem State.setGnt_cxm (s : State) (c : Nat) (v : GntCh) : (s.setGnt c v).cxm = s.cxm := rfl
@[simp] theorem State.setGnt_mgt (s : State) (c : Nat) (v : GntCh) : (s.setGnt c v).mgt = s.mgt := rfl

@[simp] theorem State.updGnt_pending (s : State) (c : Nat) (f : GntCh → GntCh) : (s.updGnt c f).pending = s.pending := rfl
@[simp] theorem State.updGnt_outs (s : State) (c : Nat) (f : GntCh → GntCh) : (s.updGnt c f).outs = s.outs := rfl
@[simp] theorem State.updGnt_free (s : State) (c : Nat) (f : GntCh → GntCh) : (s.updGnt c f).free = s.free := rfl
@[simp] theorem State.updGnt_time (s : State) (c : Nat) (f : GntCh → GntCh) : (s.updGnt c f).time = s.time := rfl
@[simp] theorem State.updGnt_life (s : State) (c : Nat) (f : GntCh → GntCh) : (s.updGnt c f).life = s.life := rfl
@[simp] theorem State.updGnt_host (s : State) (c : Nat) (f : GntCh → GntCh) : (s.updGnt c f).host = s.host := rfl
@[simp] theorem State.updGnt_regs (s : State) (c : Nat) (f : GntCh → GntCh) : (s.updGnt c f).regs = s.regs := rfl
@[simp] theorem State.updGnt_flt (s : State) (c : Nat) (f : GntCh → GntCh) : (s.updGnt c f).flt = s.flt := rfl
@[simp] theorem State.updGnt_cnt (s : State) (c : Nat) (f : GntCh → GntCh) : (s.updGnt c f).cnt = s.cnt := rfl
@[simp] theorem State.updGnt_ctx (s : State) (c : Nat) (f : GntCh → GntCh) : (s.updGnt c f).ctx = s.ctx := rfl
@[simp] theorem State.updGnt_ctxShadow (s : State) (c : Nat) (f : GntCh → GntCh) : (s.updGnt c f).ctxShadow = s.ctxShadow := rfl
@[simp] theorem State.updGnt_records (s : State) (c : Nat) (f : GntCh → GntCh) : (s.updGnt c f).records = s.records := rfl
@[simp] theorem State.updGnt_forgotten (s : State) (c : Nat) (f : GntCh → GntCh) : (s.updGnt c f).forgotten = s.forgotten := rfl
@[simp] theorem State.updGnt_chans (s : State) (c : Nat) (f : GntCh → GntCh) : (s.updGnt c f).chans = s.chans := rfl
@[simp] theorem State.updGnt_terms (s : State) (c : Nat) (f : GntCh → GntCh) : (s.updGnt c f).terms = s.terms := rfl
@[simp] theorem State.updGnt_phyFrame (s : State) (c : Nat) (f : GntCh → GntCh) : (s.updGnt c f).phyFrame = s.phyFrame := rfl
@[simp] theorem State.updGnt_sdus (s : State) (c : Nat) (f : GntCh → GntCh) : (s.updGnt c f).sdus = s.sdus := rfl
@[simp] theorem State.updGnt_allocs (s : State) (c : Nat) (f : GntCh → GntCh) : (s.updGnt c f).allocs = s.allocs := rfl
@[simp] theorem State.updGnt_treeRot (s : State) (c : Nat) (f : GntCh → GntCh) : (s.updGnt c f).treeRot = s.treeRot := rfl
@[simp] theorem State.updGnt_drl (s : State) (c : Nat) (f : GntCh → GntCh) : (s.updGnt c f).drl = s.drl := rfl
@[simp] theorem State.updGnt_slices (s : State) (c : Nat) (f : GntCh → GntCh) : (s.updGnt c f).slices = s.slices := rfl
@[simp] theorem State.updGnt_fwd (s : State) (c : Nat) (f : GntCh → GntCh) : (s.updGnt c f).fwd = s.fwd := rfl
@[simp] theorem State.updGnt_sw (s : State) (c : Nat) (f : GntCh → GntCh) : (s.updGnt c f).sw = s.sw := rfl
@[simp] theorem State.updGnt_tm (s : State) (c : Nat) (f : GntCh → GntCh) : (s.updGnt c f).tm = s.tm := rfl
@[simp] theorem State.updGnt_cph (s : State) (c : Nat) (f : GntCh → GntCh) : (s.updGnt c f).cph = s.cph := rfl
@[simp] theorem State.updGnt_upl (s : State) (c : Nat) (f : GntCh → GntCh) : (s.updGnt c f).upl = s.upl := rfl
@[simp] theorem State.updGnt_hbm (s : State) (c : Nat) (f : GntCh → GntCh) : (s.updGnt c f).hbm = s.hbm := rfl
@[simp] theorem State.updGnt_cxm (s : State) (c : Nat) (f : GntCh → GntCh) : (s.updGnt c f).cxm = s.cxm := rfl
@[simp] theorem State.updGnt_mgt (s : State) (c : Nat) (f : GntCh → GntCh) : (s.updGnt c f).mgt = s.mgt := rfl

@[simp] theorem State.setAlloc_pending (s : State) (c j : Nat) (v : AllocDyn) : (s.setAlloc c j v).pending = s.pending := rfl
@[simp] theorem State.setAlloc_outs (s : State) (c j : Nat) (v : AllocDyn) : (s.setAlloc c j v).outs = s.outs := rfl
@[simp] theorem State.setAlloc_free (s : State) (c j : Nat) (v : AllocDyn) : (s.setAlloc c j v).free = s.free := rfl
@[simp] theorem State.setAlloc_time (s : State) (c j : Nat) (v : AllocDyn) : (s.setAlloc c j v).time = s.time := rfl
@[simp] theorem State.setAlloc_life (s : State) (c j : Nat) (v : AllocDyn) : (s.setAlloc c j v).life = s.life := rfl
@[simp] theorem State.setAlloc_host (s : State) (c j : Nat) (v : AllocDyn) : (s.setAlloc c j v).host = s.host := rfl
@[simp] theorem State.setAlloc_regs (s : State) (c j : Nat) (v : AllocDyn) : (s.setAlloc c j v).regs = s.regs := rfl
@[simp] theorem State.setAlloc_flt (s : State) (c j : Nat) (v : AllocDyn) : (s.setAlloc c j v).flt = s.flt := rfl
@[simp] theorem State.setAlloc_cnt (s : State) (c j : Nat) (v : AllocDyn) : (s.setAlloc c j v).cnt = s.cnt := rfl
@[simp] theorem State.setAlloc_ctx (s : State) (c j : Nat) (v : AllocDyn) : (s.setAlloc c j v).ctx = s.ctx := rfl
@[simp] theorem State.setAlloc_ctxShadow (s : State) (c j : Nat) (v : AllocDyn) : (s.setAlloc c j v).ctxShadow = s.ctxShadow := rfl
@[simp] theorem State.setAlloc_records (s : State) (c j : Nat) (v : AllocDyn) : (s.setAlloc c j v).records = s.records := rfl
@[simp] theorem State.setAlloc_forgotten (s : State) (c j : Nat) (v : AllocDyn) : (s.setAlloc c j v).forgotten = s.forgotten := rfl
@[simp] theorem State.setAlloc_chans (s : State) (c j : Nat) (v : AllocDyn) : (s.setAlloc c j v).chans = s.chans := rfl
@[simp] theorem State.setAlloc_terms (s : State) (c j : Nat) (v : AllocDyn) : (s.setAlloc c j v).terms = s.terms := rfl
@[simp] theorem State.setAlloc_gnt (s : State) (c j : Nat) (v : AllocDyn) : (s.setAlloc c j v).gnt = s.gnt := rfl
@[simp] theorem State.setAlloc_phyFrame (s : State) (c j : Nat) (v : AllocDyn) : (s.setAlloc c j v).phyFrame = s.phyFrame := rfl
@[simp] theorem State.setAlloc_sdus (s : State) (c j : Nat) (v : AllocDyn) : (s.setAlloc c j v).sdus = s.sdus := rfl
@[simp] theorem State.setAlloc_treeRot (s : State) (c j : Nat) (v : AllocDyn) : (s.setAlloc c j v).treeRot = s.treeRot := rfl
@[simp] theorem State.setAlloc_drl (s : State) (c j : Nat) (v : AllocDyn) : (s.setAlloc c j v).drl = s.drl := rfl
@[simp] theorem State.setAlloc_slices (s : State) (c j : Nat) (v : AllocDyn) : (s.setAlloc c j v).slices = s.slices := rfl
@[simp] theorem State.setAlloc_fwd (s : State) (c j : Nat) (v : AllocDyn) : (s.setAlloc c j v).fwd = s.fwd := rfl
@[simp] theorem State.setAlloc_sw (s : State) (c j : Nat) (v : AllocDyn) : (s.setAlloc c j v).sw = s.sw := rfl
@[simp] theorem State.setAlloc_tm (s : State) (c j : Nat) (v : AllocDyn) : (s.setAlloc c j v).tm = s.tm := rfl
@[simp] theorem State.setAlloc_cph (s : State) (c j : Nat) (v : AllocDyn) : (s.setAlloc c j v).cph = s.cph := rfl
@[simp] theorem State.setAlloc_upl (s : State) (c j : Nat) (v : AllocDyn) : (s.setAlloc c j v).upl = s.upl := rfl
@[simp] theorem State.setAlloc_hbm (s : State) (c j : Nat) (v : AllocDyn) : (s.setAlloc c j v).hbm = s.hbm := rfl
@[simp] theorem State.setAlloc_cxm (s : State) (c j : Nat) (v : AllocDyn) : (s.setAlloc c j v).cxm = s.cxm := rfl
@[simp] theorem State.setAlloc_mgt (s : State) (c j : Nat) (v : AllocDyn) : (s.setAlloc c j v).mgt = s.mgt := rfl

@[simp] theorem State.setSlice_pending (s : State) (sl : Nat) (v : Slice) : (s.setSlice sl v).pending = s.pending := rfl
@[simp] theorem State.setSlice_outs (s : State) (sl : Nat) (v : Slice) : (s.setSlice sl v).outs = s.outs := rfl
@[simp] theorem State.setSlice_free (s : State) (sl : Nat) (v : Slice) : (s.setSlice sl v).free = s.free := rfl
@[simp] theorem State.setSlice_time (s : State) (sl : Nat) (v : Slice) : (s.setSlice sl v).time = s.time := rfl
@[simp] theorem State.setSlice_life (s : State) (sl : Nat) (v : Slice) : (s.setSlice sl v).life = s.life := rfl
@[simp] theorem State.setSlice_host (s : State) (sl : Nat) (v : Slice) : (s.setSlice sl v).host = s.host := rfl
@[simp] theorem State.setSlice_regs (s : State) (sl : Nat) (v : Slice) : (s.setSlice sl v).regs = s.regs := rfl
@[simp] theorem State.setSlice_flt (s : State) (sl : Nat) (v : Slice) : (s.setSlice sl v).flt = s.flt := rfl
@[simp] theorem State.setSlice_cnt (s : State) (sl : Nat) (v : Slice) : (s.setSlice sl v).cnt = s.cnt := rfl
@[simp] theorem State.setSlice_ctx (s : State) (sl : Nat) (v : Slice) : (s.setSlice sl v).ctx = s.ctx := rfl
@[simp] theorem State.setSlice_ctxShadow (s : State) (sl : Nat) (v : Slice) : (s.setSlice sl v).ctxShadow = s.ctxShadow := rfl
@[simp] theorem State.setSlice_records (s : State) (sl : Nat) (v : Slice) : (s.setSlice sl v).records = s.records := rfl
@[simp] theorem State.setSlice_forgotten (s : State) (sl : Nat) (v : Slice) : (s.setSlice sl v).forgotten = s.forgotten := rfl
@[simp] theorem State.setSlice_chans (s : State) (sl : Nat) (v : Slice) : (s.setSlice sl v).chans = s.chans := rfl
@[simp] theorem State.setSlice_terms (s : State) (sl : Nat) (v : Slice) : (s.setSlice sl v).terms = s.terms := rfl
@[simp] theorem State.setSlice_gnt (s : State) (sl : Nat) (v : Slice) : (s.setSlice sl v).gnt = s.gnt := rfl
@[simp] theorem State.setSlice_phyFrame (s : State) (sl : Nat) (v : Slice) : (s.setSlice sl v).phyFrame = s.phyFrame := rfl
@[simp] theorem State.setSlice_sdus (s : State) (sl : Nat) (v : Slice) : (s.setSlice sl v).sdus = s.sdus := rfl
@[simp] theorem State.setSlice_allocs (s : State) (sl : Nat) (v : Slice) : (s.setSlice sl v).allocs = s.allocs := rfl
@[simp] theorem State.setSlice_treeRot (s : State) (sl : Nat) (v : Slice) : (s.setSlice sl v).treeRot = s.treeRot := rfl
@[simp] theorem State.setSlice_drl (s : State) (sl : Nat) (v : Slice) : (s.setSlice sl v).drl = s.drl := rfl
@[simp] theorem State.setSlice_fwd (s : State) (sl : Nat) (v : Slice) : (s.setSlice sl v).fwd = s.fwd := rfl
@[simp] theorem State.setSlice_sw (s : State) (sl : Nat) (v : Slice) : (s.setSlice sl v).sw = s.sw := rfl
@[simp] theorem State.setSlice_tm (s : State) (sl : Nat) (v : Slice) : (s.setSlice sl v).tm = s.tm := rfl
@[simp] theorem State.setSlice_cph (s : State) (sl : Nat) (v : Slice) : (s.setSlice sl v).cph = s.cph := rfl
@[simp] theorem State.setSlice_upl (s : State) (sl : Nat) (v : Slice) : (s.setSlice sl v).upl = s.upl := rfl
@[simp] theorem State.setSlice_hbm (s : State) (sl : Nat) (v : Slice) : (s.setSlice sl v).hbm = s.hbm := rfl
@[simp] theorem State.setSlice_cxm (s : State) (sl : Nat) (v : Slice) : (s.setSlice sl v).cxm = s.cxm := rfl
@[simp] theorem State.setSlice_mgt (s : State) (sl : Nat) (v : Slice) : (s.setSlice sl v).mgt = s.mgt := rfl

@[simp] theorem State.updSlice_pending (s : State) (sl : Nat) (f : Slice → Slice) : (s.updSlice sl f).pending = s.pending := rfl
@[simp] theorem State.updSlice_outs (s : State) (sl : Nat) (f : Slice → Slice) : (s.updSlice sl f).outs = s.outs := rfl
@[simp] theorem State.updSlice_free (s : State) (sl : Nat) (f : Slice → Slice) : (s.updSlice sl f).free = s.free := rfl
@[simp] theorem State.updSlice_time (s : State) (sl : Nat) (f : Slice → Slice) : (s.updSlice sl f).time = s.time := rfl
@[simp] theorem State.updSlice_life (s : State) (sl : Nat) (f : Slice → Slice) : (s.updSlice sl f).life = s.life := rfl
@[simp] theorem State.updSlice_host (s : State) (sl : Nat) (f : Slice → Slice) : (s.updSlice sl f).host = s.host := rfl
@[simp] theorem State.updSlice_regs (s : State) (sl : Nat) (f : Slice → Slice) : (s.updSlice sl f).regs = s.regs := rfl
@[simp] theorem State.updSlice_flt (s : State) (sl : Nat) (f : Slice → Slice) : (s.updSlice sl f).flt = s.flt := rfl
@[simp] theorem State.updSlice_cnt (s : State) (sl : Nat) (f : Slice → Slice) : (s.updSlice sl f).cnt = s.cnt := rfl
@[simp] theorem State.updSlice_ctx (s : State) (sl : Nat) (f : Slice → Slice) : (s.updSlice sl f).ctx = s.ctx := rfl
@[simp] theorem State.updSlice_ctxShadow (s : State) (sl : Nat) (f : Slice → Slice) : (s.updSlice sl f).ctxShadow = s.ctxShadow := rfl
@[simp] theorem State.updSlice_records (s : State) (sl : Nat) (f : Slice → Slice) : (s.updSlice sl f).records = s.records := rfl
@[simp] theorem State.updSlice_forgotten (s : State) (sl : Nat) (f : Slice → Slice) : (s.updSlice sl f).forgotten = s.forgotten := rfl
@[simp] theorem State.updSlice_chans (s : State) (sl : Nat) (f : Slice → Slice) : (s.updSlice sl f).chans = s.chans := rfl
@[simp] theorem State.updSlice_terms (s : State) (sl : Nat) (f : Slice → Slice) : (s.updSlice sl f).terms = s.terms := rfl
@[simp] theorem State.updSlice_gnt (s : State) (sl : Nat) (f : Slice → Slice) : (s.updSlice sl f).gnt = s.gnt := rfl
@[simp] theorem State.updSlice_phyFrame (s : State) (sl : Nat) (f : Slice → Slice) : (s.updSlice sl f).phyFrame = s.phyFrame := rfl
@[simp] theorem State.updSlice_sdus (s : State) (sl : Nat) (f : Slice → Slice) : (s.updSlice sl f).sdus = s.sdus := rfl
@[simp] theorem State.updSlice_allocs (s : State) (sl : Nat) (f : Slice → Slice) : (s.updSlice sl f).allocs = s.allocs := rfl
@[simp] theorem State.updSlice_treeRot (s : State) (sl : Nat) (f : Slice → Slice) : (s.updSlice sl f).treeRot = s.treeRot := rfl
@[simp] theorem State.updSlice_drl (s : State) (sl : Nat) (f : Slice → Slice) : (s.updSlice sl f).drl = s.drl := rfl
@[simp] theorem State.updSlice_fwd (s : State) (sl : Nat) (f : Slice → Slice) : (s.updSlice sl f).fwd = s.fwd := rfl
@[simp] theorem State.updSlice_sw (s : State) (sl : Nat) (f : Slice → Slice) : (s.updSlice sl f).sw = s.sw := rfl
@[simp] theorem State.updSlice_tm (s : State) (sl : Nat) (f : Slice → Slice) : (s.updSlice sl f).tm = s.tm := rfl
@[simp] theorem State.updSlice_cph (s : State) (sl : Nat) (f : Slice → Slice) : (s.updSlice sl f).cph = s.cph := rfl
@[simp] theorem State.updSlice_upl (s : State) (sl : Nat) (f : Slice → Slice) : (s.updSlice sl f).upl = s.upl := rfl
@[simp] theorem State.updSlice_hbm (s : State) (sl : Nat) (f : Slice → Slice) : (s.updSlice sl f).hbm = s.hbm := rfl
@[simp] theorem State.updSlice_cxm (s : State) (sl : Nat) (f : Slice → Slice) : (s.updSlice sl f).cxm = s.cxm := rfl
@[simp] theorem State.updSlice_mgt (s : State) (sl : Nat) (f : Slice → Slice) : (s.updSlice sl f).mgt = s.mgt := rfl

@[simp] theorem State.setPort_pending (s : State) (p : Nat) (v : UplPort) : (s.setPort p v).pending = s.pending := rfl
@[simp] theorem State.setPort_outs (s : State) (p : Nat) (v : UplPort) : (s.setPort p v).outs = s.outs := rfl
@[simp] theorem State.setPort_free (s : State) (p : Nat) (v : UplPort) : (s.setPort p v).free = s.free := rfl
@[simp] theorem State.setPort_time (s : State) (p : Nat) (v : UplPort) : (s.setPort p v).time = s.time := rfl
@[simp] theorem State.setPort_life (s : State) (p : Nat) (v : UplPort) : (s.setPort p v).life = s.life := rfl
@[simp] theorem State.setPort_host (s : State) (p : Nat) (v : UplPort) : (s.setPort p v).host = s.host := rfl
@[simp] theorem State.setPort_regs (s : State) (p : Nat) (v : UplPort) : (s.setPort p v).regs = s.regs := rfl
@[simp] theorem State.setPort_flt (s : State) (p : Nat) (v : UplPort) : (s.setPort p v).flt = s.flt := rfl
@[simp] theorem State.setPort_cnt (s : State) (p : Nat) (v : UplPort) : (s.setPort p v).cnt = s.cnt := rfl
@[simp] theorem State.setPort_ctx (s : State) (p : Nat) (v : UplPort) : (s.setPort p v).ctx = s.ctx := rfl
@[simp] theorem State.setPort_ctxShadow (s : State) (p : Nat) (v : UplPort) : (s.setPort p v).ctxShadow = s.ctxShadow := rfl
@[simp] theorem State.setPort_records (s : State) (p : Nat) (v : UplPort) : (s.setPort p v).records = s.records := rfl
@[simp] theorem State.setPort_forgotten (s : State) (p : Nat) (v : UplPort) : (s.setPort p v).forgotten = s.forgotten := rfl
@[simp] theorem State.setPort_chans (s : State) (p : Nat) (v : UplPort) : (s.setPort p v).chans = s.chans := rfl
@[simp] theorem State.setPort_terms (s : State) (p : Nat) (v : UplPort) : (s.setPort p v).terms = s.terms := rfl
@[simp] theorem State.setPort_gnt (s : State) (p : Nat) (v : UplPort) : (s.setPort p v).gnt = s.gnt := rfl
@[simp] theorem State.setPort_phyFrame (s : State) (p : Nat) (v : UplPort) : (s.setPort p v).phyFrame = s.phyFrame := rfl
@[simp] theorem State.setPort_sdus (s : State) (p : Nat) (v : UplPort) : (s.setPort p v).sdus = s.sdus := rfl
@[simp] theorem State.setPort_allocs (s : State) (p : Nat) (v : UplPort) : (s.setPort p v).allocs = s.allocs := rfl
@[simp] theorem State.setPort_treeRot (s : State) (p : Nat) (v : UplPort) : (s.setPort p v).treeRot = s.treeRot := rfl
@[simp] theorem State.setPort_drl (s : State) (p : Nat) (v : UplPort) : (s.setPort p v).drl = s.drl := rfl
@[simp] theorem State.setPort_slices (s : State) (p : Nat) (v : UplPort) : (s.setPort p v).slices = s.slices := rfl
@[simp] theorem State.setPort_fwd (s : State) (p : Nat) (v : UplPort) : (s.setPort p v).fwd = s.fwd := rfl
@[simp] theorem State.setPort_sw (s : State) (p : Nat) (v : UplPort) : (s.setPort p v).sw = s.sw := rfl
@[simp] theorem State.setPort_tm (s : State) (p : Nat) (v : UplPort) : (s.setPort p v).tm = s.tm := rfl
@[simp] theorem State.setPort_cph (s : State) (p : Nat) (v : UplPort) : (s.setPort p v).cph = s.cph := rfl
@[simp] theorem State.setPort_hbm (s : State) (p : Nat) (v : UplPort) : (s.setPort p v).hbm = s.hbm := rfl
@[simp] theorem State.setPort_cxm (s : State) (p : Nat) (v : UplPort) : (s.setPort p v).cxm = s.cxm := rfl
@[simp] theorem State.setPort_mgt (s : State) (p : Nat) (v : UplPort) : (s.setPort p v).mgt = s.mgt := rfl

@[simp] theorem State.updPort_pending (s : State) (p : Nat) (f : UplPort → UplPort) : (s.updPort p f).pending = s.pending := rfl
@[simp] theorem State.updPort_outs (s : State) (p : Nat) (f : UplPort → UplPort) : (s.updPort p f).outs = s.outs := rfl
@[simp] theorem State.updPort_free (s : State) (p : Nat) (f : UplPort → UplPort) : (s.updPort p f).free = s.free := rfl
@[simp] theorem State.updPort_time (s : State) (p : Nat) (f : UplPort → UplPort) : (s.updPort p f).time = s.time := rfl
@[simp] theorem State.updPort_life (s : State) (p : Nat) (f : UplPort → UplPort) : (s.updPort p f).life = s.life := rfl
@[simp] theorem State.updPort_host (s : State) (p : Nat) (f : UplPort → UplPort) : (s.updPort p f).host = s.host := rfl
@[simp] theorem State.updPort_regs (s : State) (p : Nat) (f : UplPort → UplPort) : (s.updPort p f).regs = s.regs := rfl
@[simp] theorem State.updPort_flt (s : State) (p : Nat) (f : UplPort → UplPort) : (s.updPort p f).flt = s.flt := rfl
@[simp] theorem State.updPort_cnt (s : State) (p : Nat) (f : UplPort → UplPort) : (s.updPort p f).cnt = s.cnt := rfl
@[simp] theorem State.updPort_ctx (s : State) (p : Nat) (f : UplPort → UplPort) : (s.updPort p f).ctx = s.ctx := rfl
@[simp] theorem State.updPort_ctxShadow (s : State) (p : Nat) (f : UplPort → UplPort) : (s.updPort p f).ctxShadow = s.ctxShadow := rfl
@[simp] theorem State.updPort_records (s : State) (p : Nat) (f : UplPort → UplPort) : (s.updPort p f).records = s.records := rfl
@[simp] theorem State.updPort_forgotten (s : State) (p : Nat) (f : UplPort → UplPort) : (s.updPort p f).forgotten = s.forgotten := rfl
@[simp] theorem State.updPort_chans (s : State) (p : Nat) (f : UplPort → UplPort) : (s.updPort p f).chans = s.chans := rfl
@[simp] theorem State.updPort_terms (s : State) (p : Nat) (f : UplPort → UplPort) : (s.updPort p f).terms = s.terms := rfl
@[simp] theorem State.updPort_gnt (s : State) (p : Nat) (f : UplPort → UplPort) : (s.updPort p f).gnt = s.gnt := rfl
@[simp] theorem State.updPort_phyFrame (s : State) (p : Nat) (f : UplPort → UplPort) : (s.updPort p f).phyFrame = s.phyFrame := rfl
@[simp] theorem State.updPort_sdus (s : State) (p : Nat) (f : UplPort → UplPort) : (s.updPort p f).sdus = s.sdus := rfl
@[simp] theorem State.updPort_allocs (s : State) (p : Nat) (f : UplPort → UplPort) : (s.updPort p f).allocs = s.allocs := rfl
@[simp] theorem State.updPort_treeRot (s : State) (p : Nat) (f : UplPort → UplPort) : (s.updPort p f).treeRot = s.treeRot := rfl
@[simp] theorem State.updPort_drl (s : State) (p : Nat) (f : UplPort → UplPort) : (s.updPort p f).drl = s.drl := rfl
@[simp] theorem State.updPort_slices (s : State) (p : Nat) (f : UplPort → UplPort) : (s.updPort p f).slices = s.slices := rfl
@[simp] theorem State.updPort_fwd (s : State) (p : Nat) (f : UplPort → UplPort) : (s.updPort p f).fwd = s.fwd := rfl
@[simp] theorem State.updPort_sw (s : State) (p : Nat) (f : UplPort → UplPort) : (s.updPort p f).sw = s.sw := rfl
@[simp] theorem State.updPort_tm (s : State) (p : Nat) (f : UplPort → UplPort) : (s.updPort p f).tm = s.tm := rfl
@[simp] theorem State.updPort_cph (s : State) (p : Nat) (f : UplPort → UplPort) : (s.updPort p f).cph = s.cph := rfl
@[simp] theorem State.updPort_hbm (s : State) (p : Nat) (f : UplPort → UplPort) : (s.updPort p f).hbm = s.hbm := rfl
@[simp] theorem State.updPort_cxm (s : State) (p : Nat) (f : UplPort → UplPort) : (s.updPort p f).cxm = s.cxm := rfl
@[simp] theorem State.updPort_mgt (s : State) (p : Nat) (f : UplPort → UplPort) : (s.updPort p f).mgt = s.mgt := rfl

@[simp] theorem State.setKeySlot_pending (s : State) (k : Nat) (v : KeySlot) : (s.setKeySlot k v).pending = s.pending := rfl
@[simp] theorem State.setKeySlot_outs (s : State) (k : Nat) (v : KeySlot) : (s.setKeySlot k v).outs = s.outs := rfl
@[simp] theorem State.setKeySlot_free (s : State) (k : Nat) (v : KeySlot) : (s.setKeySlot k v).free = s.free := rfl
@[simp] theorem State.setKeySlot_time (s : State) (k : Nat) (v : KeySlot) : (s.setKeySlot k v).time = s.time := rfl
@[simp] theorem State.setKeySlot_life (s : State) (k : Nat) (v : KeySlot) : (s.setKeySlot k v).life = s.life := rfl
@[simp] theorem State.setKeySlot_host (s : State) (k : Nat) (v : KeySlot) : (s.setKeySlot k v).host = s.host := rfl
@[simp] theorem State.setKeySlot_regs (s : State) (k : Nat) (v : KeySlot) : (s.setKeySlot k v).regs = s.regs := rfl
@[simp] theorem State.setKeySlot_flt (s : State) (k : Nat) (v : KeySlot) : (s.setKeySlot k v).flt = s.flt := rfl
@[simp] theorem State.setKeySlot_cnt (s : State) (k : Nat) (v : KeySlot) : (s.setKeySlot k v).cnt = s.cnt := rfl
@[simp] theorem State.setKeySlot_ctx (s : State) (k : Nat) (v : KeySlot) : (s.setKeySlot k v).ctx = s.ctx := rfl
@[simp] theorem State.setKeySlot_ctxShadow (s : State) (k : Nat) (v : KeySlot) : (s.setKeySlot k v).ctxShadow = s.ctxShadow := rfl
@[simp] theorem State.setKeySlot_records (s : State) (k : Nat) (v : KeySlot) : (s.setKeySlot k v).records = s.records := rfl
@[simp] theorem State.setKeySlot_forgotten (s : State) (k : Nat) (v : KeySlot) : (s.setKeySlot k v).forgotten = s.forgotten := rfl
@[simp] theorem State.setKeySlot_chans (s : State) (k : Nat) (v : KeySlot) : (s.setKeySlot k v).chans = s.chans := rfl
@[simp] theorem State.setKeySlot_terms (s : State) (k : Nat) (v : KeySlot) : (s.setKeySlot k v).terms = s.terms := rfl
@[simp] theorem State.setKeySlot_gnt (s : State) (k : Nat) (v : KeySlot) : (s.setKeySlot k v).gnt = s.gnt := rfl
@[simp] theorem State.setKeySlot_phyFrame (s : State) (k : Nat) (v : KeySlot) : (s.setKeySlot k v).phyFrame = s.phyFrame := rfl
@[simp] theorem State.setKeySlot_sdus (s : State) (k : Nat) (v : KeySlot) : (s.setKeySlot k v).sdus = s.sdus := rfl
@[simp] theorem State.setKeySlot_allocs (s : State) (k : Nat) (v : KeySlot) : (s.setKeySlot k v).allocs = s.allocs := rfl
@[simp] theorem State.setKeySlot_treeRot (s : State) (k : Nat) (v : KeySlot) : (s.setKeySlot k v).treeRot = s.treeRot := rfl
@[simp] theorem State.setKeySlot_drl (s : State) (k : Nat) (v : KeySlot) : (s.setKeySlot k v).drl = s.drl := rfl
@[simp] theorem State.setKeySlot_slices (s : State) (k : Nat) (v : KeySlot) : (s.setKeySlot k v).slices = s.slices := rfl
@[simp] theorem State.setKeySlot_fwd (s : State) (k : Nat) (v : KeySlot) : (s.setKeySlot k v).fwd = s.fwd := rfl
@[simp] theorem State.setKeySlot_sw (s : State) (k : Nat) (v : KeySlot) : (s.setKeySlot k v).sw = s.sw := rfl
@[simp] theorem State.setKeySlot_tm (s : State) (k : Nat) (v : KeySlot) : (s.setKeySlot k v).tm = s.tm := rfl
@[simp] theorem State.setKeySlot_upl (s : State) (k : Nat) (v : KeySlot) : (s.setKeySlot k v).upl = s.upl := rfl
@[simp] theorem State.setKeySlot_hbm (s : State) (k : Nat) (v : KeySlot) : (s.setKeySlot k v).hbm = s.hbm := rfl
@[simp] theorem State.setKeySlot_cxm (s : State) (k : Nat) (v : KeySlot) : (s.setKeySlot k v).cxm = s.cxm := rfl
@[simp] theorem State.setKeySlot_mgt (s : State) (k : Nat) (v : KeySlot) : (s.setKeySlot k v).mgt = s.mgt := rfl

@[simp] theorem State.setRing_pending (s : State) (r : Nat) (v : Ring) : (s.setRing r v).pending = s.pending := rfl
@[simp] theorem State.setRing_outs (s : State) (r : Nat) (v : Ring) : (s.setRing r v).outs = s.outs := rfl
@[simp] theorem State.setRing_free (s : State) (r : Nat) (v : Ring) : (s.setRing r v).free = s.free := rfl
@[simp] theorem State.setRing_time (s : State) (r : Nat) (v : Ring) : (s.setRing r v).time = s.time := rfl
@[simp] theorem State.setRing_life (s : State) (r : Nat) (v : Ring) : (s.setRing r v).life = s.life := rfl
@[simp] theorem State.setRing_regs (s : State) (r : Nat) (v : Ring) : (s.setRing r v).regs = s.regs := rfl
@[simp] theorem State.setRing_flt (s : State) (r : Nat) (v : Ring) : (s.setRing r v).flt = s.flt := rfl
@[simp] theorem State.setRing_cnt (s : State) (r : Nat) (v : Ring) : (s.setRing r v).cnt = s.cnt := rfl
@[simp] theorem State.setRing_ctx (s : State) (r : Nat) (v : Ring) : (s.setRing r v).ctx = s.ctx := rfl
@[simp] theorem State.setRing_ctxShadow (s : State) (r : Nat) (v : Ring) : (s.setRing r v).ctxShadow = s.ctxShadow := rfl
@[simp] theorem State.setRing_records (s : State) (r : Nat) (v : Ring) : (s.setRing r v).records = s.records := rfl
@[simp] theorem State.setRing_forgotten (s : State) (r : Nat) (v : Ring) : (s.setRing r v).forgotten = s.forgotten := rfl
@[simp] theorem State.setRing_chans (s : State) (r : Nat) (v : Ring) : (s.setRing r v).chans = s.chans := rfl
@[simp] theorem State.setRing_terms (s : State) (r : Nat) (v : Ring) : (s.setRing r v).terms = s.terms := rfl
@[simp] theorem State.setRing_gnt (s : State) (r : Nat) (v : Ring) : (s.setRing r v).gnt = s.gnt := rfl
@[simp] theorem State.setRing_phyFrame (s : State) (r : Nat) (v : Ring) : (s.setRing r v).phyFrame = s.phyFrame := rfl
@[simp] theorem State.setRing_sdus (s : State) (r : Nat) (v : Ring) : (s.setRing r v).sdus = s.sdus := rfl
@[simp] theorem State.setRing_allocs (s : State) (r : Nat) (v : Ring) : (s.setRing r v).allocs = s.allocs := rfl
@[simp] theorem State.setRing_treeRot (s : State) (r : Nat) (v : Ring) : (s.setRing r v).treeRot = s.treeRot := rfl
@[simp] theorem State.setRing_drl (s : State) (r : Nat) (v : Ring) : (s.setRing r v).drl = s.drl := rfl
@[simp] theorem State.setRing_slices (s : State) (r : Nat) (v : Ring) : (s.setRing r v).slices = s.slices := rfl
@[simp] theorem State.setRing_fwd (s : State) (r : Nat) (v : Ring) : (s.setRing r v).fwd = s.fwd := rfl
@[simp] theorem State.setRing_sw (s : State) (r : Nat) (v : Ring) : (s.setRing r v).sw = s.sw := rfl
@[simp] theorem State.setRing_tm (s : State) (r : Nat) (v : Ring) : (s.setRing r v).tm = s.tm := rfl
@[simp] theorem State.setRing_cph (s : State) (r : Nat) (v : Ring) : (s.setRing r v).cph = s.cph := rfl
@[simp] theorem State.setRing_upl (s : State) (r : Nat) (v : Ring) : (s.setRing r v).upl = s.upl := rfl
@[simp] theorem State.setRing_hbm (s : State) (r : Nat) (v : Ring) : (s.setRing r v).hbm = s.hbm := rfl
@[simp] theorem State.setRing_cxm (s : State) (r : Nat) (v : Ring) : (s.setRing r v).cxm = s.cxm := rfl
@[simp] theorem State.setRing_mgt (s : State) (r : Nat) (v : Ring) : (s.setRing r v).mgt = s.mgt := rfl

@[simp] theorem State.updRing_pending (s : State) (r : Nat) (f : Ring → Ring) : (s.updRing r f).pending = s.pending := rfl
@[simp] theorem State.updRing_outs (s : State) (r : Nat) (f : Ring → Ring) : (s.updRing r f).outs = s.outs := rfl
@[simp] theorem State.updRing_free (s : State) (r : Nat) (f : Ring → Ring) : (s.updRing r f).free = s.free := rfl
@[simp] theorem State.updRing_time (s : State) (r : Nat) (f : Ring → Ring) : (s.updRing r f).time = s.time := rfl
@[simp] theorem State.updRing_life (s : State) (r : Nat) (f : Ring → Ring) : (s.updRing r f).life = s.life := rfl
@[simp] theorem State.updRing_regs (s : State) (r : Nat) (f : Ring → Ring) : (s.updRing r f).regs = s.regs := rfl
@[simp] theorem State.updRing_flt (s : State) (r : Nat) (f : Ring → Ring) : (s.updRing r f).flt = s.flt := rfl
@[simp] theorem State.updRing_cnt (s : State) (r : Nat) (f : Ring → Ring) : (s.updRing r f).cnt = s.cnt := rfl
@[simp] theorem State.updRing_ctx (s : State) (r : Nat) (f : Ring → Ring) : (s.updRing r f).ctx = s.ctx := rfl
@[simp] theorem State.updRing_ctxShadow (s : State) (r : Nat) (f : Ring → Ring) : (s.updRing r f).ctxShadow = s.ctxShadow := rfl
@[simp] theorem State.updRing_records (s : State) (r : Nat) (f : Ring → Ring) : (s.updRing r f).records = s.records := rfl
@[simp] theorem State.updRing_forgotten (s : State) (r : Nat) (f : Ring → Ring) : (s.updRing r f).forgotten = s.forgotten := rfl
@[simp] theorem State.updRing_chans (s : State) (r : Nat) (f : Ring → Ring) : (s.updRing r f).chans = s.chans := rfl
@[simp] theorem State.updRing_terms (s : State) (r : Nat) (f : Ring → Ring) : (s.updRing r f).terms = s.terms := rfl
@[simp] theorem State.updRing_gnt (s : State) (r : Nat) (f : Ring → Ring) : (s.updRing r f).gnt = s.gnt := rfl
@[simp] theorem State.updRing_phyFrame (s : State) (r : Nat) (f : Ring → Ring) : (s.updRing r f).phyFrame = s.phyFrame := rfl
@[simp] theorem State.updRing_sdus (s : State) (r : Nat) (f : Ring → Ring) : (s.updRing r f).sdus = s.sdus := rfl
@[simp] theorem State.updRing_allocs (s : State) (r : Nat) (f : Ring → Ring) : (s.updRing r f).allocs = s.allocs := rfl
@[simp] theorem State.updRing_treeRot (s : State) (r : Nat) (f : Ring → Ring) : (s.updRing r f).treeRot = s.treeRot := rfl
@[simp] theorem State.updRing_drl (s : State) (r : Nat) (f : Ring → Ring) : (s.updRing r f).drl = s.drl := rfl
@[simp] theorem State.updRing_slices (s : State) (r : Nat) (f : Ring → Ring) : (s.updRing r f).slices = s.slices := rfl
@[simp] theorem State.updRing_fwd (s : State) (r : Nat) (f : Ring → Ring) : (s.updRing r f).fwd = s.fwd := rfl
@[simp] theorem State.updRing_sw (s : State) (r : Nat) (f : Ring → Ring) : (s.updRing r f).sw = s.sw := rfl
@[simp] theorem State.updRing_tm (s : State) (r : Nat) (f : Ring → Ring) : (s.updRing r f).tm = s.tm := rfl
@[simp] theorem State.updRing_cph (s : State) (r : Nat) (f : Ring → Ring) : (s.updRing r f).cph = s.cph := rfl
@[simp] theorem State.updRing_upl (s : State) (r : Nat) (f : Ring → Ring) : (s.updRing r f).upl = s.upl := rfl
@[simp] theorem State.updRing_hbm (s : State) (r : Nat) (f : Ring → Ring) : (s.updRing r f).hbm = s.hbm := rfl
@[simp] theorem State.updRing_cxm (s : State) (r : Nat) (f : Ring → Ring) : (s.updRing r f).cxm = s.cxm := rfl
@[simp] theorem State.updRing_mgt (s : State) (r : Nat) (f : Ring → Ring) : (s.updRing r f).mgt = s.mgt := rfl

@[simp] theorem State.setIntGroup_pending (s : State) (g : Nat) (v : IntGroup) : (s.setIntGroup g v).pending = s.pending := rfl
@[simp] theorem State.setIntGroup_outs (s : State) (g : Nat) (v : IntGroup) : (s.setIntGroup g v).outs = s.outs := rfl
@[simp] theorem State.setIntGroup_free (s : State) (g : Nat) (v : IntGroup) : (s.setIntGroup g v).free = s.free := rfl
@[simp] theorem State.setIntGroup_time (s : State) (g : Nat) (v : IntGroup) : (s.setIntGroup g v).time = s.time := rfl
@[simp] theorem State.setIntGroup_life (s : State) (g : Nat) (v : IntGroup) : (s.setIntGroup g v).life = s.life := rfl
@[simp] theorem State.setIntGroup_regs (s : State) (g : Nat) (v : IntGroup) : (s.setIntGroup g v).regs = s.regs := rfl
@[simp] theorem State.setIntGroup_flt (s : State) (g : Nat) (v : IntGroup) : (s.setIntGroup g v).flt = s.flt := rfl
@[simp] theorem State.setIntGroup_cnt (s : State) (g : Nat) (v : IntGroup) : (s.setIntGroup g v).cnt = s.cnt := rfl
@[simp] theorem State.setIntGroup_ctx (s : State) (g : Nat) (v : IntGroup) : (s.setIntGroup g v).ctx = s.ctx := rfl
@[simp] theorem State.setIntGroup_ctxShadow (s : State) (g : Nat) (v : IntGroup) : (s.setIntGroup g v).ctxShadow = s.ctxShadow := rfl
@[simp] theorem State.setIntGroup_records (s : State) (g : Nat) (v : IntGroup) : (s.setIntGroup g v).records = s.records := rfl
@[simp] theorem State.setIntGroup_forgotten (s : State) (g : Nat) (v : IntGroup) : (s.setIntGroup g v).forgotten = s.forgotten := rfl
@[simp] theorem State.setIntGroup_chans (s : State) (g : Nat) (v : IntGroup) : (s.setIntGroup g v).chans = s.chans := rfl
@[simp] theorem State.setIntGroup_terms (s : State) (g : Nat) (v : IntGroup) : (s.setIntGroup g v).terms = s.terms := rfl
@[simp] theorem State.setIntGroup_gnt (s : State) (g : Nat) (v : IntGroup) : (s.setIntGroup g v).gnt = s.gnt := rfl
@[simp] theorem State.setIntGroup_phyFrame (s : State) (g : Nat) (v : IntGroup) : (s.setIntGroup g v).phyFrame = s.phyFrame := rfl
@[simp] theorem State.setIntGroup_sdus (s : State) (g : Nat) (v : IntGroup) : (s.setIntGroup g v).sdus = s.sdus := rfl
@[simp] theorem State.setIntGroup_allocs (s : State) (g : Nat) (v : IntGroup) : (s.setIntGroup g v).allocs = s.allocs := rfl
@[simp] theorem State.setIntGroup_treeRot (s : State) (g : Nat) (v : IntGroup) : (s.setIntGroup g v).treeRot = s.treeRot := rfl
@[simp] theorem State.setIntGroup_drl (s : State) (g : Nat) (v : IntGroup) : (s.setIntGroup g v).drl = s.drl := rfl
@[simp] theorem State.setIntGroup_slices (s : State) (g : Nat) (v : IntGroup) : (s.setIntGroup g v).slices = s.slices := rfl
@[simp] theorem State.setIntGroup_fwd (s : State) (g : Nat) (v : IntGroup) : (s.setIntGroup g v).fwd = s.fwd := rfl
@[simp] theorem State.setIntGroup_sw (s : State) (g : Nat) (v : IntGroup) : (s.setIntGroup g v).sw = s.sw := rfl
@[simp] theorem State.setIntGroup_tm (s : State) (g : Nat) (v : IntGroup) : (s.setIntGroup g v).tm = s.tm := rfl
@[simp] theorem State.setIntGroup_cph (s : State) (g : Nat) (v : IntGroup) : (s.setIntGroup g v).cph = s.cph := rfl
@[simp] theorem State.setIntGroup_upl (s : State) (g : Nat) (v : IntGroup) : (s.setIntGroup g v).upl = s.upl := rfl
@[simp] theorem State.setIntGroup_hbm (s : State) (g : Nat) (v : IntGroup) : (s.setIntGroup g v).hbm = s.hbm := rfl
@[simp] theorem State.setIntGroup_cxm (s : State) (g : Nat) (v : IntGroup) : (s.setIntGroup g v).cxm = s.cxm := rfl
@[simp] theorem State.setIntGroup_mgt (s : State) (g : Nat) (v : IntGroup) : (s.setIntGroup g v).mgt = s.mgt := rfl

@[simp] theorem State.finish_pending (s : State) (id st res : Nat) : (s.finish id st res).pending = s.pending := rfl
@[simp] theorem State.finish_outs (s : State) (id st res : Nat) : (s.finish id st res).outs = s.outs := rfl
@[simp] theorem State.finish_free (s : State) (id st res : Nat) : (s.finish id st res).free = s.free := rfl
@[simp] theorem State.finish_time (s : State) (id st res : Nat) : (s.finish id st res).time = s.time := rfl
@[simp] theorem State.finish_life (s : State) (id st res : Nat) : (s.finish id st res).life = s.life := rfl
@[simp] theorem State.finish_regs (s : State) (id st res : Nat) : (s.finish id st res).regs = s.regs := rfl
@[simp] theorem State.finish_flt (s : State) (id st res : Nat) : (s.finish id st res).flt = s.flt := rfl
@[simp] theorem State.finish_cnt (s : State) (id st res : Nat) : (s.finish id st res).cnt = s.cnt := rfl
@[simp] theorem State.finish_ctx (s : State) (id st res : Nat) : (s.finish id st res).ctx = s.ctx := rfl
@[simp] theorem State.finish_ctxShadow (s : State) (id st res : Nat) : (s.finish id st res).ctxShadow = s.ctxShadow := rfl
@[simp] theorem State.finish_records (s : State) (id st res : Nat) : (s.finish id st res).records = s.records := rfl
@[simp] theorem State.finish_forgotten (s : State) (id st res : Nat) : (s.finish id st res).forgotten = s.forgotten := rfl
@[simp] theorem State.finish_chans (s : State) (id st res : Nat) : (s.finish id st res).chans = s.chans := rfl
@[simp] theorem State.finish_terms (s : State) (id st res : Nat) : (s.finish id st res).terms = s.terms := rfl
@[simp] theorem State.finish_gnt (s : State) (id st res : Nat) : (s.finish id st res).gnt = s.gnt := rfl
@[simp] theorem State.finish_phyFrame (s : State) (id st res : Nat) : (s.finish id st res).phyFrame = s.phyFrame := rfl
@[simp] theorem State.finish_sdus (s : State) (id st res : Nat) : (s.finish id st res).sdus = s.sdus := rfl
@[simp] theorem State.finish_allocs (s : State) (id st res : Nat) : (s.finish id st res).allocs = s.allocs := rfl
@[simp] theorem State.finish_treeRot (s : State) (id st res : Nat) : (s.finish id st res).treeRot = s.treeRot := rfl
@[simp] theorem State.finish_drl (s : State) (id st res : Nat) : (s.finish id st res).drl = s.drl := rfl
@[simp] theorem State.finish_slices (s : State) (id st res : Nat) : (s.finish id st res).slices = s.slices := rfl
@[simp] theorem State.finish_fwd (s : State) (id st res : Nat) : (s.finish id st res).fwd = s.fwd := rfl
@[simp] theorem State.finish_sw (s : State) (id st res : Nat) : (s.finish id st res).sw = s.sw := rfl
@[simp] theorem State.finish_tm (s : State) (id st res : Nat) : (s.finish id st res).tm = s.tm := rfl
@[simp] theorem State.finish_cph (s : State) (id st res : Nat) : (s.finish id st res).cph = s.cph := rfl
@[simp] theorem State.finish_upl (s : State) (id st res : Nat) : (s.finish id st res).upl = s.upl := rfl
@[simp] theorem State.finish_hbm (s : State) (id st res : Nat) : (s.finish id st res).hbm = s.hbm := rfl
@[simp] theorem State.finish_cxm (s : State) (id st res : Nat) : (s.finish id st res).cxm = s.cxm := rfl
@[simp] theorem State.finish_mgt (s : State) (id st res : Nat) : (s.finish id st res).mgt = s.mgt := rfl

@[simp] theorem State.emit_outs (s : State) (o : Out) : (s.emit o).outs = s.outs ++ [o] := rfl
@[simp] theorem State.begin_outs (s : State) (t : Nat) : (s.begin t).outs = [] := rfl
@[simp] theorem State.begin_time (s : State) (t : Nat) : (s.begin t).time = s.time.advance s.life.por t := rfl
@[simp] theorem State.setRing_slots (s : State) (r : Nat) (v : Ring) : (s.setRing r v).host.slots = s.host.slots := rfl
@[simp] theorem State.setRing_current (s : State) (r : Nat) (v : Ring) : (s.setRing r v).host.current = s.host.current := rfl
@[simp] theorem State.setRing_inReset (s : State) (r : Nat) (v : Ring) : (s.setRing r v).host.inReset = s.host.inReset := rfl
@[simp] theorem State.setIntGroup_slots (s : State) (g : Nat) (v : IntGroup) : (s.setIntGroup g v).host.slots = s.host.slots := rfl
@[simp] theorem State.setIntGroup_rings (s : State) (g : Nat) (v : IntGroup) : (s.setIntGroup g v).host.rings = s.host.rings := rfl

end Sys2Proof.Machine
end

