-- ==== Sys2Proof/Laws/Tab.lean ====
section
/-! SUPPORT. Laws/Tab.lean: the laws of sparse tables: a read after a write, and the canonical form that every operation
keeps. -/

namespace Sys2Proof.Machine

variable {α : Type}

/-- Every key of a table is greater than a number. -/
def Tab.above (n : Nat) (t : Tab α) : Prop := ∀ e ∈ t, n < e.1

theorem Tab.get_erase_self (d : Nat → α) (t : Tab α) (k : Nat) : (t.erase k).get d k = d k := by
  induction t with
  | nil => rfl
  | cons e t ih => by_cases h : e.1 = k <;> simp [Tab.erase, Tab.get, h, ih]

theorem Tab.get_erase_ne (d : Nat → α) (t : Tab α) {k j : Nat} (h : j ≠ k) : (t.erase k).get d j = t.get d j := by
  induction t with
  | nil => rfl
  | cons e t ih =>
    by_cases hk : e.1 = k
    · have : e.1 ≠ j := fun hj => h (hj ▸ hk)
      simp [Tab.erase, Tab.get, hk, ih]
      intro hj; exact absurd hj.symm h
    · simp [Tab.erase, Tab.get, hk, ih]

theorem Tab.mem_erase {t : Tab α} {k : Nat} {e : Nat × α} : e ∈ t.erase k ↔ e ∈ t ∧ e.1 ≠ k := by
  induction t with
  | nil => simp [Tab.erase]
  | cons x t ih =>
    by_cases h : x.1 = k
    · simp only [Tab.erase, h, if_true, ih, List.mem_cons]
      constructor
      · rintro ⟨a, b⟩; exact ⟨.inr a, b⟩
      · rintro ⟨rfl | a, b⟩
        · exact absurd h b
        · exact ⟨a, b⟩
    · simp only [Tab.erase, h, if_false, ih, List.mem_cons]
      constructor
      · rintro (rfl | ⟨a, b⟩)
        · exact ⟨.inl rfl, h⟩
        · exact ⟨.inr a, b⟩
      · rintro ⟨rfl | a, b⟩
        · exact .inl rfl
        · exact .inr ⟨a, b⟩

theorem Tab.get_put_self (d : Nat → α) (t : Tab α) (k : Nat) (v : α) (h : ∀ e ∈ t, e.1 ≠ k) : (t.put k v).get d k = v := by
  induction t with
  | nil => simp [Tab.put, Tab.get]
  | cons e t ih =>
    have hk : e.1 ≠ k := h e (by simp)
    by_cases hl : k < e.1
    · simp [Tab.put, Tab.get, hl]
    · simp [Tab.put, Tab.get, hl, hk, ih (fun x hx => h x (by simp [hx]))]

theorem Tab.get_put_ne (d : Nat → α) (t : Tab α) {k j : Nat} (v : α) (h : j ≠ k) : (t.put k v).get d j = t.get d j := by
  have hk : k ≠ j := fun e => h e.symm
  induction t with
  | nil => simp [Tab.put, Tab.get, hk]
  | cons e t ih =>
    by_cases hl : k < e.1
    · simp [Tab.put, Tab.get, hl, hk]
    · simp [Tab.put, Tab.get, hl, ih]

/-- A read after a write to the same key gives the line written. -/
@[simp] theorem Tab.get_set_self [DecidableEq α] (d : Nat → α) (t : Tab α) (k : Nat) (v : α) : (t.set d k v).get d k = v := by
  unfold Tab.set
  split
  · next h => rw [Tab.get_erase_self, h]
  · exact Tab.get_put_self d _ k v (fun e he => (Tab.mem_erase.mp he).2)

/-- A write leaves every other key as it was. -/
theorem Tab.get_set_ne [DecidableEq α] (d : Nat → α) (t : Tab α) {k j : Nat} (v : α) (h : j ≠ k) :
    (t.set d k v).get d j = t.get d j := by
  unfold Tab.set
  split
  · exact Tab.get_erase_ne d t h
  · rw [Tab.get_put_ne d _ v h, Tab.get_erase_ne d t h]

/-- A read after a write, at any key. -/
theorem Tab.get_set [DecidableEq α] (d : Nat → α) (t : Tab α) (k j : Nat) (v : α) :
    (t.set d k v).get d j = if j = k then v else t.get d j := by
  split
  · next h => subst h; exact Tab.get_set_self d t j v
  · next h => exact Tab.get_set_ne d t v h

@[simp] theorem Tab.get_upd_self [DecidableEq α] (d : Nat → α) (t : Tab α) (k : Nat) (f : α → α) :
    (t.upd d k f).get d k = f (t.get d k) := Tab.get_set_self d t k _

theorem Tab.get_upd_ne [DecidableEq α] (d : Nat → α) (t : Tab α) {k j : Nat} (f : α → α) (h : j ≠ k) :
    (t.upd d k f).get d j = t.get d j := Tab.get_set_ne d t _ h

/-! ## The canonical form -/

theorem Tab.wf_cons [DecidableEq α] {d : Nat → α} {e : Nat × α} {t : Tab α} :
    Tab.wf d (e :: t) = true ↔ e.2 ≠ d e.1 ∧ t.above e.1 ∧ Tab.wf d t = true := by
  simp [Tab.wf, Tab.above, and_assoc]

theorem Tab.wf_erase [DecidableEq α] {d : Nat → α} {t : Tab α} (h : Tab.wf d t = true) (k : Nat) : Tab.wf d (t.erase k) = true := by
  induction t with
  | nil => rfl
  | cons e t ih =>
    rw [Tab.wf_cons] at h
    by_cases hk : e.1 = k
    · simpa [Tab.erase, hk] using ih h.2.2
    · simp only [Tab.erase, hk, if_false, Tab.wf_cons]
      exact ⟨h.1, fun x hx => h.2.1 x (Tab.mem_erase.mp hx).1, ih h.2.2⟩

theorem Tab.mem_put {t : Tab α} {k : Nat} {v : α} {e : Nat × α} : e ∈ t.put k v ↔ e = (k, v) ∨ e ∈ t := by
  induction t with
  | nil => simp [Tab.put]
  | cons x t ih =>
    by_cases h : k < x.1
    · simp [Tab.put, h]
    · simp only [Tab.put, h, if_false, List.mem_cons, ih]
      constructor
      · rintro (a | a | a)
        · exact .inr (.inl a)
        · exact .inl a
        · exact .inr (.inr a)
      · rintro (a | a | a)
        · exact .inr (.inl a)
        · exact .inl a
        · exact .inr (.inr a)

theorem Tab.wf_put [DecidableEq α] {d : Nat → α} {t : Tab α} {k : Nat} {v : α} (h : Tab.wf d t = true) (hv : v ≠ d k)
    (hk : ∀ e ∈ t, e.1 ≠ k) : Tab.wf d (t.put k v) = true := by
  induction t with
  | nil => simp [Tab.put, Tab.wf, hv]
  | cons e t ih =>
    have h' := Tab.wf_cons.mp h
    by_cases hl : k < e.1
    · simp only [Tab.put, hl, if_true]
      rw [Tab.wf_cons]
      refine ⟨hv, ?_, h⟩
      intro x hx
      rcases List.mem_cons.mp hx with rfl | hx
      · exact hl
      · exact Nat.lt_trans hl (h'.2.1 x hx)
    · simp only [Tab.put, hl, if_false]
      rw [Tab.wf_cons]
      refine ⟨h'.1, ?_, ih h'.2.2 (fun x hx => hk x (List.mem_cons_of_mem _ hx))⟩
      intro x hx
      rcases Tab.mem_put.mp hx with rfl | hx
      · have := hk e List.mem_cons_self
        show e.1 < k
        omega
      · exact h'.2.1 x hx

/-- A write keeps the canonical form. -/
theorem Tab.wf_set [DecidableEq α] {d : Nat → α} {t : Tab α} (h : Tab.wf d t = true) (k : Nat) (v : α) :
    Tab.wf d (t.set d k v) = true := by
  unfold Tab.set
  split
  · exact Tab.wf_erase h k
  · next hv => exact Tab.wf_put (Tab.wf_erase h k) hv (fun e he => (Tab.mem_erase.mp he).2)

theorem Tab.wf_upd [DecidableEq α] {d : Nat → α} {t : Tab α} (h : Tab.wf d t = true) (k : Nat) (f : α → α) :
    Tab.wf d (t.upd d k f) = true := Tab.wf_set h k _

/-- Dropping lines keeps the canonical form. -/
theorem Tab.wf_filter [DecidableEq α] {d : Nat → α} {t : Tab α} (h : Tab.wf d t = true) (p : Nat × α → Bool) :
    Tab.wf d (t.filter p) = true := by
  induction t with
  | nil => rfl
  | cons e t ih =>
    have h' := Tab.wf_cons.mp h
    by_cases hp : p e = true
    · rw [List.filter_cons_of_pos hp, Tab.wf_cons]
      exact ⟨h'.1, fun x hx => h'.2.1 x (List.mem_filter.mp hx).1, ih h'.2.2⟩
    · rw [List.filter_cons_of_neg hp]
      exact ih h'.2.2

theorem Tab.wf_keep [DecidableEq α] {d : Nat → α} {t : Tab α} (h : Tab.wf d t = true) (p : Nat → Bool) :
    Tab.wf d (t.keep p) = true := Tab.wf_filter h _

theorem Tab.wf_mapVals [DecidableEq α] {d : Nat → α} {t : Tab α} (h : Tab.wf d t = true) (f : Nat → α → α) :
    Tab.wf d (t.mapVals d f) = true := by
  unfold Tab.mapVals
  induction t with
  | nil => rfl
  | cons e t ih =>
    have h' := Tab.wf_cons.mp h
    by_cases hd : f e.1 e.2 = d e.1
    · simpa [hd] using ih h'.2.2
    · rw [List.map_cons, List.filter_cons_of_pos (by simpa using hd), Tab.wf_cons]
      refine ⟨hd, ?_, ih h'.2.2⟩
      intro x hx
      rcases List.mem_map.mp (List.mem_filter.mp hx).1 with ⟨y, hy, rfl⟩
      exact h'.2.1 y hy

end Sys2Proof.Machine
end

