-- ==== Sys2Proof/Laws/Commands.lean ====
section
/-! SUPPORT. Laws/Commands.lean: what follows every row in the command engine (R433, R436, R437), said once. -/

namespace Sys2Proof.Machine

/-- With no fetched command in progress nothing follows a row. -/
theorem State.settleAll_calm {s : State} (h : s.host.slots = []) : s.settleAll = s := by
  simp [State.settleAll, State.pump, State.retireAll, h, State.pumpIds, State.retireIds]

/-- A row whose effect leaves no fetched command in progress answers exactly its effect. -/
theorem State.run_calm {s : State} {t : Nat} {k : State → State} (h : (k (s.begin t)).host.slots = []) :
    s.run t k = .next (k (s.begin t)) := by
  rw [State.run, State.settleAll_calm h]

theorem State.runFast_calm {s : State} {t : Nat} {k : State → State} (hc : s.clocksRun = true)
    (h : (k (s.begin t)).host.slots = []) : s.runFast t k = .next (k (s.begin t)) := by
  have hc' : (s.begin t).clocksRun = true := hc
  rw [State.runFast, State.run_calm] <;> simp [State.fastDo, hc', h]

theorem State.runAlways_calm {s : State} {t : Nat} {k : State → State} (hp : s.life.por = false) (hw : s.life.warm = .none)
    (h : (k (s.begin t)).host.slots = []) : s.runAlways t k = .next (k (s.begin t)) := by
  rw [State.runAlways, State.run_calm] <;> simp [State.alwaysDo, hp, hw, h]

/-! ## A command of a ring -/

theorem cmdReady_spec {s : State} {op : Nat} {c : Cmd} (h : cmdReady s op c = true) :
    s.host.slots = [] ∧ s.fetches c.ring.val = true ∧ opcodeKnown op = true ∧ opcodeOn (s.ringType c.ring.val) op = true ∧
      (op = Op.nop ∨ (s.life.locked = true ∧ s.life.live = true)) ∧
      idxDiff (s.ring c.ring.val).head (s.ring c.ring.val).tail < s.ringSize c.ring.val := by
  simp only [cmdReady, Bool.and_eq_true, List.isEmpty_iff, Bool.or_eq_true, beq_iff_eq, decide_eq_true_eq] at h
  obtain ⟨⟨⟨⟨⟨a, b⟩, c⟩, d⟩, e⟩, f⟩ := h
  exact ⟨a, b, c, d, e, f⟩

/-- A descriptor of a ready ring passes the checks of R435. -/
theorem State.descFault_none {s : State} {op : Nat} {c : Cmd} (h : cmdReady s op c = true) (t : Nat) :
    (s.begin t).descFault c.ring.val op = none := by
  obtain ⟨_, _, hk, ho, hl, _⟩ := cmdReady_spec h
  have hl' : ¬op = Op.nop → s.life.locked = true := fun hn => hl.elim (absurd · hn) (·.1)
  have ho' : opcodeOn ((s.begin t).ringType c.ring.val) op = true := ho
  simp [State.descFault, hk, ho']
  exact hl'

/-- The row of a command that meets its ring ready: the slot, then what follows. -/
theorem State.submit_ready {s : State} {op : Nat} {c : Cmd} (h : cmdReady s op c = true) (t : Nat) :
    (s.begin t).submit op c = (s.begin t).newSlot c.ring.val
      { opcode := op, flags := c.flags, spec := c.spec, len := c.len, addr := c.addr, cookie := c.cookie, aux := c.aux }
      .ready c.buf c.resOk c.cmplOk := by
  obtain ⟨hs, hf, _, _, _, hr⟩ := cmdReady_spec h
  have hf' : (s.begin t).fetches c.ring.val = true := hf
  have hs' : (s.begin t).host.slots = [] := hs
  have hr' : ¬ (idxDiff ((s.begin t).ring c.ring.val).head ((s.begin t).ring c.ring.val).tail ≥ (s.begin t).ringSize c.ring.val) :=
    Nat.not_le.mpr hr
  have hn : (s.begin t).fetchedFor op c = none := by rw [State.fetchedFor, hs']; rfl
  simp only [State.submit, hf', hn, Bool.not_true, Bool.false_eq_true, if_false, hr']

theorem State.newSlot_slots {s : State} {op : Nat} {c : Cmd} (h : cmdReady s op c = true) (t : Nat) :
    ((s.begin t).submit op c).host.slots = [cmdSlot s op c] := by
  obtain ⟨hs, _⟩ := cmdReady_spec h
  have hs' : (s.begin t).host.slots = [] := hs
  rw [State.submit_ready h]
  simp [State.newSlot, hs, State.descFault_none h t, cmdSlot, State.ring]

/-- The state of a command's row before its turn. -/
theorem State.submit_cmdState {s : State} {op : Nat} {c : Cmd} (h : cmdReady s op c = true) (t : Nat) :
    cmdState s t op c = (let s1 := (s.begin t).submit op c
      let s2 := if sliceOpcode op && decide (c.spec < 8) then s1.wakeSlice c.spec else s1
      { s2 with host := { s2.host with current := some s.host.nextSlot } }) := by
  rw [State.submit_ready h]; rfl

/-- A command that meets its ring ready takes its turn at once. -/
theorem State.turn_ready {s : State} {op : Nat} {c : Cmd} (h : cmdReady s op c = true) (t : Nat) {u : State} {v : Verdict}
    (hb : opBody (cmdSlot s op c) (cmdState s t op c) = (u, v)) :
    ((s.begin t).submit op c).turnOf (cmdSlot s op c)
      = ({ u with host := { u.host with current := none, slots := u.host.slots.map (Slot.take s.host.nextSlot v) } }, v == .wait) := by
  obtain ⟨_, hf, _, _, hl, _⟩ := cmdReady_spec h
  have hfast : (s.begin t).clocksRun = true := by
    simp only [State.fetches, Bool.and_eq_true] at hf
    exact hf.1.2
  have hrun : ((s.begin t).submit op c).mayRun (cmdSlot s op c) = true := by
    have hb : ((s.begin t).submit op c).barred (cmdSlot s op c).id = false := by
      simp [State.barred, State.newSlot_slots h]
    have hd : ((s.begin t).submit op c).behind (cmdSlot s op c) = false := by
      simp [State.behind, State.newSlot_slots h]
    have hl' : ((s.begin t).submit op c).life = s.life := by rw [State.submit_ready h]; rfl
    have hc' : ((s.begin t).submit op c).clocksRun = true := by rw [State.submit_ready h]; exact hfast
    simp only [State.mayRun, hb, hd, Bool.and_false, Bool.not_false, Bool.and_true, hl', hc']
    rcases hl with rfl | ⟨_, hv⟩
    · rfl
    · simp [hv]
  have hop : ((s.begin t).submit op c).applyOp (cmdSlot s op c)
      = ({ u with host := { u.host with current := none } }, v) := by
    have e : ((s.begin t).submit op c).applyOp (cmdSlot s op c) = (let r := opBody (cmdSlot s op c) (cmdState s t op c)
        (({ r.1 with host := { r.1.host with current := none } } : State), r.2)) := by
      rw [State.submit_cmdState h]; rfl
    rw [e, hb]
  unfold State.turnOf
  have hp : (cmdSlot s op c).phase = .ready := rfl
  rw [hp]
  simp only [hrun, Bool.not_true, Bool.false_eq_true, if_false, hop]
  rfl

/-- After the one turn of a ready command. -/
theorem State.pump_ready {s : State} {op : Nat} {c : Cmd} (h : cmdReady s op c = true) (t : Nat) {u : State} {v : Verdict}
    (hb : opBody (cmdSlot s op c) (cmdState s t op c) = (u, v)) :
    ((s.begin t).submit op c).pump
      = { u with host := { u.host with current := none, slots := u.host.slots.map (Slot.take s.host.nextSlot v) } } := by
  have hid : (cmdSlot s op c).id = s.host.nextSlot := rfl
  simp only [State.pump, State.newSlot_slots h, List.map_cons, List.map_nil, State.pumpIds, List.find?_cons, beq_self_eq_true,
    List.contains_nil, Bool.false_eq_true, if_false, State.turn_ready h t hb]

/-- A command whose effect stands but whose completion comes later: it stays in progress. -/
theorem State.runCmd_pend {s : State} {op : Nat} {c : Cmd} (h : cmdReady s op c = true) (t : Nat) {u : State} {y : Slot}
    (hb : opBody (cmdSlot s op c) (cmdState s t op c) = (u, .pend)) (hy : u.host.slots = [y]) (hid : y.id = s.host.nextSlot)
    (hp : y.phase = .ready) :
    s.runCmd t op c = .next { u with host := { u.host with current := none, slots := [{ y with phase := .effect }] } } := by
  unfold State.runCmd State.run State.settleAll
  rw [State.pump_ready h t hb]
  simp [hy, Slot.take, hid, hp, Verdict.phase, State.retireAll, State.retireIds]

/-- A command that is done in its turn: its completion is written. -/
theorem State.runCmd_done {s : State} {op : Nat} {c : Cmd} (h : cmdReady s op c = true) (t : Nat) {u : State} {y : Slot}
    {st res : Nat} (hb : opBody (cmdSlot s op c) (cmdState s t op c) = (u, .done st res)) (hy : u.host.slots = [y])
    (hid : y.id = s.host.nextSlot) (hp : y.phase = .ready) :
    s.runCmd t op c = .next (State.complete
      { u with host := { u.host with current := none, slots := [{ y with phase := .done st res }] } }
      { y with phase := .done st res } st res) := by
  unfold State.runCmd State.run State.settleAll
  rw [State.pump_ready h t hb]
  simp [hy, Slot.take, hid, hp, Verdict.phase, State.retireAll, State.retireIds]

/-- What a ring entry's signal changes: the host interface and the outputs, and of the ring neither its head nor its tail. -/
theorem State.ringSignal_frame (s : State) (r : Nat) :
    s.ringSignal r = { s with host := (s.ringSignal r).host, outs := (s.ringSignal r).outs } ∧
      (s.ringSignal r).host.slots = s.host.slots ∧ (∀ o ∈ s.outs, o ∈ (s.ringSignal r).outs) ∧
      ((s.ringSignal r).ring r).head = (s.ring r).head ∧ ((s.ringSignal r).ring r).tail = (s.ring r).tail := by
  unfold State.ringSignal
  simp only
  split
  · refine ⟨rfl, rfl, ?_, ?_, ?_⟩
    · intro o ho; exact List.mem_append_left _ ho
    · simp [State.ringMessage, State.updRing, State.ring, State.setRing, State.emit]
    · simp [State.ringMessage, State.updRing, State.ring, State.setRing, State.emit]
  · refine ⟨rfl, rfl, fun o ho => ho, ?_, ?_⟩ <;> simp [State.ring, State.setRing]

/-- The completion of a command that causes no events, on a ring that runs. -/
theorem State.complete_frame {s : State} {x : Slot} {st res : Nat} (hs : s.host.slots = [x]) (ho : x.orphan = false)
    (he : x.events = []) (hc : x.cmplOk = true) (hr : (s.ring x.ring).state = .running) :
    ∃ w, s.complete x st res = w ∧ w = { s with host := w.host, outs := w.outs } ∧ w.host.slots = [] ∧
      (w.ring x.ring).head = (s.ring x.ring).head ∧ (w.ring x.ring).tail = (x.idx + 1) % 2 ^ 32 ∧
      .completion x.ring x.idx (s.ringCmpl x.ring + 16 * (x.idx % s.ringSize x.ring)) st res x.cookie
        (phaseOf (s.ringSize x.ring) x.idx) x.more ∈ w.outs := by
  refine ⟨_, rfl, ?_⟩
  unfold State.complete
  have hr' : (State.ring { s with host := { s.host with slots := s.host.slots.filter (fun y => y.id != x.id) } } x.ring).state
      = .running := hr
  simp only [ho, hr', he, hc, Bool.false_or, beq_self_eq_true, Bool.true_or, Bool.not_true, Bool.false_eq_true, if_false,
    List.foldl_nil]
  generalize hA : State.emit _ _ = A
  obtain ⟨h1, h2, h3, h4, h5⟩ := State.ringSignal_frame A x.ring
  refine ⟨?_, ?_, ?_, ?_, ?_⟩
  · rw [h1, ← hA]; rfl
  · rw [h2, ← hA]; simp [hs]
  · rw [h4, ← hA]; simp [State.ring, State.emit, State.setRing]
  · rw [h5, ← hA]; simp [State.ring, State.emit, State.setRing]
  · apply h3; rw [← hA]; simp [State.emit]

/-- A command that is done in its turn without an event, and leaves its ring and its slot to the command engine, is answered,
and leaves everything else as its effect does. -/
theorem State.runCmd_answers {s : State} {op : Nat} {c : Cmd} (h : cmdReady s op c = true) (t : Nat) {u : State} {st res : Nat}
    (hb : opBody (cmdSlot s op c) (cmdState s t op c) = (u, .done st res)) (hc : c.cmplOk = true)
    (hs : u.host.slots = (cmdState s t op c).host.slots)
    (hr : u.ring c.ring.val = (cmdState s t op c).ring c.ring.val) (hz : u.ringSize c.ring.val = s.ringSize c.ring.val)
    (hm : u.ringCmpl c.ring.val = s.ringCmpl c.ring.val) :
    ∃ w, s.runCmd t op c = .next w ∧ Answered s c st res w ∧ w = { u with host := w.host, outs := w.outs } := by
  have hslots : u.host.slots = [cmdSlot s op c] := by
    rw [hs, State.submit_cmdState h]
    by_cases hw : (sliceOpcode op && decide (c.spec < 8)) = true
    · simp only [hw, if_true]
      exact State.newSlot_slots h t
    · simp only [hw]
      exact State.newSlot_slots h t
  have hring := hr
  have hcr : (cmdState s t op c).ring c.ring.val = ((s.begin t).submit op c).ring c.ring.val := by
    rw [State.submit_cmdState h]
    by_cases hw : (sliceOpcode op && decide (c.spec < 8)) = true
    · simp only [hw, if_true]; rfl
    · simp only [hw]; rfl
  have hq : (((s.begin t).submit op c).ring c.ring.val).state = .running
      ∧ (((s.begin t).submit op c).ring c.ring.val).head = ((s.ring c.ring.val).head + 1) % 2 ^ 32 := by
    obtain ⟨_, hf, _⟩ := cmdReady_spec h
    have hf2 : (s.ring c.ring.val).state = .running := by
      simp only [State.fetches, State.ringRuns, Bool.and_eq_true, beq_iff_eq] at hf
      exact hf.1.1.1
    rw [State.submit_ready h]
    constructor
    · simp only [State.newSlot, State.ring, State.setRing, Tab.get_set_self]; exact hf2
    · simp only [State.newSlot, State.ring, State.setRing, Tab.get_set_self]; rfl
  rw [State.runCmd_done h t hb hslots rfl rfl]
  obtain ⟨w, hw, hfr, hsl, hhd, htl, hout⟩ := State.complete_frame (s := { u with host := { u.host with current := none, slots := [{ cmdSlot s op c with phase := .done st res }] } })
    (x := { cmdSlot s op c with phase := .done st res }) (st := st) (res := res) rfl rfl rfl hc
    (by show (u.ring c.ring.val).state = _; rw [hring, hcr, hq.1])
  refine ⟨w, by rw [hw], ⟨hsl, ?_, htl, ?_⟩, hfr⟩
  · have e : (u.ring c.ring.val).head = ((s.ring c.ring.val).head + 1) % 2 ^ 32 := by rw [hring, hcr, hq.2]
    exact Eq.trans hhd e
  · have ho : Out.completion c.ring.val (s.ring c.ring.val).head
        (u.ringCmpl c.ring.val + 16 * ((s.ring c.ring.val).head % u.ringSize c.ring.val)) st res c.cookie
        (phaseOf (u.ringSize c.ring.val) (s.ring c.ring.val).head) false ∈ w.outs := hout
    rw [hz, hm] at ho
    exact ho

/-- What the effect of a command sees is what its base is, but for the host interface. -/
theorem cmdState_base (s : State) (t op : Nat) (c : Cmd) :
    cmdState s t op c = { cmdBase s t op c with host := (cmdState s t op c).host } := by
  unfold cmdState cmdBase
  by_cases h : (sliceOpcode op && decide (c.spec < 8)) = true
  · simp only [h, if_true]; rfl
  · simp only [h]; rfl

theorem cmdState_outs (s : State) (t op : Nat) (c : Cmd) : (cmdState s t op c).outs = (cmdBase s t op c).outs := by
  rw [cmdState_base]

/-- A list of checks decides as its first that fails. -/
theorem checks_firstBad (l : List (Bool × Nat)) (s : State) (k : Unit → Turn) (h : l.all (fun e => e.2 != Status.ok) = true) :
    checks l s k = if firstBad l = Status.ok then k () else (s, .done (firstBad l) 0) := by
  induction l with
  | nil => simp [checks, firstBad]
  | cons e l ih =>
    obtain ⟨bad, st⟩ := e
    simp only [List.all_cons, Bool.and_eq_true, bne_iff_ne, ne_eq] at h
    cases bad with
    | true => simp [checks, firstBad, h.1, State.fails]
    | false => simpa [checks, firstBad] using ih h.2

/-- A command done at once, its effect seen apart from the host interface. -/
theorem answersWith_of {i : Instr} {s : State} {t op : Nat} {c : Cmd} {st res : Nat} {u v : State}
    (hi : exec i s = s.runCmd t op c) (h : cmdReady s op c = true) (hc : c.cmplOk = true)
    (hb : opBody (cmdSlot s op c) (cmdState s t op c) = (u, .done st res))
    (hu : u = { v with host := (cmdState s t op c).host, outs := u.outs })
    (hz : u.ringSize c.ring.val = s.ringSize c.ring.val) (hm : u.ringCmpl c.ring.val = s.ringCmpl c.ring.val) :
    AnswersWith i s c st res v := by
  have eh : u.host = (cmdState s t op c).host := by rw [hu]
  obtain ⟨w, hw, ha, hf⟩ := State.runCmd_answers h t hb hc (by rw [eh]) (by rw [State.ring, eh, State.ring]) hz hm
  exact ⟨w, by rw [hi, hw], ha, by rw [hf, hu]⟩

/-- A command whose checks and effect are of the form of `Checked`. -/
theorem checked_of {i : Instr} {s : State} {t op : Nat} {c : Cmd} {l : List (Bool × Nat)} {f : State → State}
    (hi : exec i s = s.runCmd t op c) (h : cmdReady s op c = true) (hc : c.cmplOk = true)
    (hb : opBody (cmdSlot s op c) (cmdState s t op c) = checks l (cmdState s t op c) (fun _ => (f (cmdState s t op c)).ok))
    (hl : l.all (fun e => e.2 != Status.ok) = true)
    (hf : ∀ h, ∃ o', f { cmdBase s t op c with host := h } = { f (cmdBase s t op c) with host := h, outs := o' })
    (hz : (f (cmdState s t op c)).ringSize c.ring.val = s.ringSize c.ring.val)
    (hm : (f (cmdState s t op c)).ringCmpl c.ring.val = s.ringCmpl c.ring.val) : Checked i s t op c l f := by
  rw [checks_firstBad _ _ _ hl] at hb
  unfold Checked
  have hr : (cmdState s t op c).regs = s.regs := by
    unfold cmdState
    by_cases h : (sliceOpcode op && decide (c.spec < 8)) = true
    · simp only [h, if_true]; rfl
    · simp only [h]; rfl
  by_cases hk : firstBad l = Status.ok
  · rw [if_pos hk] at hb
    rw [if_pos hk, hk]
    obtain ⟨o', e⟩ := hf (cmdState s t op c).host
    have e1 : f (cmdState s t op c) = { f (cmdBase s t op c) with host := (cmdState s t op c).host, outs := o' } := by
      rw [← e]; exact congrArg f (cmdState_base s t op c)
    exact answersWith_of hi h hc hb (by rw [e1]) hz hm
  · rw [if_neg hk] at hb
    rw [if_neg hk]
    refine answersWith_of hi h hc hb ?_ ?_ ?_
    · rw [cmdState_outs]; exact cmdState_base s t op c
    · simp [State.ringSize, State.fld, State.reg, hr]
    · simp [State.ringCmpl, State.reg, hr]

end Sys2Proof.Machine
end

