-- ==== Sys2Proof/Laws/CommandState.lean ====
section
/-! SUPPORT. Laws/CommandState.lean: the effect that each opcode has (16 Table 4), and what the state that a command's effect sees
holds, field by field. -/

namespace Sys2Proof.Machine

theorem opBody_nop (s u : State) (c : Cmd) : opBody (cmdSlot s Op.nop c) u = opNop (cmdSlot s Op.nop c) u := rfl
theorem opBody_pktTx (s u : State) (c : Cmd) : opBody (cmdSlot s Op.pktTx c) u = opPktTx (cmdSlot s Op.pktTx c) u := rfl
theorem opBody_rxBuf (s u : State) (c : Cmd) : opBody (cmdSlot s Op.rxBuf c) u = opRxBuf (cmdSlot s Op.rxBuf c) u := rfl
theorem opBody_cntPage (s u : State) (c : Cmd) : opBody (cmdSlot s Op.cntPage c) u = opCntPage (cmdSlot s Op.cntPage c) u := rfl
theorem opBody_omciTx (s u : State) (c : Cmd) : opBody (cmdSlot s Op.omciTx c) u = opOmciTx (cmdSlot s Op.omciTx c) u := rfl
theorem opBody_channelMode (s u : State) (c : Cmd) : opBody (cmdSlot s Op.channelMode c) u = opChannelMode (cmdSlot s Op.channelMode c) u := rfl
theorem opBody_rssiArm (s u : State) (c : Cmd) : opBody (cmdSlot s Op.rssiArm c) u = opRssiArm (cmdSlot s Op.rssiArm c) u := rfl
theorem opBody_modAccess (s u : State) (c : Cmd) : opBody (cmdSlot s Op.modAccess c) u = opModAccess (cmdSlot s Op.modAccess c) u := rfl
theorem opBody_allowWrite (s u : State) (c : Cmd) : opBody (cmdSlot s Op.allowWrite c) u = opAllowWrite (cmdSlot s Op.allowWrite c) u := rfl
theorem opBody_allowErase (s u : State) (c : Cmd) : opBody (cmdSlot s Op.allowErase c) u = opAllowErase (cmdSlot s Op.allowErase c) u := rfl
theorem opBody_recordForget (s u : State) (c : Cmd) : opBody (cmdSlot s Op.recordForget c) u = opRecordForget (cmdSlot s Op.recordForget c) u := rfl
theorem opBody_termDeactivate (s u : State) (c : Cmd) : opBody (cmdSlot s Op.termDeactivate c) u = opTermDeactivate (cmdSlot s Op.termDeactivate c) u := rfl
theorem opBody_termDisable (s u : State) (c : Cmd) : opBody (cmdSlot s Op.termDisable c) u = opTermDisable (cmdSlot s Op.termDisable c) u := rfl
theorem opBody_termEnableSn (s u : State) (c : Cmd) : opBody (cmdSlot s Op.termEnableSn c) u = opTermEnableSn (cmdSlot s Op.termEnableSn c) u := rfl
theorem opBody_termRelease (s u : State) (c : Cmd) : opBody (cmdSlot s Op.termRelease c) u = opTermRelease (cmdSlot s Op.termRelease c) u := rfl
theorem opBody_ploamSend (s u : State) (c : Cmd) : opBody (cmdSlot s Op.ploamSend c) u = opPloamSend (cmdSlot s Op.ploamSend c) u := rfl
theorem opBody_xgemPortSet (s u : State) (c : Cmd) : opBody (cmdSlot s Op.xgemPortSet c) u = opXgemPortSet (cmdSlot s Op.xgemPortSet c) u := rfl
theorem opBody_allocSet (s u : State) (c : Cmd) : opBody (cmdSlot s Op.allocSet c) u = opAllocSet (cmdSlot s Op.allocSet c) u := rfl
theorem opBody_allocClear (s u : State) (c : Cmd) : opBody (cmdSlot s Op.allocClear c) u = opAllocClear (cmdSlot s Op.allocClear c) u := rfl
theorem opBody_termProfile (s u : State) (c : Cmd) : opBody (cmdSlot s Op.termProfile c) u = opTermProfile (cmdSlot s Op.termProfile c) u := rfl
theorem opBody_coopAnnounce (s u : State) (c : Cmd) : opBody (cmdSlot s Op.coopAnnounce c) u = opCoopAnnounce (cmdSlot s Op.coopAnnounce c) u := rfl
theorem opBody_termMove (s u : State) (c : Cmd) : opBody (cmdSlot s Op.termMove c) u = opTermMoveWake (cmdSlot s Op.termMove c) u := rfl
theorem opBody_termMoveAbort (s u : State) (c : Cmd) : opBody (cmdSlot s Op.termMoveAbort c) u = opTermMoveAbort (cmdSlot s Op.termMoveAbort c) u := rfl
theorem opBody_svcSet (s u : State) (c : Cmd) : opBody (cmdSlot s Op.svcSet c) u = opSvcSet (cmdSlot s Op.svcSet c) u := rfl
theorem opBody_svcLearn (s u : State) (c : Cmd) : opBody (cmdSlot s Op.svcLearn c) u = opSvcLearn (cmdSlot s Op.svcLearn c) u := rfl
theorem opBody_svcMapUp (s u : State) (c : Cmd) : opBody (cmdSlot s Op.svcMapUp c) u = opSvcMapUp (cmdSlot s Op.svcMapUp c) u := rfl
theorem opBody_svcMatchAdd (s u : State) (c : Cmd) : opBody (cmdSlot s Op.svcMatchAdd c) u = opSvcMatchAdd (cmdSlot s Op.svcMatchAdd c) u := rfl
theorem opBody_svcMatchDel (s u : State) (c : Cmd) : opBody (cmdSlot s Op.svcMatchDel c) u = opSvcMatchDel (cmdSlot s Op.svcMatchDel c) u := rfl
theorem opBody_ruleWrite (s u : State) (c : Cmd) : opBody (cmdSlot s Op.ruleWrite c) u = opRuleWrite (cmdSlot s Op.ruleWrite c) u := rfl
theorem opBody_rsetWrite (s u : State) (c : Cmd) : opBody (cmdSlot s Op.rsetWrite c) u = opRsetWrite (cmdSlot s Op.rsetWrite c) u := rfl
theorem opBody_indirWrite (s u : State) (c : Cmd) : opBody (cmdSlot s Op.indirWrite c) u = opIndirWrite (cmdSlot s Op.indirWrite c) u := rfl
theorem opBody_fwdInsert (s u : State) (c : Cmd) : opBody (cmdSlot s Op.fwdInsert c) u = opFwdInsert (cmdSlot s Op.fwdInsert c) u := rfl
theorem opBody_fwdDelete (s u : State) (c : Cmd) : opBody (cmdSlot s Op.fwdDelete c) u = opFwdDelete (cmdSlot s Op.fwdDelete c) u := rfl
theorem opBody_fwdSearch (s u : State) (c : Cmd) : opBody (cmdSlot s Op.fwdSearch c) u = opFwdSearch (cmdSlot s Op.fwdSearch c) u := rfl
theorem opBody_fwdMove (s u : State) (c : Cmd) : opBody (cmdSlot s Op.fwdMove c) u = opFwdMove (cmdSlot s Op.fwdMove c) u := rfl
theorem opBody_fwdNext (s u : State) (c : Cmd) : opBody (cmdSlot s Op.fwdNext c) u = opFwdNext (cmdSlot s Op.fwdNext c) u := rfl
theorem opBody_fwdFlush (s u : State) (c : Cmd) : opBody (cmdSlot s Op.fwdFlush c) u = opFwdFlush (cmdSlot s Op.fwdFlush c) u := rfl
theorem opBody_swQprof (s u : State) (c : Cmd) : opBody (cmdSlot s Op.swQprof c) u = opSwQprof (cmdSlot s Op.swQprof c) u := rfl
theorem opBody_mcGroupSet (s u : State) (c : Cmd) : opBody (cmdSlot s Op.mcGroupSet c) u = opMcGroupSet (cmdSlot s Op.mcGroupSet c) u := rfl
theorem opBody_mcMemberWrite (s u : State) (c : Cmd) : opBody (cmdSlot s Op.mcMemberWrite c) u = opMcMemberWrite (cmdSlot s Op.mcMemberWrite c) u := rfl
theorem opBody_meterSet (s u : State) (c : Cmd) : opBody (cmdSlot s Op.meterSet c) u = opMeterSet (cmdSlot s Op.meterSet c) u := rfl
theorem opBody_shaperSet (s u : State) (c : Cmd) : opBody (cmdSlot s Op.shaperSet c) u = opShaperSet (cmdSlot s Op.shaperSet c) u := rfl
theorem opBody_schedSet (s u : State) (c : Cmd) : opBody (cmdSlot s Op.schedSet c) u = opSchedSet (cmdSlot s Op.schedSet c) u := rfl
theorem opBody_cbsSet (s u : State) (c : Cmd) : opBody (cmdSlot s Op.cbsSet c) u = opCbsSet (cmdSlot s Op.cbsSet c) u := rfl
theorem opBody_gclSet (s u : State) (c : Cmd) : opBody (cmdSlot s Op.gclSet c) u = opGclSet (cmdSlot s Op.gclSet c) u := rfl
theorem opBody_kekSet (s u : State) (c : Cmd) : opBody (cmdSlot s Op.kekSet c) u = opKekSet (cmdSlot s Op.kekSet c) u := rfl
theorem opBody_keyWrite (s u : State) (c : Cmd) : opBody (cmdSlot s Op.keyWrite c) u = opKeyWrite (cmdSlot s Op.keyWrite c) u := rfl
theorem opBody_keyErase (s u : State) (c : Cmd) : opBody (cmdSlot s Op.keyErase c) u = opKeyErase (cmdSlot s Op.keyErase c) u := rfl
theorem opBody_keyQuery (s u : State) (c : Cmd) : opBody (cmdSlot s Op.keyQuery c) u = opKeyQuery (cmdSlot s Op.keyQuery c) u := rfl
theorem opBody_ponKeySet (s u : State) (c : Cmd) : opBody (cmdSlot s Op.ponKeySet c) u = opPonKeySet (cmdSlot s Op.ponKeySet c) u := rfl
theorem opBody_sealSet (s u : State) (c : Cmd) : opBody (cmdSlot s Op.sealSet c) u = opSealSet (cmdSlot s Op.sealSet c) u := rfl
theorem opBody_sealPhase (s u : State) (c : Cmd) : opBody (cmdSlot s Op.sealPhase c) u = opSealPhase (cmdSlot s Op.sealPhase c) u := rfl
theorem opBody_sealEpSet (s u : State) (c : Cmd) : opBody (cmdSlot s Op.sealEpSet c) u = opSealEpSet (cmdSlot s Op.sealEpSet c) u := rfl
theorem opBody_sealEpDel (s u : State) (c : Cmd) : opBody (cmdSlot s Op.sealEpDel c) u = opSealEpDel (cmdSlot s Op.sealEpDel c) u := rfl
theorem opBody_macsecTxSet (s u : State) (c : Cmd) : opBody (cmdSlot s Op.macsecTxSet c) u = opMacsecTxSet (cmdSlot s Op.macsecTxSet c) u := rfl
theorem opBody_macsecRxSet (s u : State) (c : Cmd) : opBody (cmdSlot s Op.macsecRxSet c) u = opMacsecRxSet (cmdSlot s Op.macsecRxSet c) u := rfl
theorem opBody_megSet (s u : State) (c : Cmd) : opBody (cmdSlot s Op.megSet c) u = opMegSet (cmdSlot s Op.megSet c) u := rfl
theorem opBody_mepSet (s u : State) (c : Cmd) : opBody (cmdSlot s Op.mepSet c) u = opMepSet (cmdSlot s Op.mepSet c) u := rfl
theorem opBody_mepDel (s u : State) (c : Cmd) : opBody (cmdSlot s Op.mepDel c) u = opMepDel (cmdSlot s Op.mepDel c) u := rfl
theorem opBody_timeSet (s u : State) (c : Cmd) : opBody (cmdSlot s Op.timeSet c) u = opTimeSet (cmdSlot s Op.timeSet c) u := rfl
theorem opBody_todQuery (s u : State) (c : Cmd) : opBody (cmdSlot s Op.todQuery c) u = opTodQuery (cmdSlot s Op.todQuery c) u := rfl

/-- A buffer of the right length that was read. -/
theorem withLen_ok {x : Slot} {n : Nat} {b : List Byte} (s : State) (k : List Byte → Turn) (hl : x.len = n) (hn : n ≠ 0)
    (hb : x.buf = some b) : withLen x n s k = k b := by
  simp [withLen, withBuf, hl, hn, hb]

@[simp] theorem cmdBase_pending (s : State) (t op : Nat) (c : Cmd) : (cmdBase s t op c).pending = s.pending := by
  unfold cmdBase; split <;> rfl
@[simp] theorem cmdState_pending (s : State) (t op : Nat) (c : Cmd) : (cmdState s t op c).pending = s.pending := by
  rw [cmdState_base]; exact cmdBase_pending s t op c
@[simp] theorem cmdBase_free (s : State) (t op : Nat) (c : Cmd) : (cmdBase s t op c).free = s.free := by
  unfold cmdBase; split <;> rfl
@[simp] theorem cmdState_free (s : State) (t op : Nat) (c : Cmd) : (cmdState s t op c).free = s.free := by
  rw [cmdState_base]; exact cmdBase_free s t op c
@[simp] theorem cmdBase_life (s : State) (t op : Nat) (c : Cmd) : (cmdBase s t op c).life = s.life := by
  unfold cmdBase; split <;> rfl
@[simp] theorem cmdState_life (s : State) (t op : Nat) (c : Cmd) : (cmdState s t op c).life = s.life := by
  rw [cmdState_base]; exact cmdBase_life s t op c
@[simp] theorem cmdBase_regs (s : State) (t op : Nat) (c : Cmd) : (cmdBase s t op c).regs = s.regs := by
  unfold cmdBase; split <;> rfl
@[simp] theorem cmdState_regs (s : State) (t op : Nat) (c : Cmd) : (cmdState s t op c).regs = s.regs := by
  rw [cmdState_base]; exact cmdBase_regs s t op c
@[simp] theorem cmdBase_flt (s : State) (t op : Nat) (c : Cmd) : (cmdBase s t op c).flt = s.flt := by
  unfold cmdBase; split <;> rfl
@[simp] theorem cmdState_flt (s : State) (t op : Nat) (c : Cmd) : (cmdState s t op c).flt = s.flt := by
  rw [cmdState_base]; exact cmdBase_flt s t op c
@[simp] theorem cmdBase_cnt (s : State) (t op : Nat) (c : Cmd) : (cmdBase s t op c).cnt = s.cnt := by
  unfold cmdBase; split <;> rfl
@[simp] theorem cmdState_cnt (s : State) (t op : Nat) (c : Cmd) : (cmdState s t op c).cnt = s.cnt := by
  rw [cmdState_base]; exact cmdBase_cnt s t op c
@[simp] theorem cmdBase_ctx (s : State) (t op : Nat) (c : Cmd) : (cmdBase s t op c).ctx = s.ctx := by
  unfold cmdBase; split <;> rfl
@[simp] theorem cmdState_ctx (s : State) (t op : Nat) (c : Cmd) : (cmdState s t op c).ctx = s.ctx := by
  rw [cmdState_base]; exact cmdBase_ctx s t op c
@[simp] theorem cmdBase_ctxShadow (s : State) (t op : Nat) (c : Cmd) : (cmdBase s t op c).ctxShadow = s.ctxShadow := by
  unfold cmdBase; split <;> rfl
@[simp] theorem cmdState_ctxShadow (s : State) (t op : Nat) (c : Cmd) : (cmdState s t op c).ctxShadow = s.ctxShadow := by
  rw [cmdState_base]; exact cmdBase_ctxShadow s t op c
@[simp] theorem cmdBase_records (s : State) (t op : Nat) (c : Cmd) : (cmdBase s t op c).records = s.records := by
  unfold cmdBase; split <;> rfl
@[simp] theorem cmdState_records (s : State) (t op : Nat) (c : Cmd) : (cmdState s t op c).records = s.records := by
  rw [cmdState_base]; exact cmdBase_records s t op c
@[simp] theorem cmdBase_forgotten (s : State) (t op : Nat) (c : Cmd) : (cmdBase s t op c).forgotten = s.forgotten := by
  unfold cmdBase; split <;> rfl
@[simp] theorem cmdState_forgotten (s : State) (t op : Nat) (c : Cmd) : (cmdState s t op c).forgotten = s.forgotten := by
  rw [cmdState_base]; exact cmdBase_forgotten s t op c
@[simp] theorem cmdBase_chans (s : State) (t op : Nat) (c : Cmd) : (cmdBase s t op c).chans = s.chans := by
  unfold cmdBase; split <;> rfl
@[simp] theorem cmdState_chans (s : State) (t op : Nat) (c : Cmd) : (cmdState s t op c).chans = s.chans := by
  rw [cmdState_base]; exact cmdBase_chans s t op c
@[simp] theorem cmdBase_terms (s : State) (t op : Nat) (c : Cmd) : (cmdBase s t op c).terms = s.terms := by
  unfold cmdBase; split <;> rfl
@[simp] theorem cmdState_terms (s : State) (t op : Nat) (c : Cmd) : (cmdState s t op c).terms = s.terms := by
  rw [cmdState_base]; exact cmdBase_terms s t op c
@[simp] theorem cmdBase_gnt (s : State) (t op : Nat) (c : Cmd) : (cmdBase s t op c).gnt = s.gnt := by
  unfold cmdBase; split <;> rfl
@[simp] theorem cmdState_gnt (s : State) (t op : Nat) (c : Cmd) : (cmdState s t op c).gnt = s.gnt := by
  rw [cmdState_base]; exact cmdBase_gnt s t op c
@[simp] theorem cmdBase_phyFrame (s : State) (t op : Nat) (c : Cmd) : (cmdBase s t op c).phyFrame = s.phyFrame := by
  unfold cmdBase; split <;> rfl
@[simp] theorem cmdState_phyFrame (s : State) (t op : Nat) (c : Cmd) : (cmdState s t op c).phyFrame = s.phyFrame := by
  rw [cmdState_base]; exact cmdBase_phyFrame s t op c
@[simp] theorem cmdBase_sdus (s : State) (t op : Nat) (c : Cmd) : (cmdBase s t op c).sdus = s.sdus := by
  unfold cmdBase; split <;> rfl
@[simp] theorem cmdState_sdus (s : State) (t op : Nat) (c : Cmd) : (cmdState s t op c).sdus = s.sdus := by
  rw [cmdState_base]; exact cmdBase_sdus s t op c
@[simp] theorem cmdBase_allocs (s : State) (t op : Nat) (c : Cmd) : (cmdBase s t op c).allocs = s.allocs := by
  unfold cmdBase; split <;> rfl
@[simp] theorem cmdState_allocs (s : State) (t op : Nat) (c : Cmd) : (cmdState s t op c).allocs = s.allocs := by
  rw [cmdState_base]; exact cmdBase_allocs s t op c
@[simp] theorem cmdBase_treeRot (s : State) (t op : Nat) (c : Cmd) : (cmdBase s t op c).treeRot = s.treeRot := by
  unfold cmdBase; split <;> rfl
@[simp] theorem cmdState_treeRot (s : State) (t op : Nat) (c : Cmd) : (cmdState s t op c).treeRot = s.treeRot := by
  rw [cmdState_base]; exact cmdBase_treeRot s t op c
@[simp] theorem cmdBase_drl (s : State) (t op : Nat) (c : Cmd) : (cmdBase s t op c).drl = s.drl := by
  unfold cmdBase; split <;> rfl
@[simp] theorem cmdState_drl (s : State) (t op : Nat) (c : Cmd) : (cmdState s t op c).drl = s.drl := by
  rw [cmdState_base]; exact cmdBase_drl s t op c
@[simp] theorem cmdBase_fwd (s : State) (t op : Nat) (c : Cmd) : (cmdBase s t op c).fwd = s.fwd := by
  unfold cmdBase; split <;> rfl
@[simp] theorem cmdState_fwd (s : State) (t op : Nat) (c : Cmd) : (cmdState s t op c).fwd = s.fwd := by
  rw [cmdState_base]; exact cmdBase_fwd s t op c
@[simp] theorem cmdBase_sw (s : State) (t op : Nat) (c : Cmd) : (cmdBase s t op c).sw = s.sw := by
  unfold cmdBase; split <;> rfl
@[simp] theorem cmdState_sw (s : State) (t op : Nat) (c : Cmd) : (cmdState s t op c).sw = s.sw := by
  rw [cmdState_base]; exact cmdBase_sw s t op c
@[simp] theorem cmdBase_tm (s : State) (t op : Nat) (c : Cmd) : (cmdBase s t op c).tm = s.tm := by
  unfold cmdBase; split <;> rfl
@[simp] theorem cmdState_tm (s : State) (t op : Nat) (c : Cmd) : (cmdState s t op c).tm = s.tm := by
  rw [cmdState_base]; exact cmdBase_tm s t op c
@[simp] theorem cmdBase_cph (s : State) (t op : Nat) (c : Cmd) : (cmdBase s t op c).cph = s.cph := by
  unfold cmdBase; split <;> rfl
@[simp] theorem cmdState_cph (s : State) (t op : Nat) (c : Cmd) : (cmdState s t op c).cph = s.cph := by
  rw [cmdState_base]; exact cmdBase_cph s t op c
@[simp] theorem cmdBase_upl (s : State) (t op : Nat) (c : Cmd) : (cmdBase s t op c).upl = s.upl := by
  unfold cmdBase; split <;> rfl
@[simp] theorem cmdState_upl (s : State) (t op : Nat) (c : Cmd) : (cmdState s t op c).upl = s.upl := by
  rw [cmdState_base]; exact cmdBase_upl s t op c
@[simp] theorem cmdBase_hbm (s : State) (t op : Nat) (c : Cmd) : (cmdBase s t op c).hbm = s.hbm := by
  unfold cmdBase; split <;> rfl
@[simp] theorem cmdState_hbm (s : State) (t op : Nat) (c : Cmd) : (cmdState s t op c).hbm = s.hbm := by
  rw [cmdState_base]; exact cmdBase_hbm s t op c
@[simp] theorem cmdBase_cxm (s : State) (t op : Nat) (c : Cmd) : (cmdBase s t op c).cxm = s.cxm := by
  unfold cmdBase; split <;> rfl
@[simp] theorem cmdState_cxm (s : State) (t op : Nat) (c : Cmd) : (cmdState s t op c).cxm = s.cxm := by
  rw [cmdState_base]; exact cmdBase_cxm s t op c
@[simp] theorem cmdBase_mgt (s : State) (t op : Nat) (c : Cmd) : (cmdBase s t op c).mgt = s.mgt := by
  unfold cmdBase; split <;> rfl
@[simp] theorem cmdState_mgt (s : State) (t op : Nat) (c : Cmd) : (cmdState s t op c).mgt = s.mgt := by
  rw [cmdState_base]; exact cmdBase_mgt s t op c
@[simp] theorem cmdBase_time (s : State) (t op : Nat) (c : Cmd) : (cmdBase s t op c).time = (s.begin t).time := by
  unfold cmdBase; split <;> rfl
@[simp] theorem cmdState_time (s : State) (t op : Nat) (c : Cmd) : (cmdState s t op c).time = (s.begin t).time := by
  rw [cmdState_base]; exact cmdBase_time s t op c
@[simp] theorem cmdBase_host (s : State) (t op : Nat) (c : Cmd) : (cmdBase s t op c).host = s.host := by
  unfold cmdBase; split <;> rfl
@[simp] theorem cmdState_ringSize (s : State) (t op : Nat) (c : Cmd) (r : Nat) : (cmdState s t op c).ringSize r = s.ringSize r := by
  simp [State.ringSize, State.fld, State.reg]
@[simp] theorem cmdState_ringCmpl (s : State) (t op : Nat) (c : Cmd) (r : Nat) : (cmdState s t op c).ringCmpl r = s.ringCmpl r := by
  simp [State.ringCmpl, State.reg]

/-- A table write touches neither the host interface nor the outputs. -/
theorem State.ctxWrite_host (s : State) (f : CtxTables → CtxTables) (h : HostSt) :
    ∃ o, ({ s with host := h } : State).ctxWrite f = { s.ctxWrite f with host := h, outs := o } := by
  refine ⟨s.outs, ?_⟩
  unfold State.ctxWrite
  by_cases hk : s.cxm.link = true
  · simp only [hk, if_true]
  · simp only [hk]; rfl
@[simp] theorem State.ctxWrite_regs (s : State) (f : CtxTables → CtxTables) : (s.ctxWrite f).regs = s.regs := by
  unfold State.ctxWrite; split <;> rfl

theorem State.ringSize_of {s u : State} {r : Nat} (h : u.regs = s.regs) : u.ringSize r = s.ringSize r := by
  simp [State.ringSize, State.fld, State.reg, h]
theorem State.ringCmpl_of {s u : State} {r : Nat} (h : u.regs = s.regs) : u.ringCmpl r = s.ringCmpl r := by
  simp [State.ringCmpl, State.reg, h]

/-- A buffer of a length that its command takes, and that was read. -/
theorem withBuf_ok {x : Slot} {g : Nat → Bool} {b : List Byte} (s : State) (k : List Byte → Turn) (hl : x.len ≠ 0) (hg : g x.len = true)
    (hb : x.buf = some b) : withBuf x g s k = k b := by
  simp [withBuf, hl, hg, hb]

/-- Table writes one after the other touch neither the host interface nor the outputs. -/
theorem State.ctxWrites_host {α : Type} (l : List α) (f : α → CtxTables → CtxTables) (s : State) (h : HostSt) :
    ∃ o, l.foldl (fun (u : State) a => u.ctxWrite (f a)) ({ s with host := h } : State)
      = { l.foldl (fun (u : State) a => u.ctxWrite (f a)) s with host := h, outs := o } := by
  have one : ∀ (s : State) (o : List Out) (g : CtxTables → CtxTables), ∃ o',
      ({ s with host := h, outs := o } : State).ctxWrite g = ({ s.ctxWrite g with host := h, outs := o' } : State) := by
    intro s o g
    unfold State.ctxWrite
    refine ⟨o, ?_⟩
    by_cases hk : s.cxm.link = true
    · simp only [hk, if_true]
    · simp only [hk]; rfl
  have gen : ∀ (s : State) (o : List Out), ∃ o', l.foldl (fun (u : State) a => u.ctxWrite (f a)) ({ s with host := h, outs := o } : State)
      = { l.foldl (fun (u : State) a => u.ctxWrite (f a)) s with host := h, outs := o' } := by
    induction l with
    | nil => intro s o; exact ⟨o, rfl⟩
    | cons a l ih =>
      intro s o
      obtain ⟨o1, e1⟩ := one s o (f a)
      obtain ⟨o2, e2⟩ := ih (s.ctxWrite (f a)) o1
      exact ⟨o2, by simp only [List.foldl_cons]; rw [e1, e2]⟩
  exact gen s s.outs
theorem State.ctxWrites_regs {α : Type} (l : List α) (f : α → CtxTables → CtxTables) (s : State) :
    (l.foldl (fun (u : State) a => u.ctxWrite (f a)) s).regs = s.regs := by
  induction l generalizing s with
  | nil => rfl
  | cons a l ih => simp [ih]

/-- A command whose effect stands, and whose completion comes later. -/
theorem inProgress_of {i : Instr} {s : State} {t op : Nat} {c : Cmd} {u v : State} (hi : exec i s = s.runCmd t op c)
    (h : cmdReady s op c = true) (hb : opBody (cmdSlot s op c) (cmdState s t op c) = (u, .pend))
    (hs : u.host.slots = (cmdState s t op c).host.slots) (hu : ∃ h o, u = { v with host := h, outs := o }) : InProgress i s op c v := by
  have hslots : u.host.slots = [cmdSlot s op c] := by
    rw [hs, State.submit_cmdState h]
    by_cases hw : (sliceOpcode op && decide (c.spec < 8)) = true
    · simp only [hw, if_true]; exact State.newSlot_slots h t
    · simp only [hw]; exact State.newSlot_slots h t
  obtain ⟨h', o', e⟩ := hu
  refine ⟨_, (hi.trans (State.runCmd_pend h t hb hslots rfl rfl)), rfl, ?_⟩
  rw [e]

/-- A command whose checks are of the form of `CheckedLater`. -/
theorem checkedLater_of {i : Instr} {s : State} {t op : Nat} {c : Cmd} {l : List (Bool × Nat)} {f : State → State}
    (hi : exec i s = s.runCmd t op c) (h : cmdReady s op c = true) (hc : c.cmplOk = true) {u : State}
    (hb : opBody (cmdSlot s op c) (cmdState s t op c) = checks l (cmdState s t op c) (fun _ => (u, .pend)))
    (hl : l.all (fun e => e.2 != Status.ok) = true) (hs : u.host.slots = (cmdState s t op c).host.slots)
    (hu : ∃ h o, u = { f (cmdBase s t op c) with host := h, outs := o }) : CheckedLater i s t op c l f := by
  rw [checks_firstBad _ _ _ hl] at hb
  unfold CheckedLater
  by_cases hk : firstBad l = Status.ok
  · rw [if_pos hk] at hb
    rw [if_pos hk]
    exact inProgress_of hi h hb hs hu
  · rw [if_neg hk] at hb
    rw [if_neg hk]
    refine answersWith_of hi h hc hb ?_ (State.ringSize_of (by simp)) (State.ringCmpl_of (by simp))
    rw [cmdState_outs]; exact cmdState_base s t op c

end Sys2Proof.Machine
end

