-- ==== Sys2Proof/Machine/LineBits.lean ====
section
/-! DEFINITION. Machine/LineBits.lean: what a PHY frame and a burst look like on their lines (02, 03): the FS frame that the
outputs of a frame's rows make, its codewords, bits, symbols and levels, and the parts of an upstream burst. The rows put frames
out, and take bursts in, by their fields; these functions say which bytes and symbols those fields are. -/

namespace Sys2Proof.Machine

/-! ## Headers (R47, R48, R146) -/

/-- A field followed by its HEC. -/
def withHec (n v : Nat) : Nat := v % 2 ^ n * 2 ^ 13 + Config.hec n (v % 2 ^ n) % 2 ^ 13

/-- PSBd: PSync, the SFC structure, and the PON-ID structure or, in F50 and D100, the operation-control structure. -/
def psbd (mode psync sfc ponId : Nat) : List Byte :=
  toBe 8 psync ++ toBe 8 (withHec 51 sfc) ++ toBe 8 (if mode = 0 then withHec 51 ponId else Config.opControl ponId)

/-- HLend: lengths of the bandwidth map and of the PLOAM field. -/
def hlend (structs ploams : Nat) : List Byte := toBe 4 (withHec 19 (structs % 2 ^ 11 * 2 ^ 8 + ploams % 2 ^ 8))

/-- An allocation structure (05 Table 3): the first of a burst carries its StartTime and PLOAMu flag. -/
def AStruct.word (b : GBurst) (first : Bool) (x : AStruct) : List Byte :=
  let time := if first then b.start else 0xFFFF
  toBe 8 (withHec 51 (((((x.allocId % 2 ^ 14 * 2 + b2n x.dbru) * 2 + b2n (first && b.ploamu)) * 4 + b.profile % 4) * 2 ^ 16
    + time % 2 ^ 16) * 2 ^ 17 + x.size % 2 ^ 16 * 2))

/-- The structures of a burst. -/
def GBurst.words (b : GBurst) : List Byte :=
  match b.structs with
  | [] => []
  | x :: xs => x.word b true ++ xs.flatMap (fun y => y.word b false)

/-- The bandwidth map of a frame (R148: its bursts stand in StartTime order). -/
def GMap.words (m : GMap) : List Byte := m.bursts.flatMap GBurst.words

/-- The FS frame up to its payload: HLend, the map, the PLOAMd messages (R48). -/
def fsHead (m : GMap) (ploam : List (List Byte)) : List Byte :=
  hlend ((m.bursts.map (fun b => b.structs.length)).foldl (· + ·) 0) ploam.length ++ m.words ++ ploam.flatten

/-- An XGEM header (02, XGEM frames and fragmentation). -/
def xgemHeader (pli keyIdx portId opts : Nat) (last : Bool) : List Byte :=
  toBe 8 (withHec 51 ((((pli % 2 ^ 14 * 4 + keyIdx % 4) * 2 ^ 16 + portId % 2 ^ 16) * 2 ^ 18 + opts % 2 ^ 18) * 2 + b2n last))

/-- The bytes that an output puts into the FS frame of a mode, before FEC. -/
def Out.fsBytes (mode : Nat) : Out → List Byte
  | .phyFrame _ _ _ _ map ploam => fsHead map ploam
  | .xgem _ _ pli portId keyIdx opts last payload => xgemHeader pli keyIdx portId opts last ++ payload
  | .idle _ _ size => (List.range size).map (Config.idleByte mode size)
  | _ => []

/-- How many FS payload bytes a frame leaves to what stands at an output's place and behind it: the head of a frame comes first. -/
def Out.leaves : Out → Option Nat
  | .phyFrame .. => some (2 ^ 32)
  | .xgem _ space .. | .idle _ space _ => some space
  | _ => none

/-- The FS frame that the outputs of a channel's rows make, from one frame start to the next (R48, R84): each at its place. -/
def fsFrame (mode : Nat) (outs : List Out) : List Byte :=
  (sortBy (fun (o : Out) => 2 ^ 32 - o.leaves.getD 0) (outs.filter (fun o => o.leaves.isSome))).flatMap (Out.fsBytes mode)

/-! ## Symbols (03 R74 to R77) -/

/-- The bits of bytes in transmission order (R5). -/
def bitsOf (b : List Byte) : List Bool := b.flatMap (fun x => (List.range 8).map (fun i => x.getLsbD (7 - i)))

/-- The level of a PAM4 symbol by its first and second bit (03 Table 1). -/
def pam4Level : Bool → Bool → Nat
  | false, false => 0
  | false, true => 1
  | true, true => 2
  | true, false => 3

/-- The level of an NRZ symbol of a D100 channel (R75). -/
def nrzLevel (b : Bool) : Nat := if b then 3 else 0

/-- Consecutive bit pairs (R76); no rule makes their number odd. -/
def pam4Pairs : List Bool → List Nat
  | a :: b :: t => pam4Level a b :: pam4Pairs t
  | [_] => []
  | [] => []

/-- The transmitted level of a channel, in 1/1,536 of the swing (R77); the trims are ignored unless MODE is 0b10. -/
def State.txLevel (s : State) (c level : Nat) : Int :=
  let trim (hi lo : Nat) : Int := if s.mode c = 2 then 3 * signed 6 (s.fld Reg.pchD100 hi lo c) else 0
  match level with
  | 0 => 0
  | 1 => 512 + trim 5 0
  | 2 => 1024 + trim 13 8
  | _ => 1536

/-! ## Codewords (R42, R81, R82, R88) -/

/-- A bit string, first bit first. -/
def bvBits {n : Nat} (v : BitVec n) : List Bool := (List.range n).map (fun i => v.getLsbD (n - 1 - i))

/-- The information bits that the encoder takes: those of a shortened codeword with zero bits, which are not sent. -/
def filled (info : List Bool) : List Bool :=
  let zeros := List.replicate (14592 - info.length) false
  if Config.zerosFirst then zeros ++ info else info ++ zeros

/-- A codeword of an LDPC code: information bits and 2,688 parity bits. -/
def ldpcWord (parity : List Bool → BitVec 2688) (info : List Bool) : List Bool := info ++ bvBits (parity (filled info))

/-- An RS codeword: data and parity bytes. -/
def rsWord (n : Nat) (data : List Byte) : List Byte := data ++ (List.range n).map (Config.rsParity n data)

/-- Bytes in pieces of n, the last one shorter. -/
def piecesOf (n : Nat) (b : List Byte) : List (List Byte) := (List.range (cdiv b.length n)).map (fun j => cut b (n * j) n)

/-- Scrambled bits: bit n of a stream under bit n of the scrambler. -/
def scrambled (f : Nat → Bool) (b : List Bool) : List Bool := b.zipIdx.map (fun e => xor e.1 (f e.2))

/-- The bits of an XGS or F50 PHY frame (02 Table 5, R42): PSBd, then the scrambled codewords of the FS frame in order. -/
def nrzFrame (mode psync sfc ponId : Nat) (fs : List Byte) : List Bool :=
  let words := if mode = 0 then (piecesOf 216 fs).flatMap (fun x => bitsOf (rsWord 32 x))
    else (piecesOf 1824 fs).flatMap (fun x => ldpcWord Config.ldpcParity (bitsOf x))
  bitsOf (psbd mode psync sfc ponId) ++ scrambled (Config.scrambleBit mode sfc) words

/-! ## The D100 downstream frame (R78, R81 to R83) -/

/-- Information bytes of one codeword of a block. -/
def d100Info (block : Nat) : Nat := if block = 359 then 1808 else 1824

/-- Where byte n of the FS frame lies: its block, whether in codeword B, and its place among the information bytes. -/
def d100Place (n : Nat) : Nat × Bool × Nat :=
  let block := n / 3648
  let o := n % 3648
  let h := d100Info block
  if o < h then (block, false, o) else (block, true, o - h)

/-- The first frame symbol of a block. -/
def d100BlockAt (block : Nat) : Nat := 128 + 17280 * block

/-- Where the scrambler stands at a codeword: A0, B0, A1, B1 and so on (R83). -/
def d100ScrambleAt (block : Nat) (second : Bool) : Nat :=
  34560 * block + (if second then 8 * d100Info block + 2688 else 0)

/-- A codeword as sent: information and parity bits, scrambled. -/
def d100Codeword (sfc block : Nat) (second : Bool) (fs : List Byte) : List Bool :=
  let h := d100Info block
  let info := bitsOf (cut fs (3648 * block + (if second then h else 0)) h)
  scrambled (fun n => Config.scrambleBit 2 sfc (d100ScrambleAt block second + n)) (ldpcWord Config.ldpcParity info)

/-- The symbols of a block: codeword A gives first bits, codeword B second bits. -/
def d100Block (sfc fsBlock : Nat) (fs : List Byte) : List Nat :=
  List.zipWith pam4Level (d100Codeword sfc fsBlock false fs) (d100Codeword sfc fsBlock true fs)

/-- The symbols of a D100 PHY frame (03 Table 3). -/
def d100Frame (psync sfc ponId : Nat) (fs : List Byte) : List Nat :=
  (bitsOf (toBe 8 psync)).map nrzLevel ++ pam4Pairs (bitsOf (toBe 8 (withHec 51 sfc) ++ toBe 8 (Config.opControl ponId)))
    ++ (List.range 360).flatMap (fun b => d100Block sfc b fs)

/-- The levels that leave a channel's transmit balls in the PHY frame of an output and those that follow it (R77, R78). -/
def State.sentLevels (s : State) (c : Nat) (outs : List Out) : List Int :=
  let fs := fsFrame (s.mode c) outs
  outs.flatMap (fun o => match o with
    | .phyFrame _ sfc ponId psync _ _ =>
      (if s.mode c = 2 then d100Frame psync sfc ponId fs else (nrzFrame (s.mode c) psync sfc ponId fs).map nrzLevel).map (s.txLevel c)
    | _ => [])

/-! ## Upstream bursts (02 Table 7; R75, R86 to R88) -/

/-- The first bytes of a pattern of a profile, sent most significant byte first (R5). DESIGN CHOICE (log entry 75): the spec does
not say which bytes of the 64 bits a shorter pattern takes. -/
def State.patternBits (s : State) (c lo hi n : Nat) : List Bool := bitsOf ((toBe 8 (s.pattern c lo hi)).take n)

/-- The preamble and the delimiter of a burst under a profile. -/
def State.psbu (s : State) (c p : Nat) : List Bool :=
  (List.replicate (s.bp c p 15 8) (s.patternBits c (Reg.pchBpPreLo p) (Reg.pchBpPreHi p) (s.bp c p 3 0))).flatten
    ++ s.patternBits c (Reg.pchBpDlmLo p) (Reg.pchBpDlmHi p) (s.bp c p 19 16)

/-- The codewords of an FS burst under a profile, from its header to its trailer: RS(248,232) in XGS, the upstream LDPC code of the
rate in F50 and D100, the last one shortened; the burst itself with FEC off. -/
def State.burstWords (s : State) (c p : Nat) (fs : List Byte) : List (List Bool) :=
  let rate := if s.usRate c = 4 then 3 else s.usRate c
  if !s.flg (Reg.pchBpCtl p) 20 c then [bitsOf fs]
  else if s.mode c = 0 then (piecesOf 232 fs).map (fun x => bitsOf (rsWord 16 x))
  else (piecesOf 1824 fs).map (fun x => ldpcWord (Config.upParity rate) (bitsOf x))

/-- Scrambles codewords as one stream. -/
def scrambleWords (f : Nat → Bool) : Nat → List (List Bool) → List (List Bool)
  | _, [] => []
  | at_, w :: ws => scrambled (fun n => f (at_ + n)) w :: scrambleWords f (at_ + w.length) ws

/-- The level-training field: 64 symbols of fixed levels. -/
def ltfLevels : List Nat := (List.replicate 8 [0, 1, 2, 3, 3, 2, 1, 0]).flatten

/-- The symbols of a pair of codewords: paired bits as long as both have them, the rest of A in consecutive pairs. -/
def burstPair (a b : List Bool) : List Nat := List.zipWith pam4Level a b ++ pam4Pairs (a.drop b.length)

/-- The symbols of a burst's scrambled codewords, paired in order; an odd last one is sent alone. -/
def burstSymbols : List (List Bool) → List Nat
  | a :: b :: t => burstPair a b ++ burstSymbols t
  | [a] => pam4Pairs a
  | [] => []

/-- The symbols of an upstream burst under a profile (02 Table 7, 03 Table 5): preamble and delimiter NRZ; at 99.5328 Gbit/s the
level-training field and the paired codewords, else NRZ to its end. -/
def State.upBurst (s : State) (c p : Nat) (fs : List Byte) : List Nat :=
  let rate := if s.usRate c = 4 then 3 else s.usRate c
  let words := scrambleWords (Config.upScramble (s.mode c) rate) 0 (s.burstWords c p fs)
  (s.psbu c p).map nrzLevel ++ (if s.usRate c = 4 then ltfLevels ++ burstSymbols words else words.flatten.map nrzLevel)

end Sys2Proof.Machine
end

