-- ==== Sys2Proof/Tests/Slice0.lean ====
section
/-! SUPPORT. Tests/Slice0.lean: the smoke test of WellFormed, a witness of the hypotheses of each obligation, and tests of single
commands on small states against the spec's own figures. -/

namespace Sys2Proof.Tests

open Sys2Proof Sys2Proof.Machine

set_option maxRecDepth 100000

/-! ## Small states -/

/-- A device in service: set up, locked and live, its host link up. -/
def live : State :=
  { State.reset with life := { locked := true, live := true, opened := true }, host := { State.reset.host with inReset := false } }

/-- A device in service whose ring 0 runs, of a type, with 64 entries. -/
def onRing (type : Nat) : State :=
  { live with host := { live.host with rings := [(0, { state := .running })] },
              regs := [(regKey (Reg.hifRingCfg 0) 0, BitVec.ofNat 32 (2 ^ 31 + type * 2 ^ 28 + 6 * 2 ^ 11))] }

def zeros (n : Nat) : List Byte := List.replicate n 0

/-- A command on ring 0 with a buffer. -/
def cmd (spec : Nat) (b : List Byte) (flags : Nat := 0) : Cmd :=
  { ring := ⟨0, by decide⟩, flags := flags, spec := spec, len := b.length, addr := 0, cookie := 7, aux := 0x1000, buf := some b,
    resOk := true, cmplOk := true }

/-- A command in progress on ring 0, its effect standing. -/
def waiting (op : Nat) : Slot :=
  { id := 0, ring := 0, idx := 0, opcode := op, flags := 0, spec := 0, len := 0, addr := 0, cookie := 7, aux := 0x1000, phase := .effect }

/-- A device in service that waits for one command of ring 0. -/
def waits (op : Nat) : State :=
  { onRing 0 with host := { (onRing 0).host with slots := [waiting op], nextSlot := 1, rings := [(0, { state := .running, idx := 1, head := 1 })] } }

/-! ## Witnesses: commands of the rings -/

/-- Every layout of CommandChecks, and a NOP, meets its ring ready: LEN 0, another LEN, and the layout's LEN without a buffer. -/
theorem witness_CommandChecks :
    (cmdReady (onRing 0) Op.nop (cmd 0 []) = true ∧ cmdReady (onRing 6) Op.nop (cmd 0 []) = true)
    ∧ (∀ e ∈ [(Op.channelMode, 4), (Op.allowWrite, 16), (Op.allocSet, 36), (Op.svcSet, 8), (Op.fwdInsert, 16), (Op.schedSet, 80),
        (Op.macsecRxSet, 64), (Op.todQuery, 4)],
      cmdReady (onRing 0) e.1 (cmd 0 []) = true ∧ (cmd 0 []).len = 0 ∧ cmdReady (onRing 0) e.1 (cmd 0 [0]) = true ∧ (cmd 0 [0]).len ≠ e.2
        ∧ cmdReady (onRing 0) e.1 { cmd 0 (zeros e.2) with buf := none } = true ∧ (cmd 0 (zeros e.2)).len = e.2) := by decide

theorem witness_PacketRings :
    (let s := onRing 1; let b := zeros 64; let c := cmd 271 b 1;
      Buffered s Op.pktTx c b.length b ∧ bit c.flags 3 = false ∧ (s.ring 0).chain = 0 ∧ s.ringOwner 0 = 0 ∧ bit c.flags 0 = true ∧ c.spec ≤ 271)
    ∧ (cmdReady (onRing 2) Op.rxBuf (cmd 0 (zeros 127)) = true ∧ cmdReady (onRing 2) Op.rxBuf (cmd 0 (zeros 128)) = true)
    ∧ (let s := { onRing 5 with terms := [(255, { state := .operation })], ctx := { xgem := [(3, { valid := true, portId := 9, term := 255, omcc := true })] } };
       let b := zeros 48; let c := cmd 255 b;
      Buffered s Op.omciTx c b.length b ∧ (s.ring 0).chain = 0 ∧ (s.term (s.ringBind 0) c.spec).state = .operation
        ∧ (s.omccOf (s.ringBind 0) c.spec).isSome = true)
    ∧ (let c := { cmd 17 (zeros 4) with len := 4096, aux := 8 };
      cmdReady (onRing 4) Op.cntPage c = true ∧ (onRing 4).ringOwner 0 = 0) := by decide

theorem witness_ChannelCommands :
    (Buffered (onRing 0) Op.channelMode (cmd 191 (zeros 4)) 4 (zeros 4) ∧ (onRing 0).drl.moves = [])
    ∧ Buffered (onRing 0) Op.rssiArm (cmd 191 (zeros 4)) 4 (zeros 4)
    ∧ (∀ b ∈ [([0, 160, 1, 1] : List Byte), [1, 160, 1, 2, 3, 4]],
      Buffered (onRing 0) Op.modAccess (cmd 191 b) (if byteAt b 0 == 1 then 4 + byteAt b 3 else 4) b ∧ byteAt b 3 ≠ 0) := by decide

theorem witness_AllowCommands :
    Buffered (onRing 0) Op.allowWrite (cmd 0 (zeros 16)) 16 (zeros 16) ∧ Buffered (onRing 0) Op.allowErase (cmd 0 (zeros 8)) 8 (zeros 8)
    ∧ Buffered (onRing 0) Op.recordForget (cmd 0 (zeros 8)) 8 (zeros 8) := by decide

/-- A ring, and a terminal in the last context of channel 191 beside a move of another terminal of that channel. -/
def termOn (x : TermState) : State :=
  { onRing 0 with terms := [(ctxNo 191 255, { state := x })], drl := { (onRing 0).drl with moves := [{ src := 191, i := 0, tgt := 190, txn := 1, pin := none }] } }

theorem witness_TerminalCommands :
    (∀ e ∈ ([(Op.termDeactivate, .operation, .lost), (Op.termDisable, .lost, .disabled), (Op.termEnableSn, .disabled, .lost),
        (Op.termRelease, .disabled, .operation)] : List (Nat × TermState × TermState)),
      Buffered (termOn e.2.1) e.1 (cmd 191 [255, 0, 0, 0]) 4 [255, 0, 0, 0] ∧ ((termOn e.2.1).term 191 255).state = e.2.1
        ∧ Buffered (termOn e.2.2) e.1 (cmd 191 [255, 0, 0, 0]) 4 [255, 0, 0, 0] ∧ ((termOn e.2.2).term 191 255).state = e.2.2
        ∧ (termOn e.2.1).drl.moves.all (fun m => m.i != 255) = true)
    ∧ (∀ op ∈ [Op.termDeactivate, Op.termDisable, Op.termEnableSn, Op.termRelease],
      Buffered (onRing 0) op (cmd 192 [255, 0, 0, 0]) 4 [255, 0, 0, 0])
    ∧ Buffered (onRing 0) Op.ploamSend (cmd 192 (zeros 52)) 52 (zeros 52)
    ∧ Buffered (onRing 0) Op.xgemPortSet (cmd 0 (zeros 16)) 16 (zeros 16) := by decide

/-- A channel whose snapshot instant has room, one whose has none, and one with a profile. -/
theorem witness_GrantCommands :
    (let s := { onRing 0 with gnt := [(191, { room := 1 })] }; let b : List Byte := [255, 3, 0, 0, 0, 128] ++ zeros 30; let c := cmd 191 b;
      Buffered s Op.allocSet c 36 b ∧ leAt b 0 2 ≤ 1023 ∧ 0 < (s.gntCh 191).room ∧ ((onRing 0).gntCh 191).room = 0)
    ∧ (let s := { onRing 0 with gnt := [(191, { room := 1 })] }; let b : List Byte := [255, 3, 0, 0];
      Buffered s Op.allocClear (cmd 191 b) 4 b ∧ leAt b 0 2 ≤ 1023 ∧ 0 < (s.gntCh 191).room)
    ∧ (let s := { onRing 0 with gnt := [(191, { room := 1 })], terms := [(ctxNo 191 255, { state := .lost })],
                                regs := (onRing 0).regs ++ [(regKey (Reg.pchBpCtl 3) 191, 0xFFFFFFFF)] }
       let b : List Byte := [255, 3, 0, 0];
      Buffered s Op.termProfile (cmd 191 b) 4 b ∧ 0 < (s.gntCh 191).room ∧ (s.term 191 (byteAt b 0)).state ≠ .free ∧ s.bpValid 191 (byteAt b 1 % 4) = true)
    ∧ (let s := { onRing 0 with regs := (onRing 0).regs ++ [(regKey Reg.gntCfg 0, 0xFFFF)],
                                ctx := { sla := [(5, { valid := true, coop := true, coopMax := 1 })] } }
       let b : List Byte := [5, 0] ++ List.replicate 14 1; let e := coopOfBuf b;
      Buffered s Op.coopAnnounce (cmd 0 b) 16 b ∧ (s.slaOf 0 e.ctx).valid = true ∧ (s.slaOf 0 e.ctx).coop = true ∧ (s.slaOf 0 e.ctx).coopMax ≠ 0
        ∧ s.fld Reg.gntCfg 15 8 0 ≠ 0 ∧ e.bytes ≠ 0 ∧ (s.gntCh 0).coop.length < 256) := by decide

/-- A terminal of channel 191 in OPERATION at its earliest equalisation delay, and channel 188 enabled. -/
def movable : State :=
  { onRing 0 with
    regs := (onRing 0).regs ++ [(regKey Reg.drlCfg 0, 0x01010101), (regKey Reg.pchCtrl 188, 1), (regKey Reg.actReach 188, 0x01900000)],
    terms := [(ctxNo 191 1, { state := .operation, sn := 5, onuId := 3, txn := 65535, eqd := toDrift teqdU - toDrift (35 * usU) })],
    ctx := { (onRing 0).ctx with xgem := [(4096 * 191 + 4095, { valid := true, portId := 9, term := 1, omcc := true })] } }

def moveBuf : List Byte := [1, 0] ++ zeros 14
def aMove (arrived : Bool) : Move := { src := 191, i := 1, tgt := 188, pin := none, txn := 0, step := 7, arrived := arrived }

theorem witness_MoveCommands :
    (let s := movable; let c := cmd 191 moveBuf; let y := s.term 191 1;
      Buffered s Op.termMove c 16 moveBuf ∧ s.flg Reg.drlCfg 0 = true ∧ s.fld Reg.drlCfg 31 24 ≠ 0 ∧ s.fld Reg.drlCfg 23 16 ≠ 0
      ∧ s.fld Reg.drlCfg 13 8 ≠ 0 ∧ y.state = .operation ∧ y.losi = false ∧ (s.omccOf 191 1).isSome = true ∧ s.drl.moves = []
      ∧ s.flg Reg.pchCtrl 0 188 = true ∧ (s.allocsOf 191 1).length ≤ 32 ∧ (s.portsOf 191 1).length ≤ 256
      ∧ s.onuFree 188 y.onuId = true ∧ (s.moveIndex { src := 191, i := 1, tgt := 188, pin := none, txn := 0 }).isSome = true
      ∧ reachU (s.fld Reg.actReach 9 0 188) + 34 * usU ≤ driftU (toDrift teqdU - y.eqd)
      ∧ driftU (toDrift teqdU - y.eqd) ≤ reachU (s.fld Reg.actReach 9 0 188 + s.fld Reg.actReach 25 16 188) + 36 * usU)
    ∧ (let s (a : Bool) : State := { movable with drl := { movable.drl with moves := [aMove a] } };
      Buffered (s false) Op.termMoveAbort (cmd 191 moveBuf) 16 moveBuf ∧ ((aMove false).arrived || ((s false).begin 0).arrivesNow (aMove false)) = false
      ∧ Buffered (s true) Op.termMoveAbort (cmd 191 moveBuf) 16 moveBuf ∧ ((aMove true).arrived || ((s true).begin 0).arrivesNow (aMove true)) = true) := by decide

theorem witness_ServiceCommands :
    ∀ e ∈ [(Op.svcSet, 8), (Op.svcLearn, 8), (Op.svcMapUp, 16), (Op.svcMatchAdd, 8), (Op.svcMatchDel, 8)],
      Buffered (onRing 0) e.1 (cmd 7 (zeros e.2)) e.2 (zeros e.2) := by decide

theorem witness_RuleCommands :
    (Buffered (onRing 0) Op.ruleWrite (cmd 7 (zeros 144)) (144 * 1) (zeros 144))
    ∧ (Buffered (onRing 0) Op.rsetWrite (cmd 7 (zeros 24)) 24 (zeros 24))
    ∧ (Buffered (onRing 0) Op.indirWrite (cmd 7 (zeros 6)) (4 + 2 * 1) (zeros 6)) := by decide

/-- A forwarding table of 65,536 entries that holds one key. -/
def tabled : State :=
  let s : State := { onRing 0 with regs := (onRing 0).regs ++ [(regKey Reg.fwdCfg 0, 1)] }
  { s with fwd := { s.fwd with rows := [(s.fwdLoc 1 0x20000000003 0, { mac := 0x20000000003, fid := 1, valid := true, dest := 9 })] } }

def keyBuf (n : Nat) : List Byte := [2, 0, 0, 0, 0, 3, 1, 0] ++ zeros (n - 8)

theorem witness_TableCommands :
    (Buffered tabled Op.fwdInsert (cmd 0 (keyBuf 16)) 16 (keyBuf 16) ∧ (tabled.fwdFind 1 0x20000000003).isSome = true)
    ∧ Buffered tabled Op.fwdDelete (cmd 0 (keyBuf 8)) 8 (keyBuf 8) ∧ Buffered tabled Op.fwdSearch (cmd 0 (keyBuf 8)) 8 (keyBuf 8)
    ∧ (let b := keyBuf 8 ++ [3] ++ zeros 7;
      Buffered tabled Op.fwdMove (cmd 0 b) 16 b ∧ (tabled.fwdNamed b).isSome = true
        ∧ tabled.fwdNamed b ≠ some (tabled.fwdLoc (leAt b 6 2) (beAt b 0 6) (byteAt b 8 % 4)))
    ∧ (let b := zeros 4 ++ [1] ++ zeros 11;
      Buffered tabled Op.fwdNext (cmd 0 b) 16 b ∧ leAt b 4 2 ≠ 0)
    ∧ (let b := [3] ++ zeros 7 ++ [1] ++ zeros 7;
      Buffered tabled Op.fwdFlush (cmd 0 b) 16 b ∧ leAt b 8 4 ≠ 0 ∧ tabled.fwd.flushes = []) := by decide

theorem witness_SwitchCommands :
    Buffered (onRing 0) Op.swQprof (cmd 7 (zeros 16)) 16 (zeros 16) ∧ Buffered (onRing 0) Op.mcGroupSet (cmd 0 (zeros 8)) 8 (zeros 8)
    ∧ Buffered (onRing 0) Op.mcMemberWrite (cmd 0 (zeros 12)) (4 + 8 * 1) (zeros 12) := by decide

theorem witness_TrafficCommands :
    ∀ e ∈ [(Op.meterSet, 32), (Op.shaperSet, 24), (Op.schedSet, 80), (Op.cbsSet, 16), (Op.gclSet, 32)],
      Buffered (onRing 0) e.1 (cmd 0 (zeros e.2)) e.2 (zeros e.2) := by decide

theorem witness_KeyCommands :
    ∀ e ∈ [(Op.kekSet, 64), (Op.keyWrite, 80), (Op.keyErase, 8), (Op.keyQuery, 4)],
      Buffered (onRing 0) e.1 (cmd 0 (zeros e.2)) e.2 (zeros e.2) ∧ bufBit (zeros e.2) 4 3 = false
        ∧ ((onRing 0).keySlot 0).retired = none ∧ (onRing 0).cph.reqs = [] := by decide

theorem witness_SealCommands :
    (Buffered (onRing 0) Op.ponKeySet (cmd 0 (zeros 20)) 20 (zeros 20) ∧ leAt (zeros 20) 0 4 < 192)
    ∧ Buffered (onRing 0) Op.sealSet (cmd 65535 (zeros 16)) 16 (zeros 16) ∧ Buffered (onRing 0) Op.sealPhase (cmd 65535 (zeros 4)) 4 (zeros 4)
    ∧ (Buffered (onRing 0) Op.sealEpDel (cmd 0 (zeros 24)) 24 (zeros 24)) := by decide

/-- The set of a seal endpoint is not known, but in an empty store every set has a free way. -/
theorem witness_SealCommands_endpoint :
    Buffered (onRing 0) Op.sealEpSet (cmd 0 (zeros 24)) 24 (zeros 24) ∧ (onRing 0).epFind 0 0 = none
      ∧ (epWays 0 0).find? (fun k => !((onRing 0).ep k).valid) = some (4 * (Config.endpointSet 0 0 % 16384)) :=
  ⟨by decide, rfl, rfl⟩

theorem witness_MacsecCommands :
    Buffered (onRing 0) Op.macsecTxSet (cmd 0 (zeros 32)) 32 (zeros 32)
    ∧ (Buffered (onRing 0) Op.macsecRxSet (cmd 0 (zeros 64)) 64 (zeros 64)
      ∧ ((onRing 0).scFind (zeros 8)).orElse (fun _ => (List.range 1024).find? (fun n => !((onRing 0).msecRxOf n).valid)) = some 0) := by decide

theorem witness_OamCommands :
    Buffered (onRing 0) Op.megSet (cmd 0 (zeros 52)) 52 (zeros 52)
    ∧ (Buffered (onRing 0) Op.mepSet (cmd 0 (zeros 36)) 36 (zeros 36) ∧ ((onRing 0).mep 0).valid = false)
    ∧ (let s : State := { onRing 0 with ctx := { (onRing 0).ctx with meps := [(0, { valid := true })] } };
      Buffered s Op.mepDel (cmd 0 (zeros 4)) 4 (zeros 4) ∧ (s.mep 0).valid = true ∧ (s.mep 0).remotes = [] ∧ (s.mep 0).lof = none
        ∧ (s.mep 0).ais = false) := by decide

/-- A rate, a step and a time at once; a tick 2^24 ahead, one tick further, and one not ahead. -/
theorem witness_TimeCommands :
    (∀ x ∈ ([(0, [], 0), (1, [], 0), (2, [], 0), (0, [0, 0, 0, 1], 0), (2, [0, 0, 0, 1], 0), (2, [1, 0, 0, 1], Status.timeRange),
        (2, List.replicate 8 255, Status.timeLate), (3, [], Status.timeBad)] : List (Byte × List Byte × Nat)),
      let b : List Byte := [x.1] ++ zeros 7 ++ x.2.1 ++ zeros (32 - x.2.1.length); let s := onRing 0; let u := (s.begin 0).time
      Buffered s Op.timeSet (cmd 0 b) 40 b ∧ s.time.pending = [] ∧ u.tick = 0
        ∧ firstBad [(decide (byteAt b 0 ≥ 3), Status.timeBad), (leAt b 8 8 != 0 && u.ahead (leAt b 8 8) == 0, Status.timeLate),
            (leAt b 8 8 != 0 && decide (u.ahead (leAt b 8 8) > 2 ^ 24), Status.timeRange)] = x.2.2)
    ∧ (let b : List Byte := [100, 0, 0, 0];
      Buffered (onRing 0) Op.todQuery (cmd 191 b) 4 b ∧ (((onRing 0).begin 0).time.todFrame 100).isSome = true) := by decide

/-! ## Witnesses: units, resets and power -/

/-- A slice that has waited 100 µs, one that wakes, a cluster that has idled 10 µs and one that wakes. -/
def unitsIdle : State :=
  { live with
    regs := [(regKey Reg.cphCfg 0, 1)],
    slices := [(0, { unit := .running }), (7, { unit := .waking })],
    cph := { live.cph with clusters := [(0, { unit := .running }), (31, { unit := .waking })] } }

theorem witness_SliceAndClusterUnits :
    Fast unitsIdle
    ∧ ((unitsIdle.slice 0).unit = .running ∧ (unitsIdle.slice 0).lastUse + 100 * usU ≤ (unitsIdle.begin (100 * usU)).time.now
      ∧ (unitsIdle.slice 0).ingress = [] ∧ (unitsIdle.slice 0).hostQ = [] ∧ (unitsIdle.slice 0).mgmtQ = [] ∧ (unitsIdle.slice 0).chain = []
      ∧ unitsIdle.sliceCells 0 = false)
    ∧ (unitsIdle.slice 7).unit = .waking
    ∧ (unitsIdle.flg Reg.cphCfg 0 = true ∧ (unitsIdle.cluster 0).unit = .running ∧ (unitsIdle.cluster 0).idle = true
      ∧ (unitsIdle.cluster 0).idleSince + 10 * usU ≤ (unitsIdle.begin (10 * usU)).time.now)
    ∧ (unitsIdle.cluster 31).unit = .waking := by decide

/-- A running unit without work, transmit-disabled; an enabled channel with a terminal whose unit wakes; a granted burst of frame 1. -/
def unitStopping : State := { live with chans := [(191, { unit := .running })] }
def unitIdle : State := { live with regs := [(regKey Reg.pchCtrl 191, 1)], chans := [(191, { unit := .running, idleFrames := 9 })] }
def unitWaking : State :=
  { live with regs := [(regKey Reg.pchCtrl 191, 1)], chans := [(191, { unit := .waking })], terms := [(ctxNo 191 0, { state := .operation })] }
def aBurst : GBurst := { kind := .normal, structs := [], first := 0, term := some 0, start := 0, stop := 100, profile := 0, ploamu := false }
def oneBurst : State :=
  { live with gnt := [(191, { maps := [{ k := 1, bursts := [aBurst] }] })] }

theorem witness_ChannelUnits :
    (Fast unitStopping ∧ (unitStopping.ch 191).unit ≠ .stopped ∧ unitStopping.flg Reg.pchCtrl 0 191 = false ∧ (unitStopping.ch 191).framing = false)
    ∧ (Fast unitIdle ∧ (unitIdle.ch 191).unit = .running ∧ unitIdle.flg Reg.pchCtrl 0 191 = true ∧ unitIdle.chanWork 191 = false
      ∧ 9 ≤ (unitIdle.ch 191).idleFrames)
    ∧ (Fast unitWaking ∧ unitWaking.chanMayRun 191 = true ∧ unitWaking.chanWork 191 = true ∧ (unitWaking.ch 191).unit = .waking
      ∧ (unitWaking.ch 191).txDisable = true)
    ∧ (Fast oneBurst ∧ (oneBurst.mapBurst 191 1 0).any (fun b => !b.settled && b.wakes
        && decide ((oneBurst.begin msU).expectedT0 191 1 b ≤ (oneBurst.begin msU).tu + 512 * nsU + (oneBurst.begin msU).burstP 191 b)) = true) := by decide

/-- The Pannier in a state, with pseudo-channel 127 at a debt. -/
def pannier (st : HbmState) (debt : Nat) (waking : Bool := false) : State :=
  { live with hbm := { live.hbm with state := st, waking := waking, pcs := [(127, { debt := debt })], bands := [(3, 1)] } }

theorem witness_PannierUnits :
    (Fast (pannier .running 0) ∧ (pannier .running 0).hbm.waking = false ∧ (pannier .running 0).flg Reg.hbmCtrl 0 = true
      ∧ (pannier .running 0).hbm.lastUse + msU ≤ ((pannier .running 0).begin msU).time.now
      ∧ ((pannier .running 0).begin msU).thisCycle (pannier .running 0).hbm.wakeAt = false ∧ ∀ sl < 8, (pannier .running 0).waitingCells sl = 0)
    ∧ (pannier .selfRefresh 0 true).hbm.waking = true ∧ (pannier .starting 0).hbm.state = .starting
    ∧ (pannier .starting 0).hbm.fail = false ∧ (pannier .running 7).hbm.state = .running ∧ (((pannier .running 7).begin 0).pcNow 127).catchUp = none ∧ 7 ≤ (((pannier .running 7).begin 0).pcNow 127).debt
    ∧ (((pannier .running 6).begin 0).pcNow 127).debt < 7 ∧ (pannier .running 6).pcBusy 127 = false
    ∧ (let s : State := { pannier .running 6 with sw := { live.sw with queues := [(8 * 256 * 191, { frames := [{ pkt := { rec_ := {}, data := [] }, die := 0, spill := 1 }] })] } };
       s.hbm.state = .running ∧ s.pcBusy 127 = true ∧ ((s.begin 0).pcNow 127).debt < 7 ∧ ((s.begin 0).pcNow 127).catchUp = none)
    ∧ ((pannier .running 0).band 3 = bandOf ((pannier .running 0).band 3) 90 ∧ (pannier .running 0).band 3 ≠ bandOf ((pannier .running 0).band 3) 0)
    ∧ (let s : State := { live with hbm := { live.hbm with pcs := [(127, { throttled := [1] })] } };
       Fast s ∧ (s.pc 127).throttled ≠ [] ∧ (s.pc 127).lastRfm + 64 * trefi (s.band 3) ≤ (s.begin (64 * trefi 0)).time.now) := by decide

def spilled : State :=
  { pannier .running 0 with sw := { live.sw with queues := [(0, { frames := [{ pkt := { rec_ := {}, data := [] }, die := 0, spill := 1 }] })] } }

theorem witness_PannierAccess :
    (Fast spilled ∧ spilled.waitingCells (spilled.queueSlice 0) = 0 ∧ spilled.nextRead 99 = some 0 ∧ spilled.panAccepts = true
      ∧ ((spilled.begin 0).pcNow 99).catchUp = none ∧ spilled.hbm.readAt.get (fun _ => 0) (spilled.queueSlice 0) ≤ (spilled.begin 0).time.now * 1750
      ∧ spilled.actFrom 99 (2 * spilled.queueSlice 0 + 1) ≤ (spilled.begin 0).time.now ∧ spilled.nextRead 3 ≠ some 1)
    ∧ (Reaches (pannier .notStarted 0) .other ∧ (pannier .notStarted 0).hbm.state = .notStarted
      ∧ Reaches (pannier .starting 0) .other ∧ (pannier .starting 0).hbm.state ≠ .notStarted) := by decide

def inCold : State := { live with life := { live.life with por := true } }
def inWarm : State := { live with life := { live.life with warm := .held, rstCount := 65535 } }

theorem witness_ResetRows :
    (live.host.slots = [] ∧ live.life.por = false ∧ live.life.tripped = false ∧ live.life.warm = .none
      ∧ ({ live.life with warmDue := some 0 } : Life).warmDue = some 0)
    ∧ (inWarm.host.slots = [] ∧ inWarm.life.por = false ∧ inWarm.life.tripped = false ∧ inWarm.life.warm = .held)
    ∧ (inCold.host.slots = [] ∧ inCold.life.por = true)
    ∧ (let s := waits Op.fwdFlush; s.life.por = false ∧ s.life.tripped = false ∧ s.life.warm = .none ∧ s.host.slots.length = 1) := by decide

/-- VF 63's ring window is ring 1023 alone. -/
def withVf : State :=
  { live with regs := [(regKey (Reg.hifVfRing 62) 0, 0x000103FF)], host := { live.host with rings := [(1022, { state := .running }), (1023, { state := .running })] } }

theorem witness_HostLink :
    (live.host.slots = [] ∧ live.life.por = false ∧ live.life.warm = .none ∧ live.life.tripped = false)
    ∧ (withVf.host.inReset = false ∧ withVf.host.cxl = false ∧ withVf.vfHolds 1023 63 = true ∧ withVf.vfHolds 1022 63 = false) := by decide

/-- The device before its first firmware, and between READY and the lock. -/
def booting : State := { State.reset with life := { State.reset.life with rstCause := 1 }, host := { State.reset.host with inReset := false } }
def settingUp : State := { booting with life := { booting.life with opened := true }, mgt := { booting.mgt with ready := true } }

theorem witness_Bringup :
    (booting.host.slots = [] ∧ booting.life.por = false ∧ booting.life.warm = .none ∧ booting.life.tripped = false ∧ booting.mgt.ready = false
      ∧ booting.mgt.switching = false ∧ booting.mgt.recovery = false ∧ booting.life.rstCause ≠ 0)
    ∧ (Reaches booting .glb ∧ booting.life.locked = false ∧ booting.mgt.ready = false)
    ∧ (Reaches settingUp .glb ∧ settingUp.life.locked = false ∧ settingUp.mgt.ready = true)
    ∧ (let s := { live with life := { live.life with live := false } };
      Fast s ∧ s.life.locked = true ∧ s.life.live = false ∧ s.hbm.state ≠ .starting) := by decide

theorem witness_Standby :
    (Reaches live .glb ∧ live.life.pwr = .running ∧ live.standbyRefusal = 0)
    ∧ (Reaches settingUp .glb ∧ settingUp.standbyRefusal = 3)
    ∧ (unitWaking.standbyRefusal = 1)
    ∧ (let s := { live with life := { live.life with pwr := .standby } };
      Reaches s .glb ∧ s.life.pwr = .standby ∧ s.flt.inject = none ∧ s.flt.queue = []) := by decide

/-! ## Witnesses: the PON line -/

/-- Channel 191, with a terminal 255 in a state, one map for frame 1 that holds a burst of it, and a phase. -/
def aTerm : Term := { state := .operation, sn := 0x4142434401020304, onuId := 5, binding := some 0, delin := .sync }
def termBurst : GBurst := { aBurst with term := some 255 }
def lineState (p : PonCh) (b : List GBurst) (x : Term := aTerm) : State :=
  { live with
    regs := [(regKey Reg.pchCtrl 191, 1), (regKey (Reg.pchBpCtl 0) 191, 0x00041004), (regKey Reg.pchDef 191, 0),
      (regKey Reg.actTrk 191, 0x00040000), (regKey Reg.actTrk 188, 0x00040000)],
    chans := [(191, p)], gnt := [(191, { maps := [{ k := 1, bursts := b }] })], terms := [(ctxNo 191 255, x)] }

theorem witness_FrameRows :
    (Fast live ∧ live.phyFrame < (live.begin msU).frameNo ∧ ∀ d : Chan, live.frames d.val = false ∧ (live.ch d.val).framing = false)
    ∧ (let s : State := { live with regs := [(regKey Reg.pchCtrl 191, 1)], chans := [(191, { unit := .running, rounds := .ended })] };
      Fast s ∧ s.phyFrame < (s.begin msU).frameNo ∧ s.frames 191 = true
        ∧ (∀ d : Chan, d ≠ 191 → s.frames d.val = false ∧ (s.ch d.val).framing = false) ∧ (s.ch 191).planned = [] ∧ (s.ch 191).pend = []
        ∧ (s.ch 191).deferred = [] ∧ (s.ch 191).parked = [] ∧ (s.ch 191).ploamHost = [] ∧ (s.ch 191).ploamHw = [] ∧ (s.ch 191).rounds = .ended ∧ s.termsOf 191 = [] ∧ s.drl.tune = []
        ∧ s.profileDue 191 (s.begin msU).frameNo = [] ∧ (s.gntCh 191).late = none)
    ∧ ((live.ch 191).upFrame ≤ 2 ∧ (2 + 1) * frameU + teqdU ≤ (live.begin msU).tu ∧ (live.gntCh 191).maps = [] ∧ live.drl.moves = []
      ∧ (live.termsOf 191).all (fun e => e.2.state != .ranging) = true)
    ∧ (let s := lineState { losFrames := 2 } [{ termBurst with settled := true }];
      Fast s ∧ (s.ch 191).upFrame ≤ 1 ∧ (1 + 1) * frameU + teqdU ≤ (s.begin msU).tu
        ∧ (s.gntCh 191).maps = [{ k := 1, bursts := [{ termBurst with settled := true }] }]
        ∧ (1 : Nat) ≤ 1 ∧ ({ termBurst with settled := true } : GBurst).grantedWindow = true ∧ (s.ch 191).frameValid = false ∧ (s.ch 191).losFrames = 2
        ∧ (s.ch 191).chLos = false ∧ s.drl.moves = [] ∧ (s.termsOf 191).all (fun e => e.2.state != .ranging) = true)
    ∧ (let s : State := { live with regs := [(regKey Reg.pchBrst 0, 255)], chans := [(0, { disc := [{ opens := 0, closes := teqdU, grant := 0 }] })] };
      Fast s ∧ (s.begin 0).quietOpen 0 = [(0, teqdU)] ∧ s.fld Reg.pchBrst 7 0 0 ≠ 0 ∧ (s.ch 0).rssi = none)
    ∧ (let a : RssiArmed := { slot := 0, dark := true, onuId := 0, at_ := 0 };
       let s : State := { live with regs := [(regKey Reg.pchBrst 0, 255)],
                                    chans := [(0, { rssi := some a, disc := [{ opens := 0, closes := teqdU, grant := 0 }] })] };
      Fast s ∧ (s.begin 0).quietOpen 0 = [(0, teqdU)] ∧ (s.ch 0).rssi = some a)
    ∧ (let u := live.begin 0;
      (u.setCh 191 { live.ch 191 with disc := (live.ch 191).disc.filter (fun w => decide (u.tu < w.closes)) }).quietOpen 191 = []
        ∧ (live.gntCh 191).maps = []) := by decide

/-- A header that passes, and a burst that says nothing more. -/
def goodHead (onuId : Nat) : BurstHead := { delim := some (0, 0), hecErrs := 0, onuId := onuId, ind := 0, levels := [0, 1, 2, 3] }
def goodBurst : BurstRx := { head := goodHead 5, phase := 0, allocs := [], bipErrs := 0, badCodewords := 0 }

/-- Ring 1 takes what channel 191 receives on the OMCC ports; a buffer is posted. -/
def omccWaits (port : Nat) : State :=
  { lineState {} [] with
    ctx := { live.ctx with xgem := [(191 * 4096, { valid := true, term := 255, portId := port, omcc := true })] },
    regs := [(regKey Reg.pchCtrl 191, 1), (regKey (Reg.hifRingCfg 1) 0, BitVec.ofNat 32 (2 ^ 31 + 6 * 2 ^ 28 + 6 * 2 ^ 11 + 191 * 2 ^ 16))],
    host := { live.host with
      slots := [{ waiting Op.rxBuf with ring := 1, len := 48 + 5 }], nextSlot := 1, rings := [(1, { state := .running, idx := 1, head := 1 })] } }

theorem witness_BurstRows :
    (let s := lineState {} [termBurst];
      Fast s ∧ s.mapBurst 191 1 0 = some termBurst ∧ termBurst.term = some 255 ∧ termBurst.settled = false ∧ termBurst.kind = .normal
        ∧ s.evaluated 191 255 = true ∧ s.fld Reg.pchDef 7 0 191 = 0
        ∧ (s.begin msU).burstT0 191 1 termBurst + (s.begin msU).uiDur 191 ((s.begin msU).slackUi 191 termBurst)
          ≤ (s.begin msU).tu + (s.begin msU).delimDur 191 termBurst
        ∧ (s.begin msU).absToTu 191 ((s.begin msU).absUnit 191 1 0) ≤ (s.begin msU).tu
        ∧ (s.begin msU).burstFault 191 1 termBurst ((s.begin msU).hterm 191 255) (goodHead 6) = some 3)
    ∧ (let s := lineState {} [termBurst];
      s.moveTo 191 255 = none ∧ (s.begin msU).burstFault 191 1 termBurst (s.term 191 255) (goodHead 5) = none ∧ termBurst.structs = []
        ∧ (s.ch 191).chLos = false ∧ (s.term 191 255).losi = false ∧ (s.term 191 255).delin = .sync ∧ (s.term 191 255).lofi = false
        ∧ (s.term 191 255).pending = none ∧ (s.term 191 255).newFrom ≤ 1 ∧ (s.term 191 255).dowi = false
        ∧ s.fld Reg.actTrk 15 0 191 = 0 ∧ bit (goodHead 5).ind 0 = false ∧ (0 : Int).natAbs ≤ s.fld Reg.pchDow 15 0 191)
    ∧ (let s := lineState {} []; Fast s ∧ s.omccOf 191 255 = none)
    ∧ (let s := omccWaits 7;
      WaitsOn s { waiting Op.rxBuf with ring := 1, len := 53 } ∧ s.omccOf 191 255 = some (191 * 4096, { valid := true, term := 255, portId := 7, omcc := true })
        ∧ byteAt (zeros 5) 3 ≠ 0xA7 ∧ 48 + (zeros 5).length ≤ 53 ∧ (waiting Op.rxBuf).resOk = true ∧ (waiting Op.rxBuf).opcode = Op.rxBuf
        ∧ (List.range 1024).find? (fun r => s.ringEn r && s.ringType r == 6 && s.ringBind r == 191 && s.ringRuns r) = some 1) := by decide

theorem head_passes (s : State) (c profile id : Nat) (slack : Nat) : s.headFault c profile slack id (goodHead id) = none := by
  have h : ((0 : Int) ≤ (slack : Int)) = True := by simp
  simp [State.headFault, goodHead, h]

theorem first_binding (s : State) (h : (s.bindingCtx 0).isNone = true) : s.lowBinding = some 0 := by
  unfold State.lowBinding
  rw [List.range_succ_eq_map, List.find?_cons, h]

/-- Serial number ABCD01020304 answers channel 191 in its discovery window; way 0 of the allow-list holds it. -/
def anSn : Nat := 0x4142434401020304
def aWin : DiscWin := { opens := 0, closes := 5000000000, grant := 0 }
def anAllow : AllowEntry := { sn := anSn, valid := true, tree := 47, tag := 0x1234, pinCtx := some 255, pinId := some 1022 }
def discovering : State :=
  { live with
    regs := [(regKey Reg.pchCtrl 191, 1), (regKey Reg.actDisc 191, 0x00000100)],
    chans := [(191, { disc := [aWin] })],
    ctx := { live.ctx with allow := [((allowWays anSn).headD 0, anAllow)] } }
def anSnResp (collided : Bool) : SnResp :=
  { head := goodHead (Config.broadcastOnuId 0), sn := anSn, msg := zeros 48, arrival := 4000000000, collided := collided }

def ranging (step : ActStep) : State := lineState {} [] { aTerm with state := .ranging, step := step }

theorem witness_ActivationRows :
    (Fast discovering ∧ (discovering.ch 191).disc.find? (fun w => decide ((discovering.begin 0).nowAt w.opens ≤ (discovering.begin 0).nowAt 4000000000)
        && decide (w.opens ≤ 4000000000) && decide (4000000000 ≤ w.closes)) = some aWin
      ∧ discovering.headFault 191 0 0x7FFFFFFF (Config.broadcastOnuId (discovering.mode 191)) (anSnResp false).head = none)
    ∧ ((discovering.ch 191).disc = [aWin] ∧ aWin.last = none ∧ aWin.admitted < discovering.fld Reg.actDisc 15 8 191
      ∧ (discovering.ch 191).chLos = false ∧ (discovering.termsOf 191).any (fun e => e.2.state == .disabled && e.2.sn == anSn) = false
      ∧ discovering.movingSn 191 anSn = false ∧ discovering.activeSn anSn = none
      ∧ discovering.allowFind anSn = some ((allowWays anSn).headD 0) ∧ discovering.allowOf ((allowWays anSn).headD 0) = anAllow
      ∧ anAllow.deny = false ∧ anAllow.tree = 191 / 4 ∧ (discovering.recordOf ((allowWays anSn).headD 0)).valid = false
      ∧ discovering.admitIndex 191 anSn anAllow.pinCtx = some 255 ∧ discovering.admitOnu 191 anAllow.pinId none = some 1022
      ∧ discovering.lowBinding = some 0 ∧ (discovering.term 191 255).state = .free)
    ∧ (let s := ranging (.window 0 5000000000 400000000);
      (s.term 191 255).step = .window 0 5000000000 400000000 ∧ (s.term 191 255).state = .ranging ∧ (s.ch 191).chLos = false
        ∧ toDrift (300000000 + teqdU - 400000000) ≤ toDrift teqdU ∧ s.headFault 191 0 0x7FFFFFFF (s.term 191 255).onuId (goodHead 6) = some 3
        ∧ s.headFault 191 0 0x7FFFFFFF (s.term 191 255).onuId (goodHead 5) = none ∧ (s.term 191 255).remembered = false
        ∧ 5000000000 ≤ (s.begin (3 * msU)).tu ∧ (s.term 191 255).retries < s.fld Reg.actLost 23 16 191)
    ∧ ((ranging (.ackDue 1)).term 191 255).step = .ackDue 1 ∧ (discovering.term 191 255).step = .none
    ∧ (let s := lineState {} [] { aTerm with pending := some { eqd := 7, cause := .drift } };
      Fast s ∧ (s.term 191 255).state = .operation ∧ (s.term 191 255).pending = some { eqd := 7, cause := .drift }) := by
  refine ⟨⟨by decide, by decide, ?_⟩, ⟨by decide, by decide, by decide, by decide, by decide, by decide, by decide, by decide, by decide,
    by decide, by decide, by decide, by decide, by decide, ?_, by decide⟩, by decide, by decide, by decide, by decide⟩
  · exact head_passes discovering 191 0 (Config.broadcastOnuId 0) 0x7FFFFFFF
  · exact first_binding discovering (by decide)

def lostTerm : State := lineState {} [] { aTerm with losi := true, losiAt := 0, holdUntil := none }
def settling (mem : Nat) (recs : Tab TermRec) : State :=
  { live with regs := [(regKey Reg.pchCtrl 191, 1), (regKey Reg.actMem 191, BitVec.ofNat 32 mem)],
              chans := [(191, { unit := .running, rounds := .settling 1 })], records := recs, cxm := { live.cxm with link := true },
              ctx := { live.ctx with allow := [((allowWays anSn).headD 0, anAllow)] } }

theorem witness_LossRows :
    (Fast lostTerm ∧ (lostTerm.term 191 255).state = .operation ∧ (lostTerm.term 191 255).losi = true ∧ (lostTerm.term 191 255).detached = false
      ∧ (lostTerm.term 191 255).losiAt + lostTerm.fld Reg.actLost 15 0 191 * msU ≤ (lostTerm.begin (65535 * msU)).time.now)
    ∧ (let s := lineState {} [] { aTerm with state := .lost, holdUntil := some msU };
      (s.term 191 255).holdUntil = some msU ∧ (s.term 191 255).state ≠ .operation ∧ msU ≤ (s.begin msU).time.now)
    ∧ (let s := settling 0x00010101 [];
      Fast s ∧ (s.ch 191).rounds = .settling 1 ∧ 1 + s.fld Reg.actMem 15 8 191 ≤ (s.begin msU).frameNo ∧ 1 ≤ s.fld Reg.actMem 19 16 191
        ∧ s.fld Reg.actMem 7 0 191 ≠ 0 ∧ s.eligibleFrom 191 0 = [] ∧ s.attemptsOpen 191 = false)
    ∧ (let s := settling 0x00010101 [((allowWays anSn).headD 0, { sn := anSn, valid := true, tree := 47, wl := 3 })];
      s.eligibleFrom 191 0 ≠ [])
    ∧ ((lostTerm.begin 0).time.now < (lostTerm.term 191 255).losiAt + lostTerm.fld Reg.actLost 15 0 191 * msU ∧ (lostTerm.term 191 255).holdUntil = none)
    ∧ (let s := settling 0 [];
      Fast s ∧ (s.ch 191).rounds = .settling 1 ∧ 1 + s.fld Reg.actMem 15 8 191 ≤ (s.begin msU).frameNo ∧ s.fld Reg.actMem 19 16 191 = 0)
    ∧ (Fast live ∧ (live.ch 191).rounds = .idle) := by decide

theorem witness_GrantRows :
    (Fast live ∧ (live.gntCh 191).snapped < (live.begin msU).time.snapshotMap ∧ live.builds 191 = false)
    ∧ (let s : State := { live with regs := [(regKey Reg.pchCtrl 191, 1), (regKey Reg.actDisc 191, 0)], chans := [(191, { framing := true })] };
      Fast s ∧ (s.gntCh 191).snapped < (s.begin msU).time.snapshotMap ∧ s.builds 191 = true ∧ s.slasOf 191 = [] ∧ s.termsOf 191 = []
        ∧ s.drl.moves = [] ∧ (s.gntCh 191).coop = [] ∧ (s.gntCh 191).commits = [] ∧ (s.gntCh 191).reserves = []
        ∧ s.flg Reg.actDisc 0 191 = false)
    ∧ (let s (framing : Bool) : State := { live with chans := [(191, { framing := framing })], gnt := [(191, { late := some 3 })] };
      (s true).builds 191 = true ∧ (s false).builds 191 = false ∧ ((s true).gntCh 191).late = some 3
        ∧ 19440 * (3 - 1) + 15552 + 3732 ≤ ((s true).begin msU).time.tick)
    ∧ (live.begin 0).time.snapshotMap ≤ (live.gntCh 191).snapped := by decide

/-- A tuning message of terminal 255 of channel 191, with its CRC. -/
def tuneUpMsg (type mode tt : Nat) : List Byte :=
  let b := toBe 2 9 ++ [BitVec.ofNat 8 type, 0] ++ toBe 8 aTerm.sn ++ [0, 0] ++ toBe 2 5 ++ [BitVec.ofNat 8 mode, 0] ++ toBe 2 tt ++ zeros 24
  b ++ tuneCrcBytes b

def moving (m : Move) : State := { lineState {} [] with drl := { live.drl with moves := [m], bindings := [(0, some (ctxNo 191 255))] } }
def offered : Move := { src := 191, i := 255, tgt := 188, pin := none, txn := 9, step := 2, offers := 3, offerDue := false }
def toArrive : Move := { offered with step := 5, accepted := true, tgt := 188, i' := some 0, tgtEqd := 77, detachedAt := 0 }

theorem witness_MoveRows :
    (Fast (moving offered) ∧ (moving offered).tuneMove 191 255 (zeros 48) = none ∧ (moving offered).tuneMove 191 255 (tuneUpMsg 2 0 400) = some offered
      ∧ byteAt (tuneUpMsg 2 0 400) 2 = 2 ∧ byteAt (tuneUpMsg 2 0 400) 16 = 0)
    ∧ (let s : State := { moving offered with regs := [(regKey Reg.drlCfg 0, 0x00002800)] }; beAt (tuneUpMsg 2 0 400) 18 2 ≤ s.ttMax)
    ∧ ((moving offered).moveFrom 191 255 = some offered ∧ offered.ackBy ≤ ((moving offered).begin 0).time.now ∧ 3 ≤ offered.offers
      ∧ (moving { offered with offers := 2 }).moveFrom 191 255 = some { offered with offers := 2 })
    ∧ ((moving toArrive).tuneMove 188 0 (tuneUpMsg 4 0 0) = some toArrive ∧ byteAt (tuneUpMsg 4 0 0) 2 = 4 ∧ toArrive.i' = some 0
      ∧ (moving toArrive).fld Reg.actTrk 15 0 188 = 0)
    ∧ ((moving toArrive).moveFrom 191 255 = some toArrive ∧ toArrive.srcGone = false ∧ ((moving toArrive).begin (255 * msU)).arrivesNow toArrive = false
      ∧ toArrive.detachedAt + (moving toArrive).fld Reg.drlCfg 31 24 * msU ≤ ((moving toArrive).begin (255 * msU)).time.now)
    ∧ (let s : State := { live with regs := [(regKey Reg.drlSug 0, 0x00010000)] };
      s.fld Reg.drlSug 31 16 ≠ 0 ∧ s.drl.winStart.get (fun _ => 0) 47 + s.fld Reg.drlSug 31 16 * msU ≤ (s.begin msU).time.now) := by decide

/-- An armed measurement of a quiet window of channel 191, and a module access that waits. -/
def armed : State :=
  { waits Op.rssiArm with regs := (onRing 0).regs ++ [(regKey Reg.pchRssi 191, 0x00640000)],
                          chans := [(191, { rssi := some { slot := 0, dark := true, onuId := 0, at_ := 0 }, disc := [{ aWin with opens := 1000 }] })] }
def modWaits (read : Bool) : State :=
  { waits Op.modAccess with host := { (waits Op.modAccess).host with
      slots := [{ waiting Op.modAccess with spec := 191, buf := some ([BitVec.ofNat 8 (if read then 0 else 1), 0, 0, 1] ++ zeros 4) }] } }

theorem witness_OpticsRows :
    (WaitsOn armed (waiting Op.rssiArm) ∧ (armed.ch 191).rssi = some { slot := 0, dark := true, onuId := 0, at_ := 0 }
      ∧ (armed.begin msU).rssiPoint 191 { slot := 0, dark := true, onuId := 0, at_ := 0 } = some 1000)
    ∧ (let a : RssiArmed := { slot := 0, dark := true, onuId := 0, at_ := 0 }; let s : State := { armed with chans := [(191, { rssi := some a })] };
      WaitsOn s (waiting Op.rssiArm) ∧ (s.ch 191).rssi = some a ∧ 0 + 10 * msU ≤ (s.begin (10 * msU)).time.now
        ∧ (s.begin (10 * msU)).rssiMeet 191 a = none)
    ∧ (let x : Slot := { waiting Op.modAccess with spec := 191, buf := some ([1, 0, 0, 1] ++ zeros 4) };
      WaitsOn (modWaits false) x ∧ x.opcode = Op.modAccess ∧ x.spec = 191 ∧ ((modWaits false).begin 0).time.now < ((modWaits false).ch 191).modAt + 2 * msU
        ∧ ((modWaits false).ch 191).modAt + 2 * msU < ((modWaits false).begin (2 * msU + 1)).time.now ∧ byteAt (x.buf.getD []) 0 = 1)
    ∧ (let x : Slot := { waiting Op.modAccess with spec := 191, buf := some ([0, 0, 0, 1] ++ zeros 4) };
      WaitsOn (modWaits true) x ∧ byteAt (x.buf.getD []) 0 ≠ 1 ∧ [(0x5A : Byte)].length = byteAt (x.buf.getD []) 3 ∧ x.resOk = true) := by decide

/-! ## Witnesses: slices, the forwarding table, the switch core and the traffic manager -/

/-- Port 63 of slice 7 has one lane, is enabled and up; slice 7 runs. -/
def uplinkUp : State :=
  { live with
    regs := [(regKey Reg.uplGcfg 0, 3), (regKey Reg.uplCtrl 63, 1)],
    upl := [(63, { up := true, deskewed := true, held := true, lanes := [{ state := .running, lock := true }] })],
    slices := [(7, { unit := .running })] }

def anIpFrame (n : Nat) : List Byte := zeros 12 ++ [0x08, 0x00] ++ zeros (n - 14)
def aPkt : Pkt := { rec_ := { inPort := 255, len := 60 }, data := anIpFrame 60 }

theorem zeros_length (n : Nat) : (zeros n).length = n := List.length_replicate
theorem ipFrame_length (n : Nat) (h : 14 ≤ n) : (anIpFrame n).length = n := by
  simp only [anIpFrame, List.length_append, zeros_length, List.length_cons, List.length_nil]; omega

/-- Slice 7 in a state: a frame of port 63 waits, or one of the host's, and one in the Chainring where a slot of it is left. -/
def slotted (unit : Unit_) (host : Bool) (used : Nat := 0) (wait : Bool := true) : State :=
  { uplinkUp with
    regs := uplinkUp.regs ++ [(regKey Reg.clsCfg 7, 0x00000100)],
    slices := [(7, { unit := unit, slotsUsed := used, ingress := if wait then [(255, aPkt)] else [], chain := [aPkt], hostQ := if host then [([], aPkt, none)] else [] })] }

theorem witness_IngressRows :
    (Fast uplinkUp ∧ (live.port 63).up = false ∧ (uplinkUp.port 63).up = true
      ∧ ([(0, 0, 1)] : List (Nat × Nat × Nat)).any (fun l => decide (l.2.2 ≠ 0)) = true
      ∧ ([(0, 9, 0)] : List (Nat × Nat × Nat)).any (fun l => decide (l.2.2 ≠ 0)) = false)
    ∧ ((zeros 59).length + 4 < 64 ∧ 16383 < (zeros 16380).length + 4)
    ∧ (60 ≤ (zeros 12 ++ [0x88, 0x08] ++ zeros 46 : List Byte).length ∧ beAt (zeros 12 ++ [0x88, 0x08] ++ zeros 46) 12 2 = 0x8808)
    ∧ (60 ≤ (anIpFrame 60).length ∧ (anIpFrame 16379).length ≤ 16379 ∧ beAt (anIpFrame 60) 12 2 ≠ 0x8808
      ∧ (uplinkUp.slice (uplinkUp.portSlice 63)).unit = .running
      ∧ uplinkUp.ingressCells (uplinkUp.portSlice 63) + (uplinkUp.slice (uplinkUp.portSlice 63)).waitCells false + cdiv 16379 256 ≤ 61440)
    ∧ (let s : State := { uplinkUp with slices := [(7, { ingress := [(255, { aPkt with rec_ := { aPkt.rec_ with held := true } })] })] };
      (s.slice 7).unit ≠ .running ∧ (s.slice 7).waitCells true + cdiv 60 256 ≤ 4096 ∧ s.portSlice 63 = 7)
    ∧ (let v := ((slotted .stopped true).begin 0).slotWindow 7; (v.slice 7).unit ≠ .running ∧ (v.slice 7).hostQ ≠ [])
    ∧ (let v := ((slotted .running true 4).begin 0).slotWindow 7; (v.slice 7).unit = .running ∧ (v.slice 7).slotFree = false)
    ∧ (let v := ((slotted .running true).begin 0).slotWindow 7;
      (v.slice 7).unit = .running ∧ (v.slice 7).slotFree = true ∧ (v.slice 7).hostQ ≠ []
        ∧ (v.slice 7).hostTook < min 64 ((slotted .running true).fld Reg.clsCfg 15 8 7))
    ∧ (let v := ((slotted .running false 0 false).begin 0).slotWindow 7; (v.slice 7).hostQ = [] ∧ (v.slice 7).mgmtQ = [] ∧ (v.slice 7).nextPort = none)
    ∧ (let v := ((slotted .running false).begin 0).slotWindow 7;
      (v.slice 7).hostQ = [] ∧ (v.slice 7).mgmtQ = [] ∧ (v.slice 7).slotFree = true ∧ (v.slice 7).nextPort = some 255
        ∧ takeOf 255 (v.slice 7).ingress = some (aPkt, []) ∧ (v.slice 7).chain = [aPkt] ∧ (v.slice 7).chainServed = false ∧ (v.slice 7).slotsUsed < 4) := by
  refine ⟨by decide, ⟨by decide, ?_⟩, by decide, ⟨by decide, ?_, by decide, by decide, by decide⟩, by decide, by decide, by decide, by decide,
    by decide, by decide, by decide⟩
  · have h := zeros_length 16380; omega
  · have h := ipFrame_length 16379 (by decide); omega

/-- The wake reserve of slice 7 is full: 64 frames of 64 cells wait while its clock stands. -/
def reserveFull : Slice := { ingress := List.replicate 64 (255, { rec_ := { held := true }, data := zeros 16384 }) }

theorem witness_IngressRows_full : reserveFull.unit ≠ .running ∧ ¬(reserveFull.waitCells true + cdiv 60 256 ≤ 4096) := by
  refine ⟨by decide, ?_⟩
  simp [reserveFull, Slice.waitCells, frameCells, zeros_length, cdiv]

/-- The forwarding table has 65,536 rows a bank, compare is on and device memory answers; the learn queue of slice 7 holds a request. -/
def aLearn : LearnReq := { mac := 0x020304050607, fid := 0xFFF, dtype := 1, dest := 9, svc := 3 }
def learning (rows : Tab FwdEntry) (queued : Bool := true) : State :=
  { live with
    regs := [(regKey Reg.fwdCfg 0, 0x00000101), (regKey Reg.fwdAge 0, 1)],
    cxm := { live.cxm with link := true, staleFwd := false, staleCtx := false },
    fwd := { live.fwd with rows := rows, queues := if queued then [(7, [aLearn])] else [] } }
def learnt : FwdEntry := { mac := 0x020304050607, fid := 0xFFF, valid := true, learned := true, dtype := 1, dest := 8 }
def learnLoc : Nat := (learning []).fwdLoc 0xFFF 0x020304050607 0

def walked (more : Option Nat) : State :=
  { waits Op.fwdFlush with fwd := { live.fwd with flushes := [{ slot := 0, sel := ⟨0, false, 0, 0, 0, 0⟩, removed := 3, count := 8, more := more }] } }

theorem witness_TableRows :
    (let s := learning [(learnLoc, learnt)];
      Fast s ∧ ((List.range 8).map (fun i => (s.fwd.lastQueue + 1 + i) % 8)).find? (fun q => !(s.fwd.queues.get (fun _ => []) q).isEmpty) = some 7
        ∧ s.fwd.queues.get (fun _ => []) 7 = [aLearn] ∧ s.learnExcess (s.service 3) (1, 9) = false ∧ s.fwdFind 0xFFF 0x020304050607 = some learnLoc
        ∧ (s.fwdRow learnLoc).static_ = false ∧ (s.fwdRow learnLoc).dest ≠ 9)
    ∧ (let s := learning [];
      s.fwdRows ≠ 0 ∧ s.fwdFind 0xFFF 0x020304050607 = none
        ∧ ((List.range 4).map (fun i => s.fwdLoc 0xFFF 0x020304050607 ((s.fwd.counter % 4 + i) % 4))).find? (fun l => !(s.fwdRow l).valid) = some learnLoc)
    ∧ (let s := learning [] false;
      Fast s ∧ ((List.range 8).map (fun i => (s.fwd.lastQueue + 1 + i) % 8)).find? (fun q => !(s.fwd.queues.get (fun _ => []) q).isEmpty) = none
        ∧ s.fld Reg.fwdAge 15 0 ≠ 0 ∧ s.fwd.agedAt + s.fld Reg.fwdAge 15 0 * secU ≤ (s.begin secU).time.now ∧ s.flg Reg.fwdCfg 8 = true
        ∧ s.cxm.link = true ∧ s.cxm.staleFwd = false ∧ s.cxm.staleCtx = false ∧ (s.begin (64 * msU - 1)).time.now < s.fwd.comparedAt + 64 * msU
        ∧ s.fwd.comparedAt + 64 * msU ≤ (s.begin (64 * msU)).time.now ∧ (s.begin (64 * msU)).thisCycle s.fwd.wroteAt = false
        ∧ (∀ f ∈ [[FwdFault.differs 3], [.uncorrectable 3], [.shadowLost 3], [.uncorrectable 3, .shadowLost 3]], (s.begin (64 * msU)).fwdDiffer f = [])
        ∧ (s.begin (64 * msU - 1)).time.now < s.cxm.ctxComparedAt + 64 * msU ∧ s.cxm.ctxComparedAt + 64 * msU ≤ (s.begin (64 * msU)).time.now)
    ∧ (let s := learning [(learnLoc, learnt)] false;
      s.cxm.staleFwd = false ∧ s.fwd.comparedAt + 64 * msU ≤ (s.begin (64 * msU)).time.now ∧ (s.begin (64 * msU)).thisCycle s.fwd.wroteAt = false
        ∧ learnLoc ∈ (s.begin (64 * msU)).fwdDiffer [])
    ∧ (let s : State := { live with regs := [(regKey Reg.fwdAge 0, 0), (regKey Reg.fwdCfg 0, 0)] };
      Fast s ∧ s.fld Reg.fwdAge 15 0 = 0 ∧ s.flg Reg.fwdCfg 8 = false)
    ∧ (let s := { learning [] with cxm := { live.cxm with link := true, staleFwd := true, staleCtx := true } }; s.cxm.staleFwd = true ∧ s.cxm.staleCtx = true ∧ s.flg Reg.fwdCfg 8 = true ∧ s.cxm.link = true)
    ∧ (WaitsOn (walked none) (waiting Op.fwdFlush) ∧ (waiting Op.fwdFlush).resOk = true
      ∧ ((walked none).fwd.flushes.find? (fun w => w.slot == (waiting Op.fwdFlush).id)).map (·.more) = some none
      ∧ ((walked (some 5)).fwd.flushes.find? (fun w => w.slot == (waiting Op.fwdFlush).id)).map (·.more) = some (some 5)) := by decide

/-- One frame of slice 7 for slice 0 in class 7; one cell of it on its way; and a copy in the residue store of slice 7. -/
def aVFrame : VFrame := { id := 0, pkt := { rec_ := {}, data := zeros 300 }, dk := 1, dest := 0, epoch := 0, from_ := 7 }
def aCell (seq : Nat) : SwCell := { voq := voqKey 7 0 7 false, seq := seq, pieces := [{ frame := aVFrame, off := 0, len := 240 }] }
def aCopy : Residue := { queue := 0xC0000 + 8 * 191, port := 191, pkt := { rec_ := {}, data := zeros 60 }, portId := some 5, since := 0, epoch := 0 }
def switching (cells : List SwCell) (rs : Reseq) (copy : Residue := aCopy) : State :=
  { live with
    slices := [(0, { unit := .running }), (7, { unit := .running })],
    sw := { live.sw with voqs := [(voqKey 7 0 7 false, { frames := [aVFrame] })], cells := cells, reseq := [(voqKey 7 0 7 false, rs)],
                         residue := [(7, [copy])] } }

theorem witness_HubRows :
    (let s := switching [] {};
      Fast s ∧ ((List.range 8).foldl State.withholdUpdate (s.begin 0)).hubRequests = [(7, 0, 7)])
    ∧ (let s := switching [aCell 0] {};
      s.sw.cells.find? (fun x => x.voq == voqKey 7 0 7 false && x.seq == 0) = some (aCell 0) ∧ (s.slice (voqKey 7 0 7 false / 16 % 8)).unit = .running
        ∧ (s.reseq (voqKey 7 0 7 false)).held = [] ∧ (s.reseq (voqKey 7 0 7 false)).lost = [] ∧ (s.reseq (voqKey 7 0 7 false)).next = 0
        ∧ (240 : Nat) ≠ aVFrame.bytes)
    ∧ (let s := switching [aCell 1] {};
      s.sw.cells.find? (fun x => x.voq == voqKey 7 0 7 false && x.seq == 1) = some (aCell 1) ∧ (s.reseq (voqKey 7 0 7 false)).next ≠ 1
        ∧ (s.reseq (voqKey 7 0 7 false)).behind 1 = false)
    ∧ (let s := switching [aCell 1] { next := 2 };
      s.sw.cells.find? (fun x => x.voq == voqKey 7 0 7 false && x.seq == 1) = some (aCell 1) ∧ (s.reseq (voqKey 7 0 7 false)).behind 1 = true)
    ∧ (let s := switching [] { held := [(aCell 2, 0)] };
      (s.reseq (voqKey 7 0 7 false)).held.any (fun c => decide (c.2 + 64 * cycleU ≤ (s.begin (64 * cycleU)).time.now)) = true
        ∧ (s.reseq (voqKey 7 0 7 false)).held.any (fun c => decide (c.2 + 64 * cycleU ≤ (s.begin (63 * cycleU)).time.now)) = false
        ∧ (s.reseq (voqKey 7 0 7 false)).held.all (fun c => c.1.seq != ((s.reseq (voqKey 7 0 7 false)).next + 1) % 2 ^ 24) = true
        ∧ (s.reseq (voqKey 7 0 7 false)).lost.contains (((s.reseq (voqKey 7 0 7 false)).next + 1) % 2 ^ 24) = false)
    ∧ (let s := switching [] {};
      (s.voq (voqKey 7 0 7 false)).frames = [aVFrame] ∧ aVFrame.headAt + 100 * msU ≤ (s.begin (100 * msU)).time.now)
    ∧ (let s := switching [] {};
      (s.residueOf 7).find? (fun x => x.queue == 0xC0000 + 8 * 191) = some aCopy ∧ s.queueReady (0xC0000 + 8 * 191) = true
        ∧ aCopy.epoch = (s.swPort 191).epoch ∧ ({ aCopy with epoch := 1 } : Residue).epoch ≠ (s.swPort 191).epoch) := by decide

/-- A frame waits in class 7 of the broadcast queue of channel 191, which frames, and in queue 31 of port 63. -/
def aQFrame : QFrame := { pkt := { rec_ := {}, data := anIpFrame 60 }, die := 1, spill := 0, enq := 0 }
def queued : State :=
  { uplinkUp with
    chans := [(191, { framing := true, space := 10000 })],
    sw := { live.sw with queues := [(0x80000 + 32 * 63 + 31, { frames := [aQFrame] }), (0xC0000 + 8 * 191 + 7, { frames := [aQFrame] })],
                         ports := [(191, { flush := some (0, false) }), (192 + 62, { flush := some (0, false) })] } }
def aGcl : Gcl := { base := 0, cycle := 1000, entries := [(0xFF, 1000)] }
def gated (pending : Option (Gcl × Nat)) (list : Gcl) : State :=
  { live with regs := [(regKey Reg.tmCfg 0, 1), (regKey Reg.tmCfg 7, 1)], tm := { live.tm with gates := [(64 + 191, { pending := pending })] },
              ctx := { live.ctx with gcls := [(64 + 191, list)] } }

theorem witness_PickRows :
    (Fast queued ∧ (queued.swPort 191).flush ≠ none ∧ (queued.swPort (192 + 62)).flush ≠ none)
    ∧ (let s : State := { uplinkUp with upl := [(63, { held := true })], sw := { live.sw with ports := [(192 + 63, { downAt := some 0 })] } };
      (s.begin (20 * usU)).mayRise 63 = true ∧ (s.port 63).held = true ∧ (s.port 63).up = false)
    ∧ (let u := queued.begin 0; let o := if queued.tm.old.cycle = u.cycle then u.swapOld else u;
       let v := (o.backlog 191).foldl (fun (s : State) q => State.dropOversize q (s.queue q).frames.length s) o;
      ((queued.ch 191).framing && decide (8 ≤ (queued.ch 191).space) && (queued.ch 191).pend.isEmpty
        && (queued.slice (191 / 24)).unit == .running && o.shaperOk (shaperKey 4 191)) = true
      ∧ (v.pickNode 191).map (fun r => (r.1, (r.2.nodePick 191 r.1).map (·.1))) = some (shaperKey 3 191, some (0xC0000 + 8 * 191 + 7))
      ∧ o.portSends 63 = true ∧ ((o.portSettle 63).portPick 63).map (·.1) = some (0x80000 + 32 * 63 + 31)
      ∧ (queued.ch 0).framing = false ∧ o.portSends 0 = false)
    ∧ (((gated none aGcl).begin 0).runningList (64 + 191) = some aGcl)
    ∧ (((gated (some (aGcl, 0)) {}).gatesOf (64 + 191)).pending = some (aGcl, 0)
      ∧ ((gated (some (aGcl, 0)) {}).begin msU).gclChangeAt (64 + 191) aGcl 0 ≤ ((gated (some (aGcl, 0)) {}).begin msU).time.presentNow) := by decide

/-! ## Witnesses: the uplinks -/

/-- Port 63 as a state of the port and of its lane. -/
def portState (x : UplPort) (en : Bool := true) (cfg : Nat := 0x01010080) (mon : Nat := 0x01FC0010) (lock : Nat := 0x01110101) : State :=
  { uplinkUp with
    regs := [(regKey Reg.uplGcfg 0, 3), (regKey Reg.uplCtrl 63, if en then 1 else 0), (regKey Reg.uplCfg 63, BitVec.ofNat 32 cfg),
      (regKey Reg.uplMon 63, BitVec.ofNat 32 mon), (regKey Reg.uplLock 63, BitVec.ofNat 32 lock)],
    upl := [(63, x)] }
def aLane (st : LaneState) : Lane := { state := st }

theorem witness_PortRows :
    (let s := portState {} false;
      Reaches s .other ∧ s.portEn 63 = false ∧ s.uplRefusal 63 = 0)
    ∧ (let s := portState {} false 3; s.portEn 63 = false ∧ s.uplRefusal 63 ≠ 0)
    ∧ (Reaches uplinkUp .other ∧ uplinkUp.portEn 63 = true ∧ (uplinkUp.port 63).up = true)
    ∧ (let s := portState { leaving := some 0 }; Fast s ∧ s.portEn 63 = true ∧ (s.port 63).leaving ≠ none)
    ∧ (let s := portState { holdSince := some 0 };
      (s.port 63).holdSince = some 0 ∧ 0 + s.fld Reg.uplCfg 23 16 63 * 100 * usU ≤ (s.begin (100 * usU)).time.now ∧ (s.port 63).up = false
        ∧ (s.begin (100 * usU)).mayRise 63 = true)
    ∧ (let s := portState { holdSince := some 0 }; (s.begin (99 * usU)).time.now < 0 + s.fld Reg.uplCfg 23 16 63 * 100 * usU)
    ∧ (let s := portState { downSince := 0 };
      s.portEn 63 = true ∧ (s.port 63).up = false ∧ s.fld Reg.uplCfg 31 24 63 ≠ 0
        ∧ (s.port 63).downSince + s.fld Reg.uplCfg 31 24 63 * 10 * msU ≤ (s.begin (10 * msU)).time.now) := by decide

theorem witness_LaneRows :
    (let s := portState { lanes := [aLane .adapting] };
      Fast s ∧ s.laneRuns 63 0 = true ∧ (s.lane 63 0).state = .adapting ∧ (s.lane 63 0).los = false)
    ∧ (let s := portState { lanes := [aLane .running] };
      s.laneRuns 63 0 = true ∧ (s.lane 63 0).state ≠ .adapting ∧ s.lockAt 63 ≤ 64 ∧ 0 < s.lockAt 63 ∧ ∀ i, i < s.lanesPerPort → i ≠ 0 → (s.lane 63 i).lock = true)
    ∧ (uplinkUp.laneRuns 63 0 = true ∧ (uplinkUp.lane 63 0).lock = true ∧ (uplinkUp.lane 63 0).state ≠ .freewheel ∧ uplinkUp.lossAt 63 ≤ 64
      ∧ (portState {}).lossAt 63 ≤ 64 ∧ 0 < (portState {}).lossAt 63 ∧ (uplinkUp.port 63).up = true ∧ uplinkUp.portEn 63 = true
      ∧ (uplinkUp.port 63).deskewed = true ∧ (uplinkUp.lanesOf 63).all (·.lock) = true)
    ∧ (let s : State := { uplinkUp with regs := [(regKey Reg.uplGcfg 0, 0), (regKey Reg.uplCtrl 0, 1)],
                                        upl := [(0, { lanes := (List.replicate 7 { state := .running, lock := true }) ++ [aLane .running] })] };
      s.laneRuns 0 7 = true ∧ (s.lane 0 7).state ≠ .adapting ∧ s.lanesPerPort = 8 ∧ ∀ i, i < s.lanesPerPort → i ≠ 7 → (s.lane 0 i).lock = true) := by decide

theorem witness_MonitorRows :
    (let s := portState { lanes := [aLane .running], up := true };
      Fast s ∧ s.laneRuns 63 0 = true ∧ (s.lane 63 0).los = false ∧ 0 < s.fld Reg.uplMon 11 4 63 ∧ (s.lane 63 0).state = .running ∧ (s.lane 63 0).state ≠ .freewheel
        ∧ s.flg Reg.uplCfg 7 63 = true ∧ s.fld Reg.uplLock 31 24 63 ≠ 0 ∧ (s.lane 63 0).lol = false ∧ s.fld Reg.uplMon 31 24 63 ≠ 0
        ∧ s.monSrc 63 ≠ 1 ∧ (s.port 63).txFw = none ∧ (s.begin (100 * usU)).portEligible 63 = false
        ∧ (s.port 63).lastEligible + s.fld Reg.uplCfg 15 8 63 * usU ≤ (s.begin (100 * usU)).time.now)
    ∧ (let s := portState { lanes := [{ aLane .running with los := true, lol := true, low := 1 }], up := true } true 0x01010080 0x01FC0012;
      s.laneRuns 63 0 = true ∧ (s.lane 63 0).los = true ∧ (s.lane 63 0).lol = true ∧ s.fld Reg.uplMon 11 4 63 < 2 ∧ s.fld Reg.uplMon 31 24 63 ≠ 0 ∧ (s.lane 63 0).state = .running ∧ 62 < s.fld Reg.uplMon 23 18 63 ∧ 1 ≤ (s.lane 63 0).low
        ∧ (s.lane 63 0).fail = false ∧ s.monSrc 63 ≠ 0)
    ∧ (let s := portState { lanes := [aLane .freewheel], up := true, rxFw := some 0, rxFwLanes := [0] };
      0 < s.lanesPerPort ∧ (s.lane 63 0).state = .freewheel ∧ (s.begin 0).fwMaxOver 63 = false ∧ (s.begin msU).fwMaxOver 63 = true)
    ∧ (let s := { queued with upl := [(63, { up := true, txFw := some 0, lanes := [{ state := .running, lock := true }] })] };
      (s.port 63).txFw = some 0 ∧ (s.begin 0).portEligible 63 = true) := by decide

/-! ## Witnesses: the cipher subsystem, OAM, device memory and time -/

def aReq (user : ReqUser) (phase : ReqPhase) : CphReq := { id := 4, user := user, slice := 7, queuedAt := 0, phase := phase, endsAt := some 0, len := 48 }
def ciphering (r : CphReq) (unit : Unit_) (busy : Bool := false) : State :=
  { live with
    regs := [(regKey Reg.cphCclCtrl 31, 1)] ++ (List.range 31).map (fun n => (regKey Reg.cphCclCtrl n, 0)),
    cph := { live.cph with
      reqs := [r], clusters := [(31, { unit := unit, lane0 := if busy then [4] else [] })],
      keys := [(131071, { cur := { gen := 65535 }, retired := some { gen := 65534 } })] },
    ctx := { live.ctx with endpoints := [(16383, { oldUntil := some usU })] } }

theorem witness_CipherRows :
    (Fast live ∧ live.cph.reqs = [] ∧ live.cph.waiting = [])
    ∧ (let r := aReq (.mic 191) .queued; let s := ciphering r .running;
      Fast s ∧ s.cph.waiting = [] ∧ ((List.range 8).map (fun i => (s.cph.rot + 1 + i) % 8)).findSome? (fun sl => (s.queuedReqs sl false).head?) = some r
        ∧ (List.range 32).find? (fun n => s.clusterUsable n && (s.cluster n).unit == .running && (s.cluster n).room) = some 31
        ∧ s.reqOf 4 = some r ∧ r.phase ≠ .complete
        ∧ r.queuedAt + 100 * usU ≤ (s.begin (100 * usU)).time.now)
    ∧ (let s := ciphering (aReq (.mic 191) .queued) .stopped;
      (List.range 32).find? (fun n => s.clusterUsable n && (s.cluster n).unit == .running && (s.cluster n).room) = none
        ∧ (List.range 32).any (fun n => (s.cluster n).unit == .waking) = false
        ∧ (List.range 32).find? (fun n => s.clusterUsable n && (s.cluster n).unit == .stopped) = some 31
        ∧ (s.begin 0).thisCycle (s.cluster 31).stoppedAt = false)
    ∧ (let s0 := ciphering (aReq (.mic 191) .queued) .stopped;
       let s := { s0 with cph := { s0.cph with clusters := [(31, { unit := .stopped, stoppedAt := some 0 })] } };
      (List.range 32).find? (fun n => s.clusterUsable n && (s.cluster n).unit == .running && (s.cluster n).room) = none
        ∧ (List.range 32).any (fun n => (s.cluster n).unit == .waking) = false
        ∧ (List.range 32).find? (fun n => s.clusterUsable n && (s.cluster n).unit == .stopped) = some 31
        ∧ (s.begin 0).thisCycle (s.cluster 31).stoppedAt = true)
    ∧ (let r := aReq (.mic 191) (.placed 31 0); let s := ciphering r .running true;
      s.reqOf 4 = some r ∧ r.endsAt = some 0 ∧ 0 ≤ (s.begin 0).time.now ∧ s.reqRuns r = true)
    ∧ (let r := aReq (.upKs 191 1 0 1) (.placed 31 0); let s := ciphering r .running true;
      s.reqOf 4 = some r ∧ r.endsAt = some 0 ∧ s.reqRuns r = true ∧ (s.keySlot 131071).retired = some { gen := 65534 }
        ∧ s.cph.reqs.any (fun r => r.boundTo 131071 (some 65534)) = false ∧ (s.ep 16383).oldUntil = some usU ∧ usU ≤ (s.begin usU).time.now
        ∧ (s.begin 0).time.now < usU)
    ∧ (let r := aReq (.upKs 191 1 0 1) .complete; let s := ciphering r .running; s.reqOf 4 = some r ∧ r.phase = .complete)
    ∧ (let r := { aReq (.upKs 191 1 0 1) .queued with rx := some (131071, 65534) }; let s := ciphering r .running;
      (s.keySlot 131071).retired = some { gen := 65534 } ∧ s.cph.reqs.any (fun r => r.boundTo 131071 (some 65534)) = true)
    ∧ (let s0 := waits Op.keyErase; let x : Slot := { waiting Op.keyErase with buf := some (toLe 4 131071 ++ zeros 4) };
       let s := { s0 with host := { s0.host with slots := [x] }, cph := { s0.cph with keys := [(131071, { retired := some { gen := 65534 } })] } };
      WaitsOn s x ∧ x.opcode = Op.keyErase ∧ leAt (x.buf.getD []) 0 4 = 131071 ∧ (s.keySlot 131071).retired = some { gen := 65534 }
        ∧ s.cph.reqs.any (fun r => r.boundTo 131071 (some 65534)) = false) := by decide

/-- Endpoint 16383 faces the terminal side, with a remote last heard at 0; its binding has been unavailable, and its port down. -/
def aMep : Mep :=
  { valid := true, face := true, level := 7, aisEn := true, aisLevel := 7, period := 1, meg := 1023, netEn := true, termEn := true, netPort := 63,
    remotes := [{ mepid := 9 }] }
def withMep (m : Mep) : State :=
  { live with regs := [(regKey Reg.oamCfg 0, 1)], ctx := { live.ctx with meps := [(16383, m)] },
              sw := { live.sw with ports := [(192 + 63, { downAt := some 0 })] } }

/-- With an endpoint 16382 of the same group, to which the first one is a remote. -/
def twoMeps : State :=
  let s := withMep aMep
  { s with ctx := { s.ctx with meps := [(16382, { aMep with mepid := 9, remotes := [{ mepid := 0 }] }), (16383, aMep)] } }

theorem witness_OamRows :
    (let s := withMep aMep; let m := s.mep 16383;
      Fast s ∧ s.oamOn = true ∧ m.valid = true ∧ m.ccmAt = none
        ∧ (∀ e ∈ s.ctx.meps, e.1 ≠ 16383 → e.2.valid = true → e.2.meg ≠ m.meg)
        ∧ (s.begin 0).time.now < m.checkAt + ccmPeriod m.period / 8 ∧ m.checkAt + ccmPeriod m.period / 8 ≤ (s.begin msU).time.now
        ∧ m.aisEn = true ∧ s.aisStarts m true ≠ [] ∧ m.aisTermLast = none ∧ s.aisStarts m false = [] ∧ m.termEn = true)
    ∧ (let s := twoMeps; let m := s.mep 16383; let p := s.mep 16382;
      Fast s ∧ s.oamOn = true ∧ m.valid = true ∧ m.ccmAt = none ∧ p.valid = true ∧ p.meg = m.meg ∧ p.level = m.level ∧ p.period = m.period
        ∧ p.remotes.find? (fun r => r.mepid == m.mepid) = some { mepid := 0 })
    ∧ (let m : Mep := { aMep with ccmAt := some 0, termEn := false }; let s := withMep m;
      0 + ccmPeriod m.period ≤ (s.begin (ccmPeriod 1)).time.now ∧ (s.begin 0).time.now < 0 + ccmPeriod m.period ∧ (s.mep 16383).termEn = false
        ∧ s.aisStarts m true ≠ [] ∧ s.aisStarts m false = [])
    ∧ (let m : Mep := { aMep with remotes := [{ mepid := 9, loc := true, locAt := 5 }] }; let s := withMep m;
      ∀ side, s.aisStarts m side ≠ [] ∧ m.aisTermLast = none ∧ m.aisNetLast = none)
    ∧ (let m : Mep := { aMep with aisEn := false }; (withMep m).mep 16383 = m ∧ m.aisEn = false)
    ∧ (let m : Mep := { aMep with face := false, remotes := [{ mepid := 9, loc := true, locAt := 5 }], aisTermLast := some 0 }; let s := withMep m;
      s.aisStarts m true = [0, 5] ∧ (s.begin 0).time.now < 0 + aisPeriod m.aisPer ∧ s.aisStarts m false = []) := by decide

def devMem (link : Bool) : State :=
  { live with regs := [(regKey Reg.cxmCtrl 0, 1), (regKey Reg.cxmTrace 0, 0)], cxm := { live.cxm with link := link, cap := if link then 16 else 0 } }

theorem witness_DeviceMemoryRows :
    (Awake (devMem false) ∧ (devMem false).flg Reg.cxmCtrl 0 = true ∧ (devMem false).cxm.link = false
      ∧ expanderErr false true 16 ≠ 0 ∧ expanderErr true false 16 ≠ 0 ∧ expanderErr true true 15 ≠ 0 ∧ expanderErr true true 16 = 0)
    ∧ (Awake (devMem true) ∧ (devMem true).cxm.link = true ∧ (devMem true).life.opened = true ∧ (devMem true).life.pwr = .running
      ∧ (devMem true).host.inReset = false ∧ (devMem true).hostRegion ≤ 2 ^ 32
      ∧ (devMem false).life.opened = true ∧ State.reset.life.opened = false
      ∧ (devMem true).cxm.cap * 2 ^ 30 < 2 ^ 34 + [(0x5A : Byte)].length
      ∧ 2 ^ 34 - 1 + [(0x5A : Byte)].length ≤ (devMem true).cxm.cap * 2 ^ 30 ∧ 2 ^ 32 - 1 < (devMem true).hostRegion) := by decide

/-- A TIME_SET that is due, and the registers of the pulses and of recovered-clock output 1. -/
def aSet (op : Nat) : TimeSet := { slot := 0, at_ := 100, op := op, sec := 7, ns := 999999999, sub := 65535, delta := 0, adj := -5 }
def timed (op : Nat) : State := { waits Op.timeSet with time := { live.time with pending := [aSet op], tick := 100 } }
def pulses (pps : Nat) : State :=
  { live with regs := [(regKey Reg.timPps 0, BitVec.ofNat 32 pps), (regKey (Reg.timRclk 1) 0, 0x01000040)],
              time := { live.time with rclk1 := { clean := some 0 } } }

theorem witness_TimeRows :
    (WaitsOn (timed 2) (waiting Op.timeSet) ∧ (timed 2).time.pending = [aSet 2] ∧ (aSet 2).slot = (waiting Op.timeSet).id
      ∧ ((timed 2).begin 0).time.ahead (aSet 2).at_ = 0 ∧ WaitsOn (timed 0) (waiting Op.timeSet)
      ∧ (let s (d : Int) : State := { timed 1 with time := { (timed 1).time with pending := [{ aSet 1 with delta := d }] } };
         let te := ((s 0).begin 0).time.fullTick 100;
        WaitsOn (s 0) (waiting Op.timeSet) ∧ ((s 0).begin 0).time.ahead 100 = 0 ∧ 0 ≤ ((s 0).begin 0).time.present (te * 256) + 0
          ∧ ((s 0).begin 0).time.present (te * 256) + -(2 ^ 62) < 0))
    ∧ (Reaches live .select ∧ bit 1 0 = true)
    ∧ (Awake live ∧ live.time.refOk = true ∧ ({ live with time := { live.time with refOk := false } } : State).time.refOk = false)
    ∧ (let s := pulses 0x00010003;
      Awake s ∧ s.flg Reg.timPps 0 = true ∧ 0 < s.fld Reg.timPps 31 16 ∧ (s.begin 0).time.wholeSecond = true ∧ s.flg Reg.timPps 1 = true
        ∧ true = !s.flg Reg.timPps 2 ∧ s.time.ppsIn = none ∧ (s.rclk 1).clean = some 0 ∧ s.rclkBad 1 = false ∧ s.rclkClean 1 = true
        ∧ 0 + s.fld (Reg.timRclk 1) 31 24 * 10 * msU ≤ (s.begin (10 * msU)).time.now ∧ s.rclkSrc 1 ≤ 64)
    ∧ (let s := pulses 0x03E80007; 999 < s.fld Reg.timPps 31 16 ∧ false = !s.flg Reg.timPps 2)
    ∧ (let s : State := { live with time := { live.time with ppsOut := true, ppsFall := 999 * msU, ppsIn := some 0 } };
      s.time.ppsOut = true ∧ s.time.ppsFall ≤ (s.begin (999 * msU)).time.now ∧ s.time.ppsIn = some 0
        ∧ (s.begin (499 * msU)).time.now < 0 + 500 * msU) := by decide

/-! ## Witnesses: the host interface -/

/-- Ring 1023, of a type and a state, with 64 entries of which one is posted. -/
def aRing (cfg : Nat) (q : Ring) : State :=
  { live with regs := [(regKey (Reg.hifRingCfg 1023) 0, BitVec.ofNat 32 cfg)], host := { live.host with rings := [(1023, q)] } }

theorem witness_RingControl :
    (let s := aRing 0x80003000 { state := .running, idx := 1, head := 0, tail := 0 };
      Reaches s .hif ∧ (s.ring 1023).state = .running ∧ idxDiff (1 % 2 ^ 32) (s.ring 1023).idx = 0 ∧ 2 ^ 31 ≤ idxDiff (0 % 2 ^ 32) (s.ring 1023).idx
        ∧ 0 < idxDiff (64 % 2 ^ 32) (s.ring 1023).idx ∧ idxDiff (64 % 2 ^ 32) (s.ring 1023).idx < 2 ^ 31 ∧ s.ringType 1023 ≠ 3
        ∧ idxDiff (64 % 2 ^ 32) (s.ring 1023).tail ≤ s.ringSize 1023 ∧ s.ringSize 1023 < idxDiff (65 % 2 ^ 32) (s.ring 1023).tail
        ∧ s.ringEn 1023 = true)
    ∧ (let s := aRing 0x00003000 {};
      Reaches s .hif ∧ (s.ring 1023).state ≠ .running ∧ s.ringEn 1023 = false ∧ (s.ring 1023).state ≠ .draining
        ∧ ((s.begin 0).setReg (Reg.hifRingCfg 1023) (BitVec.ofNat 32 (0x3000 % 2 ^ 31 + 2 ^ 31))).ringRefusal 1023 = 0
        ∧ ((s.begin 0).setReg (Reg.hifRingCfg 1023) (BitVec.ofNat 32 (0x2800 % 2 ^ 31 + 2 ^ 31))).ringRefusal 1023 ≠ 0)
    ∧ (let s := aRing 0xB0003000 { state := .running, idx := 1, head := 3, tail := 3 };
      s.ringType 1023 = 3 ∧ 0 < idxDiff (2 % 2 ^ 32) (s.ring 1023).idx ∧ ¬(0 < idxDiff (2 % 2 ^ 32) (s.ring 1023).head ∧ idxDiff (2 % 2 ^ 32) (s.ring 1023).head < 2 ^ 31)
        ∧ 0 < idxDiff (4 % 2 ^ 32) (s.ring 1023).head ∧ idxDiff (4 % 2 ^ 32) (s.ring 1023).head < 2 ^ 31)
    ∧ (let s := aRing 0x00003000 { state := .draining }; s.ringEn 1023 = false ∧ (s.ring 1023).state = .draining) := by decide

theorem witness_RingFetch :
    (let s := aRing 0x80003000 { state := .running };
      s.host.slots = [] ∧ s.fetches 1023 = true ∧ (s.ring 1023).idx % 2 ^ 32 = (s.ring 1023).head % 2 ^ 32)
    ∧ (let s := aRing 0x80003000 { state := .running, idx := 1 };
      s.fetches 1023 = true ∧ (s.ring 1023).idx % 2 ^ 32 ≠ (s.ring 1023).head % 2 ^ 32
        ∧ ([BitVec.ofNat 8 Op.nop] ++ zeros 31).length = 32 ∧ s.descFault 1023 (byteAt ([BitVec.ofNat 8 Op.nop] ++ zeros 31) 0) = none
        ∧ s.descFault 1023 (byteAt ([0xFF] ++ zeros 31) 0) = some Status.opcodeBad)
    ∧ (let s : State := { aRing 0x80003000 { state := .running } with
          regs := [(regKey Reg.hifCfg 0, 1), (regKey (Reg.hifRingCfg 1023) 0, 0x80003000)],
          host := { (aRing 0x80003000 { state := .running }).host with cxl := true } };
      s.host.inReset = false ∧ s.host.cxl = true ∧ s.flg Reg.hifCfg 0 = true ∧ (s.ring (8 * 127 + 7)).state = .running ∧ (s.ring (8 * 127 + 7)).word ≠ 9
        ∧ ∀ i : Fin 8, i ≠ 7 → (s.ring (8 * 127 + i.val)).word = (([0, 0, 0, 0, 0, 0, 0, 0, 0, 0, 0, 0, 0, 0, 9, 0] : List Nat).drop (2 * i.val)).headD 0 % 2 ^ 32) := by decide

theorem witness_InterruptRows :
    (let s : State := { aRing 0x80003000 { state := .running, firstUnsig := some 0 } with regs := [(regKey (Reg.hifRingCoal 1023) 0, 0xFFFF0000)] };
      s.host.slots = [] ∧ (s.ring 1023).firstUnsig = some 0 ∧ s.fld (Reg.hifRingCoal 1023) 31 16 ≠ 0
        ∧ 0 + s.fld (Reg.hifRingCoal 1023) 31 16 * usU ≤ (s.begin (65535 * usU)).time.now
        ∧ (s.begin (65534 * usU)).time.now < 0 + s.fld (Reg.hifRingCoal 1023) 31 16 * usU)
    ∧ Reaches live .hif
    ∧ (let s : State := { live with regs := [(regKey (Reg.hifIntv 15) 0, 0x80000000)], host := { live.host with groups := [(15, { last := some 0, owed := true })] } };
      s.groupDelivers 15 = true ∧ s.intGroup 15 = { last := some 0, owed := true } ∧ 0 + usU ≤ (s.begin usU).time.now
        ∧ (s.begin (usU - 1)).time.now < 0 + usU)
    ∧ (Awake live ∧ live.host.inReset = false ∧ ((aRing 0x80003000 { state := .running }).ring 1023).state = .running) := by decide

/-! ## Witnesses: registers and channel control -/

theorem witness_RegisterWrites :
    (live.host.slots = [] ∧ Reaches live (regionOf Reg.uplCfg) ∧ ¬(2 = 4 ∧ Reg.uplCfg % 4 = 0) ∧ ¬(2 = 8 ∧ Reg.uplCfg % 8 = 0))
    ∧ (booting.hostAnswers = true ∧ booting.shows (regionOf Reg.uplCfg) = false ∧ Reg.uplCfg % 4 = 0)
    ∧ (Awake live ∧ regionOf Reg.uplCfg ≠ .mgt ∧ regionOf Reg.uplCfg ≠ .flt ∧ regionOf Reg.uplCfg ≠ .select ∧ isHbmDly Reg.uplCfg = false)
    ∧ (let s : State := { live with regs := [(regKey Reg.uplSel 0, 64)] }; winOf Reg.uplCfg ≠ .none ∧ winLimit (winOf Reg.uplCfg) ≤ s.selected .host (winOf Reg.uplCfg))
    ∧ (let s : State := { live with regs := [(regKey Reg.uplSel 0, 63)] };
      s.selected .host (winOf Reg.uplCfg) < winLimit (winOf Reg.uplCfg) ∧ (regAt Reg.uplCfg).isSome = true ∧ actsOnWrite Reg.uplCfg = false
        ∧ s.laneReserved Reg.uplCfg = false ∧ isSelect Reg.uplCfg = false)
    ∧ (Reaches live (regionOf Reg.uplSel) ∧ isSelect Reg.uplSel = true ∧ (regAt Reg.uplSel).isSome = true ∧ actsOnWrite Reg.uplSel = false)
    ∧ (let s : State := { live with regs := [(regKey Reg.uplGcfg 0, 3)] };
      Reaches s (regionOf (Reg.sdsLcfg 1)) ∧ s.selected .host (winOf (Reg.sdsLcfg 1)) < winLimit (winOf (Reg.sdsLcfg 1)) ∧ s.laneReserved (Reg.sdsLcfg 1) = true
        ∧ actsOnWrite (Reg.sdsLcfg 1) = false ∧ regAt 0x1FFFFFC = none ∧ s.selected .host (winOf 0x1FFFFFC) < winLimit (winOf 0x1FFFFFC)
        ∧ actsOnWrite 0x1FFFFFC = false)
    ∧ (Reg.pchPonidLo % 8 = 0 ∧ (regAt Reg.pchPonidLo).isSome = true ∧ (regAt (Reg.pchPonidLo + 4)).isSome = true
      ∧ live.selected .host (winOf Reg.pchPonidLo) < winLimit (winOf Reg.pchPonidLo)
      ∧ ∀ o ∈ [Reg.pchPonidLo, Reg.pchPonidLo + 4], Reaches live (regionOf o) ∧ actsOnWrite o = false ∧ live.laneReserved o = false ∧ isSelect o = false)
    ∧ (live.hostAnswers = true ∧ 32764 % 4 = 0 ∧ 32764 < 32768) := by decide

theorem witness_NamedWrites :
    (0xFFFFFFFF < 2 ^ 32 ∧ bit 0xFFFFFFFF 0 = true ∧ bit 0 0 = false)
    ∧ (let s : State := { live with regs := [(regKey Reg.pchSel 0, 191), (regKey Reg.pchSel 1, 0)] };
      s.selected .host .channel = 191 ∧ s.selected .mgmt .channel = 0) := by decide

theorem witness_AccessCodes :
    (regAt Reg.uplCfg).isSome = true ∧ Reaches live .flt ∧ Reaches live .mgt ∧ Reaches live .glb ∧ bit 2 0 = false
    ∧ (State.reset.host.slots = [] ∧ State.reset.hostAnswers = false ∧ booting.hostAnswers = true ∧ booting.shows .other = false
      ∧ ({ live with life := { live.life with por := true } } : State).life.por = true)
    ∧ (let s : State := { live with regs := [(regKey Reg.pchSel 0, 192), (regKey Reg.pchSel 1, 192)] };
      s.hostAnswers = true ∧ 192 ≤ s.selected .host .channel ∧ s.life.por = false ∧ s.life.warm = .none ∧ 192 ≤ s.selected .mgmt .channel)
    ∧ (let s : State := { live with regs := [(regKey Reg.pchSel 0, 191), (regKey Reg.pchSel 1, 191)] };
      Reaches s .other ∧ Awake s ∧ s.selected .host .channel = 191 ∧ s.selected .mgmt .channel = 191) := by decide

/-- Channel 191, disabled or enabled, with a valid profile 0, or none. -/
def chanState (en : Bool) (p : PonCh) (profile : Nat := 0x10241004) (disc : Nat := 0x820) (reach : Nat := 0x01900000 + 200) : State :=
  { live with
    regs := [(regKey Reg.pchCtrl 191, if en then 1 else 0), (regKey (Reg.pchBpCtl 0) 191, BitVec.ofNat 32 profile),
      (regKey Reg.pchDln 191, 0x11), (regKey Reg.actDisc 191, BitVec.ofNat 32 disc), (regKey Reg.actReach 191, BitVec.ofNat 32 reach)],
    chans := [(191, p)], terms := [(ctxNo 191 255, aTerm)] }

theorem witness_ChannelControl :
    (let s := chanState false {};
      Reaches s .other ∧ s.flg Reg.pchCtrl 0 191 = false ∧ (s.ch 191).resetting = none ∧ s.enableRefusal 191 = 0 ∧ s.drl.moves = []
        ∧ 8 ≤ s.fld Reg.actDisc 7 1 191 ∧ s.fld Reg.actReach 9 0 191 + s.fld Reg.actReach 25 16 191 ≤ 600 ∧ s.fld Reg.actReach 25 16 191 ≤ 400)
    ∧ (let s := chanState false {} 0; (s.ch 191).resetting = none ∧ s.enableRefusal 191 ≠ 0)
    ∧ (let s := chanState true { framing := true, unit := .running }; Reaches s .other ∧ s.flg Reg.pchCtrl 0 191 = true ∧ (s.ch 191).resetting = none)
    ∧ (let s := chanState false { resetting := some (0, false) };
      Fast s ∧ s.flg Reg.pchCtrl 0 191 = false ∧ (s.ch 191).resetting ≠ none)
    ∧ (let s := chanState true { resetting := some (0, false) } 0;
      Fast s ∧ s.flg Reg.pchCtrl 0 191 = true ∧ (s.ch 191).resetting ≠ none ∧ s.enableRefusal 191 ≠ 0)
    ∧ (let s := chanState false {} 0x10241004 14 0; s.fld Reg.actDisc 7 1 191 < 8)
    ∧ (let s := chanState false {} 0x10241004 0x820 0x01910000; 400 < s.fld Reg.actReach 25 16 191)
    ∧ (let s := chanState false {} 0x10241004 0x820 (0x01900000 + 201); 600 < s.fld Reg.actReach 9 0 191 + s.fld Reg.actReach 25 16 191) := by decide

/-! ## Witnesses: management, telemetry and faults -/

/-- The Tandem serves a request: an OP with a body. -/
def asked (op : Nat) (body : List Byte) (pending : Option Nat := some 65535) (slotB : ImgSlot := {}) (recovery : Bool := false) : State :=
  { live with mgt := { live.mgt with
      ready := !recovery, recovery := recovery, slotB := slotB,
      mbx := { live.mgt.mbx with
        pending := pending, request := bufWrite [] 0 (toLe 2 op ++ [0, 0] ++ toLe 4 body.length ++ zeros 8 ++ body) } } }

theorem witness_MailboxQueries :
    (Reaches (asked 1 []) .mgt ∧ (asked 1 []).mgt.mbx.pending ≠ none)
    ∧ (let s : State := { live with mgt := { live.mgt with switching := true } }; Reaches s .mgt ∧ s.mgt.mbx.pending = none ∧ s.mgt.switching = true)
    ∧ (let s := asked 9 [] none; s.mgt.mbx.pending = none ∧ s.mbxServes = true ∧ s.mgt.recovery = false ∧ mbxOps.contains s.reqOp = false)
    ∧ (let s := asked 2 [] none {} true; s.mgt.mbx.pending = none ∧ s.mbxServes = true ∧ s.mgt.recovery = true ∧ recoveryOps.contains s.reqOp = false)
    ∧ (let s := asked 0x30 [] none; s.mgt.mbx.pending = none ∧ s.mbxServes = true ∧ s.mgt.recovery = false ∧ mbxOps.contains s.reqOp = true)
    ∧ (ServesOp (asked 1 []) 1 65535 ∧ (asked 1 []).reqLen = 0 ∧ ServesOp (asked 1 [0]) 1 65535 ∧ (asked 1 [0]).reqLen ≠ 0)
    ∧ (ServesOp (asked 2 []) 2 65535 ∧ (asked 2 []).reqLen = 0 ∧ ServesOp (asked 2 [0]) 2 65535 ∧ (asked 2 [0]).reqLen ≠ 0)
    ∧ (ServesOp (asked 3 []) 3 65535 ∧ (asked 3 []).reqLen ≠ 6)
    ∧ (ServesOp (asked 3 (toLe 4 0 ++ toLe 2 0)) 3 65535 ∧ (asked 3 (toLe 4 0 ++ toLe 2 0)).reqLen = 6 ∧ (asked 3 (toLe 4 0 ++ toLe 2 0)).reqAt 20 2 = 0
      ∧ (asked 3 (toLe 4 0 ++ toLe 2 128)).reqAt 20 2 = 128 ∧ (asked 3 (toLe 4 0 ++ toLe 2 127)).reqAt 20 2 = 127) :=
  ⟨by decide, by decide, by decide, by decide, by decide, by decide, by decide, by decide, by decide⟩

def imgBody (slot off n : Nat) : List Byte := toLe 4 slot ++ toLe 4 off ++ List.replicate n 0x5A

theorem witness_MailboxUpdates :
    (let s := asked 0x10 (imgBody 1 0 8);
      ServesOp s 0x10 65535 ∧ 8 < s.reqLen ∧ s.reqLen ≤ 4080 ∧ s.reqAt 16 1 ≤ 1 ∧ s.runningSlot ≠ some (s.reqAt 16 1) ∧ s.reqAt 20 4 % 8 = 0
        ∧ s.reqAt 20 4 + (s.reqLen - 8) ≤ 8388608 ∧ s.reqAt 20 4 = 0)
    ∧ (let s := asked 0x10 (imgBody 1 8388600 8) (some 65535) { fresh := true, written := [(0, 8)] };
      s.reqAt 20 4 + (s.reqLen - 8) ≤ 8388608 ∧ (s.imgSlot (s.reqAt 16 1)).fresh = true
        ∧ (s.imgSlot (s.reqAt 16 1)).written.any (overlap (s.reqAt 20 4, s.reqLen - 8)) = false)
    ∧ (let s := asked 0x10 (imgBody 0 0 8); s.runningSlot = some (s.reqAt 16 1))
    ∧ (let s := asked 0x10 (imgBody 1 4 8); s.reqAt 20 4 % 8 ≠ 0)
    ∧ (let s := asked 0x11 [1]; ServesOp s 0x11 65535 ∧ s.reqLen = 1 ∧ s.reqAt 16 1 ≤ 1) ∧ 1 < (asked 0x11 [2]).reqAt 16 1
    ∧ (∀ e ∈ [(0x10, 8), (0x10, 7), (0x11, 0), (0x12, 0), (0x20, 0), (0x30, 0)],
      ServesOp (asked e.1 (zeros e.2)) e.1 65535 ∧ (asked e.1 (zeros e.2)).reqLen = e.2)
    ∧ (ServesOp (asked 0x12 [2]) 0x12 65535 ∧ 1 < (asked 0x12 [2]).reqAt 16 1)
    ∧ (let s := asked 0x10 (imgBody 2 0 8); 1 < s.reqAt 16 1)
    ∧ (let s := asked 0x12 [1]; ServesOp s 0x12 65535 ∧ s.reqLen = 1 ∧ s.reqAt 16 1 ≤ 1 ∧ (s.imgSlot (s.reqAt 16 1)).verified = false)
    ∧ (let s := asked 0x12 [1] (some 65535) { verified := true }; (s.imgSlot (s.reqAt 16 1)).verified = true)
    ∧ (let s := asked 0x20 (zeros 196); ServesOp s 0x20 65535 ∧ s.reqLen = 196)
    ∧ (let s := asked 0x30 (toLe 4 0x52535457); ServesOp s 0x30 65535 ∧ s.reqLen = 4 ∧ s.reqAt 16 4 = 0x52535457)
    ∧ (asked 0x30 (toLe 4 1)).reqAt 16 4 ≠ 0x52535457 :=
  ⟨by decide, by decide, by decide, by decide, by decide, by decide, by decide, by decide, by decide, by decide, by decide, by decide, by decide,
    by decide⟩

theorem witness_SecverCommit : ServesOp (asked 0x13 [1]) 0x13 65535 ∧ (asked 0x13 [1]).reqLen = 1 ∧ (asked 0x13 [0]).reqLen = 1
    ∧ ServesOp (asked 0x13 []) 0x13 65535 ∧ (asked 0x13 []).reqLen ≠ 1 := by decide

theorem witness_TandemRows : Awake live := by decide

theorem witness_SideBandRows : live.host.slots = [] ∧ Awake live ∧ ([1, 2] : List Byte).length = 2 ∧ ([1, 2, 3] : List Byte).length ≠ 2 := by decide

/-- A sweep is due: two objects have counted, pages stand on ring 0; a sample record of slice 7 waits. -/
def sweeping (link : Bool) : State :=
  { onRing 2 with
    cxm := { live.cxm with link := link },
    cnt := { live.cnt with
      local_ := [(Ctr.slcNoDest.key 0, 5), (Ctr.slcNoDest.key 7, 2 ^ 48 - 2)], acc := [(Ctr.slcNoDest.key 0, 2 ^ 64 - 1)],
      pages := [{ slot := 0, ring := 0, idx := 0, cookie := 7, addr := 0x1000, kind := 0, first := 0, objects := 1 },
        { slot := 1, ring := 0, idx := 1, cookie := 7, addr := 0x2000, kind := 17, first := 8, objects := 1, written := 62 }],
      bw := [(531, { cur := 9 })], samples := [(7, [zeros 64])] } }

theorem witness_TelemetryRows :
    (Fast live ∧ (live.begin 0).time.now < live.cnt.sweepAt + live.sweepPeriod)
    ∧ (Fast (sweeping false) ∧ (sweeping false).cnt.sweepAt + (sweeping false).sweepPeriod ≤ ((sweeping false).begin (100 * msU)).time.now
      ∧ (sweeping false).cxm.link = false)
    ∧ (Fast (sweeping true) ∧ (sweeping true).cxm.link = true ∧ (∀ e ∈ (sweeping true).cnt.local_, e.2 < 2 ^ 48 - 1)
      ∧ ∀ e ∈ (sweeping true).cnt.bw, e.1 < 532)
    ∧ (let win := min (live.fld Reg.cntBw 19 0) 1000000; win ≠ 0 ∧ live.cnt.winAt + win * usU ≤ (live.begin (win * usU)).time.now
      ∧ (live.begin 0).time.now < live.cnt.winAt + win * usU)
    ∧ ((sweeping true).cnt.samples.get (fun _ => []) 7 = [zeros 64] ∧ (sweeping true).cnt.sampleAt + 250 * nsU ≤ ((sweeping true).begin (250 * nsU)).time.now)
    ∧ Reaches live .other := by decide

def scrubbed (at_ : Nat) : State :=
  { live with regs := [(regKey Reg.fltCfg 0, 1)], flt := { live.flt with corrected := [(Site.code ⟨1, 191⟩, some at_)] } }

theorem witness_FaultRows :
    (let x : Slot := { waiting Op.nop with phase := .ready }; let s : State := { waits Op.nop with host := { (waits Op.nop).host with slots := [x] } };
      s.clocksRun = true ∧ s.host.slots = [x] ∧ x.orphan = false ∧ x.cmplOk = true ∧ x.more = false ∧ (s.ring x.ring).state = .running)
    ∧ (Fast live ∧ live.fwd.flushes = [] ∧ live.drl.moves = [])
    ∧ (WaitsOn (walked (some 5)) (waiting Op.fwdFlush) ∧ (walked (some 5)).fwd.flushes.map (·.slot) = [(waiting Op.fwdFlush).id]
      ∧ (waiting Op.fwdFlush).resOk = true)
    ∧ (Fast (moving offered) ∧ (moving offered).moveFrom 191 255 = some offered)
    ∧ (Fast (pannier .running 0) ∧ (pannier .running 0).hbm.state = .running)
    ∧ (let s : State := { live with life := { live.life with locked := false } };
      Reaches s .flt ∧ s.life.locked = false ∧ s.clocksRun = true ∧ bit 0x90000000 28 = true ∧ ∀ k ∈ [2, 5, 7], bits (0x90000000 + k * 2 ^ 20) 23 20 = k)
    ∧ (Fast (ranging .measured) ∧ ((ranging .measured).term 191 255).state = .ranging)
    ∧ ((⟨4, 0⟩ : Site).kind.val = 4 ∧ (⟨1, 191⟩ : Site).kind.val ≠ 4 ∧ (⟨1, 191⟩ : Site).kind.val ≠ 8 ∧ (⟨1, 191⟩ : Site).kind.val ≠ 9 ∧ (⟨8, 0⟩ : Site).kind.val = 8
      ∧ (⟨9, 0⟩ : Site).kind.val = 9)
    ∧ (Awake (scrubbed 0) ∧ (scrubbed 0).flg Reg.fltCfg 0 = true ∧ (scrubbed 0).flt.corrected.get (fun _ => none) (Site.code ⟨1, 191⟩) = some 0
      ∧ ((scrubbed 0).begin (secU - 1)).time.now < 0 + secU ∧ 0 + secU ≤ ((scrubbed 0).begin secU).time.now)
    ∧ (Fast unitsIdle ∧ (unitsIdle.slice 7).unit ≠ .stopped ∧ (unitsIdle.slice 7).ingress = [] ∧ (unitsIdle.slice 7).hostQ = []
      ∧ (unitsIdle.slice 7).mgmtQ = [] ∧ (unitsIdle.slice 7).chain = [] ∧ unitsIdle.sliceCells 7 = false ∧ (unitsIdle.cluster 31).unit ≠ .stopped)
    ∧ (Fast unitStopping ∧ (unitStopping.ch 191).unit ≠ .stopped)
    ∧ (Reaches live .flt ∧ live.clocksRun = true ∧ live.life.locked = true ∧ bit 0x90000000 31 = true ∧ bit 0x90000000 28 = true ∧ bit 0x80500000 28 = false
      ∧ bits 0x80500000 23 20 < 7 ∧ bits 0x80500000 23 20 ≠ 6 ∧ 8 ≤ bits 0x80800000 23 20 ∧ bit 0x7FFFFFFF 31 = false)
    ∧ (let s : State := { live with life := { live.life with pwr := .entering } }; Reaches s .flt ∧ s.clocksRun = false) :=
  ⟨by decide, by decide, by decide, by decide, by decide, by decide, by decide, by decide, by decide, by decide, by decide, by decide, by decide⟩

/-! ## Witnesses: the machine -/

theorem witness_CompletionOrder : OrderKept State.reset ∧ step State.reset = .next State.reset := by
  refine ⟨fun x st res h => ?_, rfl⟩
  simp [State.reset] at h

/-! ## WellFormed refuses an ill-formed term for each check -/

def okCmd : Cmd := cmd 191 (zeros 4)

theorem test_wf_write :
    (Instr.registerWrite 0 .host .pf0 0x1FFFFFC 4 0xFFFFFFFF).wf = true ∧ (Instr.registerWrite 0 .host .pf0 0 3 0).wf = false
    ∧ (Instr.registerWrite 0 .host .pf0 0x1FFFFFD 4 0).wf = false ∧ (Instr.registerWrite 0 .host .pf0 0 4 0x100000000).wf = false := by decide

theorem test_wf_command :
    (Instr.nop 0 okCmd).wf = true ∧ (Instr.nop 0 { okCmd with flags := 256 }).wf = false ∧ (Instr.nop 0 { okCmd with spec := 65536 }).wf = false
    ∧ (Instr.nop 0 { okCmd with len := 2 ^ 32 }).wf = false ∧ (Instr.nop 0 { okCmd with addr := 2 ^ 64 }).wf = false
    ∧ (Instr.nop 0 { okCmd with cookie := 2 ^ 64 }).wf = false ∧ (Instr.nop 0 { okCmd with aux := 2 ^ 64 }).wf = false
    ∧ (Instr.nop 0 { okCmd with buf := some (zeros 5) }).wf = false := by decide

theorem test_wf_descriptor :
    (Instr.descriptorFetch 0 0 (some (zeros 64))).wf = true ∧ (Instr.descriptorFetch 0 0 (some (zeros 33))).wf = false
    ∧ (Instr.descriptorFetch 0 0 (some (zeros 544))).wf = false := by decide

/-- 16 Tables 2 and 3, byte by byte. -/
theorem test_descriptor_bytes :
    descOf [0x22, 1, 5, 1, 16, 0, 0, 0, 0, 1, 0, 0, 0, 0, 0, 0, 7, 0, 0, 0, 0, 0, 0, 0, 0, 0, 2, 0, 0, 0, 0, 0]
      = { opcode := 0x22, flags := 1, spec := 0x105, len := 16, addr := 256, cookie := 7, aux := 0x20000 }
    ∧ completionBytes 0x201 16 7 true false = [1, 2, 1, 0, 16, 0, 0, 0, 7, 0, 0, 0, 0, 0, 0, 0] := by decide

theorem test_wf_events :
    (Instr.sensorSample 0 (List.replicate 31 0) (List.replicate 24 0)).wf = false
    ∧ (Instr.sensorSample 0 (List.replicate 32 0) (List.replicate 23 0)).wf = false
    ∧ (Instr.burstReceived 0 0 0 0 { goodBurst with head := { goodHead 5 with levels := [0, 1, 2] } }).wf = false
    ∧ (Instr.burstReceived 0 0 0 0 { goodBurst with head := goodHead 1024 }).wf = false
    ∧ (Instr.serialNumberOnu 0 0 { head := goodHead 5, sn := 2 ^ 64, msg := [], arrival := 0, collided := false }).wf = false
    ∧ (Instr.rangingResponse 0 0 0 (2 ^ 64) ⟨goodHead 5, 0⟩).wf = false ∧ (Instr.doorbellLineSnoop 0 0 (List.replicate 15 0)).wf = false
    ∧ (Instr.doorbellLineSnoop 0 0 (List.replicate 16 (2 ^ 32))).wf = false ∧ (Instr.gateChange 0 256).wf = false
    ∧ (Instr.gclChangePoint 0 256).wf = false ∧ (Instr.residueEnqueue 0 0 (2 ^ 20)).wf = false ∧ (Instr.smbusWrite 0 []).wf = false := by decide

theorem test_wf_words :
    (Instr.hbmDlyWrite 0 .host 0 (2 ^ 32)).wf = false ∧ (Instr.timeLatch 0 .host (2 ^ 32)).wf = false
    ∧ (Instr.mailboxDoorbell 0 .host (2 ^ 32)).wf = false ∧ (Instr.cntSampWrite 0 .host (2 ^ 32)).wf = false
    ∧ (Instr.faultInject 0 .host (2 ^ 32)).wf = false ∧ (Instr.hifIntWrite 0 0 (2 ^ 32)).wf = false
    ∧ (Instr.ringEnable 0 0 (2 ^ 32)).wf = false ∧ (Instr.doorbell 0 0 (2 ^ 32)).wf = false := by decide

/-! ## Figures of the spec -/

/-- 04, worked example of the ranging: 215.32 µs is 33,486 ticks and 580 drift units, and the EqD 63,713 ticks and 444. -/
theorem test_drift_units :
    toDrift (215320 * nsU) = 33486 * 1024 + 580 ∧ toDrift teqdU - toDrift (215320 * nsU) = 63713 * 1024 + 444 := by decide

/-- 15, worked example: with ADJ −2^29 since frame 1,000,000, frame 1,008,000 starts 999,998,092.6513671875 ns later in presented time. -/
theorem test_presented_time :
    ({ off := 1748000000000000000 * 65536, tA := 19440000000, adj := -(2 ^ 29) } : TimeSt).present (19595520000 * 256)
      = 1748000000999998092 * 65536 + 42688 := by decide

/-- 16, worked example: entries 190 and 191 of a ring of 64 take PHASE 1, 192 and 193 PHASE 0. -/
theorem test_phase : (List.map (phaseOf 64) [190, 191, 192, 193]) = [true, true, false, false] := by decide

/-- 09: the Depot's class-5 queue is 141,501; 10: its terminal context is 17,687. 16: SLA_BAD is 0x0201, KEY_EMPTY 0x050B. -/
theorem test_numbers : ctxNo 69 23 = 17687 ∧ qTerm (ctxNo 69 23) 5 = 141501 ∧ Status.slaBad = 0x0201 ∧ Status.keyEmpty = 0x050B := by decide

/-- 17 Table 6: IDCODE shifts out 0x3C1927AF. -/
theorem test_idcode :
    (match execIdcode 0 live with
      | .next w => w.outs
      | _ => []) = [.jtag 0x3C1927AF []] := by decide

/-- The rows of the table give no bits: no word spells a command. -/
theorem test_decode_none : decodeTableWord 32 0 = none := rfl

/-- 03, worked example: FS byte 100,000 lies in codeword A of block 27, from frame symbol 478,720 on; byte 101,824 is the one
that shares its symbols. -/
theorem test_d100_place :
    d100Place 100000 = (27, false, 1504) ∧ d100Place 101824 = (27, true, 1504) ∧ d100BlockAt 27 + 8 * 1504 = 478720 := by decide

/-- 03 Tables 1 and 5: the Gray code, and the level-training field. -/
theorem test_pam4 :
    (pam4Pairs [false, false, false, true, true, true, true, false], ltfLevels.length) = ([0, 1, 2, 3], 64) := by decide

end Sys2Proof.Tests
end

section
/-! The allow-list commands (04 R108, R109, R128). First the frame of the command engine: what reports a command to the host (interrupts,
events, completions) writes the host interface, the registers, the counters and the outputs only. Then each command as a list of
checks and an effect, and that entries are written and erased without touching a terminal. -/

namespace Sys2Proof.Machine

/-! ## What the command engine writes -/

/-- At most the host interface, the registers, the counters and the outputs of a state have changed. -/
def HostFrame (s u : State) : Prop :=
  ∃ host regs cnt outs, u = { s with host := host, regs := regs, cnt := cnt, outs := outs }

theorem HostFrame.refl (s : State) : HostFrame s s := ⟨_, _, _, _, rfl⟩

theorem HostFrame.trans {s u w : State} (hu : HostFrame s u) (hw : HostFrame u w) : HostFrame s w := by
  obtain ⟨_, _, _, _, rfl⟩ := hu
  obtain ⟨_, _, _, _, rfl⟩ := hw
  exact ⟨_, _, _, _, rfl⟩

/-- An update of the host interface alone, after any number of framed updates. -/
theorem HostFrame.withHost {s u : State} (h : HostFrame s u) (x : HostSt) : HostFrame s { u with host := x } :=
  h.trans ⟨_, _, _, _, rfl⟩

theorem HostFrame.emit {s u : State} (h : HostFrame s u) (o : Out) : HostFrame s (u.emit o) := h.trans ⟨_, _, _, _, rfl⟩

theorem HostFrame.setRing {s u : State} (h : HostFrame s u) (r : Nat) (q : Ring) : HostFrame s (u.setRing r q) := h.withHost _

theorem HostFrame.bump {s u : State} (h : HostFrame s u) (k : Ctr) (obj : Nat) (n : Nat := 1) : HostFrame s (u.bump k obj n) :=
  h.trans ⟨_, _, _, _, rfl⟩

theorem HostFrame.groupMessage {s u : State} (h : HostFrame s u) (g : Nat) : HostFrame s (u.groupMessage g) := by
  refine h.trans ?_
  unfold State.groupMessage
  split
  · exact .refl u
  · exact iteInduction (motive := HostFrame u) (fun _ => (HostFrame.refl u).withHost _) (fun _ => ((HostFrame.refl u).withHost _).emit _)

theorem HostFrame.raise {s u : State} (h : HostFrame s u) (g i : Nat) : HostFrame s (u.raise g i) := by
  refine h.trans ?_
  have hbit : HostFrame u (u.setBit (Reg.hifInt g) i true) := ⟨_, _, _, _, rfl⟩
  unfold State.raise
  split
  · exact .refl u
  · dsimp only
    split
    · exact hbit
    · exact hbit.groupMessage g

theorem HostFrame.ringSignal {s u : State} (h : HostFrame s u) (r : Nat) : HostFrame s (u.ringSignal r) :=
  h.trans ⟨_, _, _, _, (State.ringSignal_frame u r).1⟩

theorem HostFrame.eventWrite {s u : State} (h : HostFrame s u) (e : HeldEvent) : HostFrame s (u.eventWrite e) := by
  unfold State.eventWrite
  split
  · exact h.bump _ _
  · dsimp only
    split
    · exact ((h.bump _ _).bump _ _).raise 0 4
    · split
      · exact (((h.setRing _ _).bump _ _).bump _ _).raise 0 4
      · exact ((h.setRing _ _).emit _).ringSignal _

theorem HostFrame.eventWrites {s u : State} (h : HostFrame s u) (es : List HeldEvent) :
    HostFrame s (es.foldl State.eventWrite u) := by
  induction es generalizing u with
  | nil => exact h
  | cons e es ih => exact ih (h.eventWrite e)

/-- An event is written now, or held at its command's slot. -/
theorem HostFrame.event {s u : State} (h : HostFrame s u) (code source : Nat) (body : List Byte) :
    HostFrame s (u.event code source body) := by
  unfold State.event
  split
  · unfold State.eventOf
    split
    · exact h.withHost _
    · exact h.eventWrite _
  · exact h.eventWrite _

theorem HostFrame.haltRing {s u : State} (h : HostFrame s u) (r cause : Nat) : HostFrame s (u.haltRing r cause) := by
  unfold State.haltRing
  split
  · exact h
  · exact ((h.setRing r _).raise 0 0).event _ _ _

/-- A completion, one whose write fails and halts the ring included. -/
theorem HostFrame.complete {s u : State} (h : HostFrame s u) (x : Slot) (st res : Nat) : HostFrame s (u.complete x st res) := by
  unfold State.complete
  dsimp only
  refine HostFrame.eventWrites ?_ x.events
  split
  · exact h.withHost _
  · split
    · exact (((h.withHost _).setRing _ _).raise 0 2).haltRing _ _
    · exact (((h.withHost _).setRing _ _).emit _).ringSignal _

theorem HostFrame.retireIds {s u : State} (h : HostFrame s u) (ids held : List Nat) : HostFrame s (State.retireIds ids held u) := by
  induction ids generalizing u held with
  | nil => exact h
  | cons id ids ih =>
    unfold State.retireIds
    split
    · exact ih h _
    · split
      · split
        · exact ih h _
        · exact ih (h.complete _ _ _) _
      · exact ih h _

/-- A command that meets its ring ready: all that follows its effect, whatever its verdict and whether or not its completion can be
written, stays within the frame. -/
theorem State.runCmd_hostFrame {s : State} {op : Nat} {c : Cmd} (h : cmdReady s op c = true) (t : Nat) :
    ∃ w, s.runCmd t op c = .next w ∧ HostFrame (opBody (cmdSlot s op c) (cmdState s t op c)).1 w := by
  refine ⟨_, rfl, ?_⟩
  rw [State.settleAll, State.pump_ready h t rfl]
  exact ((HostFrame.refl _).withHost _).retireIds _ _

/-! ## Terminals and channels left as they were -/

/-- Every terminal context and every channel is as it was. -/
def SameTerms (s u : State) : Prop := u.terms = s.terms ∧ u.chans = s.chans

theorem HostFrame.sameTerms {s u w : State} (h : HostFrame u w) (hu : SameTerms s u) : SameTerms s w := by
  obtain ⟨_, _, _, _, rfl⟩ := h
  exact hu

theorem SameTerms.ctxWrite {s u : State} (h : SameTerms s u) (f : CtxTables → CtxTables) : SameTerms s (u.ctxWrite f) := by
  unfold State.ctxWrite
  split
  · exact h
  · exact h

theorem SameTerms.recordClear {s u : State} (h : SameTerms s u) (k : Nat) : SameTerms s (u.recordClear k) := by
  unfold State.recordClear
  split
  · exact h
  · exact h

theorem cmdState_sameTerms (s : State) (t op : Nat) (c : Cmd) : SameTerms s (cmdState s t op c) :=
  ⟨cmdState_terms s t op c, cmdState_chans s t op c⟩

/-- A buffered command leaves terminals alone where its effect on a buffer that was read does. -/
theorem withLen_sameTerms {s : State} (x : Slot) (n : Nat) {u : State} {k : List Byte → Turn} (hu : SameTerms s u)
    (hk : ∀ b, SameTerms s (k b).1) : SameTerms s (withLen x n u k).1 := by
  unfold withLen withBuf
  split
  · exact hu
  · split
    · exact hu
    · split
      · exact ((HostFrame.refl u).raise 0 1).sameTerms hu
      · exact hk _

/-- R109, of writing an entry: whatever the buffer holds, no terminal changes. -/
theorem opAllowWrite_sameTerms {s u : State} (x : Slot) (hu : SameTerms s u) : SameTerms s (opAllowWrite x u).1 := by
  refine withLen_sameTerms x 16 hu fun b => ?_
  simp only [checks]
  split
  · exact hu
  · split
    · exact hu
    · exact hu.ctxWrite _

/-- R109, of erasing an entry. -/
theorem opAllowErase_sameTerms {s u : State} (x : Slot) (hu : SameTerms s u) : SameTerms s (opAllowErase x u).1 := by
  refine withLen_sameTerms x 8 hu fun b => ?_
  split
  · exact hu
  · exact (hu.ctxWrite _).recordClear _

/-- A ready command whose effect leaves every terminal as it was does so as a whole. -/
theorem gives_sameTerms {i : Instr} {s : State} {t op : Nat} {c : Cmd} (hi : exec i s = s.runCmd t op c) (h : cmdReady s op c = true)
    (hb : SameTerms s (opBody (cmdSlot s op c) (cmdState s t op c)).1) :
    Gives i s (fun w => w.terms = s.terms ∧ w.chans = s.chans) := by
  obtain ⟨w, hw, hf⟩ := State.runCmd_hostFrame h t
  exact ⟨w, hi.trans hw, hf.sameTerms hb⟩

/-! ## The three commands as checks and an effect -/

theorem exec_allowWrite (s : State) (t : Nat) (c : Cmd) : exec (.allowWrite t c) s = s.runCmd t Op.allowWrite c := rfl
theorem exec_allowErase (s : State) (t : Nat) (c : Cmd) : exec (.allowErase t c) s = s.runCmd t Op.allowErase c := rfl
theorem exec_recordForget (s : State) (t : Nat) (c : Cmd) : exec (.recordForget t c) s = s.runCmd t Op.recordForget c := rfl

/-- The way that an entry of a serial number takes: the one that holds it, else the lowest free one of its set (04 Table 4). -/
def State.allowWay (s : State) (sn : Nat) : Option Nat :=
  (s.allowFind sn).orElse (fun _ => (allowWays sn).find? (fun k => !(s.allowOf k).valid))

theorem State.allowFind_of {s u : State} (h : u.ctx = s.ctx) (sn : Nat) : u.allowFind sn = s.allowFind sn := by
  simp [State.allowFind, State.allowOf, h]
theorem State.allowWay_of {s u : State} (h : u.ctx = s.ctx) (sn : Nat) : u.allowWay sn = s.allowWay sn := by
  simp [State.allowWay, State.allowFind_of h, State.allowOf, h]

/-- What ALLOW_WRITE makes of a state: entry e stands in way k. -/
def State.allowPut (s : State) (k : Nat) (e : AllowEntry) : State :=
  s.ctxWrite (fun x => { x with allow := x.allow.set (fun _ => {}) k e })

/-- What ALLOW_ERASE makes of a state: way k is free, and the terminal record beside it is not valid. -/
def State.allowDrop (s : State) (k : Nat) : State :=
  (s.ctxWrite (fun x => { x with allow := x.allow.upd (fun _ => {}) k (fun e => { e with valid := false }) })).recordClear k

/-- What RECORD_FORGET makes of a state: the serial number is suppressed, and the record beside way k is not valid. -/
def State.recordDrop (s : State) (sn k : Nat) : State :=
  ({ s with forgotten := s.forgotten.filter (· != sn) ++ [sn] } : State).recordClear k

theorem opAllowWrite_checks {x : Slot} {b : List Byte} (s : State) (hl : x.len = 16) (hb : x.buf = some b) :
    let e := allowOfBuf b
    opAllowWrite x s = checks [(!e.valid || decide (e.tree > 47) || decide (e.pinId.getD 0 > 1022), Status.allowBad),
      ((s.allowWay e.sn).isNone, Status.allowFull)] s (fun _ => (s.allowPut ((s.allowWay e.sn).getD 0) e).ok) := by
  rw [opAllowWrite, withLen_ok s _ hl (by decide) hb]
  dsimp only [State.allowWay]
  cases (s.allowFind (allowOfBuf b).sn).orElse (fun _ => (allowWays (allowOfBuf b).sn).find? (fun k => !(s.allowOf k).valid)) with
  | none => rfl
  | some k => rfl

theorem opAllowErase_checks {x : Slot} {b : List Byte} (s : State) (hl : x.len = 8) (hb : x.buf = some b) :
    let way := s.allowFind (beAt b 0 8)
    opAllowErase x s = checks [(way.isNone, Status.allowNone)] s (fun _ => (s.allowDrop (way.getD 0)).ok) := by
  rw [opAllowErase, withLen_ok s _ hl (by decide) hb]
  cases s.allowFind (beAt b 0 8) with
  | none => rfl
  | some k => rfl

theorem opRecordForget_checks {x : Slot} {b : List Byte} (s : State) (hl : x.len = 8) (hb : x.buf = some b) :
    let way := s.allowFind (beAt b 0 8)
    opRecordForget x s = checks [(way.isNone, Status.allowNone)] s (fun _ => (s.recordDrop (beAt b 0 8) (way.getD 0)).ok) := by
  rw [opRecordForget, withLen_ok s _ hl (by decide) hb]
  dsimp only
  cases s.allowFind (beAt b 0 8) with
  | none => rfl
  | some k => rfl

/-! ## Their effects do not read the host interface -/

theorem State.recordClear_host (s : State) (k : Nat) (h : HostSt) (o : List Out) :
    ({ s with host := h, outs := o } : State).recordClear k = { s.recordClear k with host := h, outs := o } := by
  unfold State.recordClear
  by_cases hk : s.cxm.link = true
  · simp only [hk, if_true]
  · simp only [hk]; rfl

@[simp] theorem State.recordClear_regs (s : State) (k : Nat) : (s.recordClear k).regs = s.regs := by
  unfold State.recordClear; split <;> rfl

theorem State.allowDrop_host (s : State) (k : Nat) (h : HostSt) :
    ∃ o, ({ s with host := h } : State).allowDrop k = { s.allowDrop k with host := h, outs := o } := by
  obtain ⟨o, ho⟩ := State.ctxWrite_host s (fun x => { x with allow := x.allow.upd (fun _ => {}) k (fun e => { e with valid := false }) }) h
  exact ⟨o, by rw [State.allowDrop, ho, State.recordClear_host]; rfl⟩

theorem State.recordDrop_host (s : State) (sn k : Nat) (h : HostSt) :
    ∃ o, ({ s with host := h } : State).recordDrop sn k = { s.recordDrop sn k with host := h, outs := o } :=
  ⟨s.outs, State.recordClear_host { s with forgotten := s.forgotten.filter (· != sn) ++ [sn] } k h s.outs⟩

theorem State.allowPut_regs (s : State) (k : Nat) (e : AllowEntry) : (s.allowPut k e).regs = s.regs := State.ctxWrite_regs _ _
theorem State.allowDrop_regs (s : State) (k : Nat) : (s.allowDrop k).regs = s.regs := by simp [State.allowDrop]
theorem State.recordDrop_regs (s : State) (sn k : Nat) : (s.recordDrop sn k).regs = s.regs := State.recordClear_regs _ _

/-- `checked_of`, of an effect that leaves the registers alone. -/
theorem checked_of_regs {i : Instr} {s : State} {t op : Nat} {c : Cmd} {l : List (Bool × Nat)} {f : State → State}
    (hi : exec i s = s.runCmd t op c) (h : cmdReady s op c = true) (hc : c.cmplOk = true)
    (hb : opBody (cmdSlot s op c) (cmdState s t op c) = checks l (cmdState s t op c) (fun _ => (f (cmdState s t op c)).ok))
    (hl : l.all (fun e => e.2 != Status.ok) = true)
    (hf : ∀ (u : State) (h : HostSt), ∃ o, f { u with host := h } = { f u with host := h, outs := o })
    (hr : ∀ u, (f u).regs = u.regs) : Checked i s t op c l f :=
  have hregs : (f (cmdState s t op c)).regs = s.regs := (hr _).trans (cmdState_regs s t op c)
  checked_of hi h hc hb hl (hf _) (State.ringSize_of hregs) (State.ringCmpl_of hregs)

/-! ## The statement -/

theorem checked_allowWrite {s : State} (t : Nat) {c : Cmd} {b : List Byte} (h : Buffered s Op.allowWrite c 16 b) :
    let e := allowOfBuf b
    Checked (.allowWrite t c) s t Op.allowWrite c [(!e.valid || decide (e.tree > 47) || decide (e.pinId.getD 0 > 1022), Status.allowBad),
        ((s.allowWay e.sn).isNone, Status.allowFull)] (fun u => u.allowPut ((s.allowWay e.sn).getD 0) e) := by
  obtain ⟨hready, hcmpl, hlen, hbuf⟩ := h
  refine checked_of_regs (exec_allowWrite s t c) hready hcmpl ?_ rfl (fun u => State.ctxWrite_host u _) (fun u => State.allowPut_regs u _ _)
  rw [opBody_allowWrite, opAllowWrite_checks _ hlen hbuf, State.allowWay_of (cmdState_ctx ..)]

theorem checked_allowErase {s : State} (t : Nat) {c : Cmd} {b : List Byte} (h : Buffered s Op.allowErase c 8 b) :
    let way := s.allowFind (beAt b 0 8)
    Checked (.allowErase t c) s t Op.allowErase c [(way.isNone, Status.allowNone)] (fun u => u.allowDrop (way.getD 0)) := by
  obtain ⟨hready, hcmpl, hlen, hbuf⟩ := h
  refine checked_of_regs (exec_allowErase s t c) hready hcmpl ?_ rfl (fun u => State.allowDrop_host u _) (fun u => State.allowDrop_regs u _)
  rw [opBody_allowErase, opAllowErase_checks _ hlen hbuf, State.allowFind_of (cmdState_ctx ..)]

theorem checked_recordForget {s : State} (t : Nat) {c : Cmd} {b : List Byte} (h : Buffered s Op.recordForget c 8 b) :
    let way := s.allowFind (beAt b 0 8)
    Checked (.recordForget t c) s t Op.recordForget c [(way.isNone, Status.allowNone)] (fun u => u.recordDrop (beAt b 0 8) (way.getD 0)) := by
  obtain ⟨hready, hcmpl, hlen, hbuf⟩ := h
  refine checked_of_regs (exec_recordForget s t c) hready hcmpl ?_ rfl (fun u => State.recordDrop_host u _ _)
    (fun u => State.recordDrop_regs u _ _)
  rw [opBody_recordForget, opRecordForget_checks _ hlen hbuf, State.allowFind_of (cmdState_ctx ..)]

/-- Settles O4: each command is its checks and its effect, and neither the effect of ALLOW_WRITE and ALLOW_ERASE nor what the command
engine does after it writes a terminal or a channel. -/
theorem allowCommands : Obligations.AllowCommands := by
  unfold Obligations.AllowCommands
  intro s t c b
  refine ⟨checked_allowWrite t, checked_allowErase t, checked_recordForget t, fun h => ?_, fun h => ?_⟩
  · exact gives_sameTerms (exec_allowWrite s t c) h (opAllowWrite_sameTerms _ (cmdState_sameTerms ..))
  · exact gives_sameTerms (exec_allowErase s t c) h (opAllowErase_sameTerms _ (cmdState_sameTerms ..))

end Sys2Proof.Machine
end

section
/-! The security-version commit of the management processor (17 R462). First what answers a mailbox request: raising an interrupt writes
the host interface, the registers and the outputs only, sets its PEND bit and takes back no output, so that `replyTo` meets `Replied`.
Then `serve` on a request that the Tandem serves, the three outcomes of SECVER_COMMIT, and the fuses it blows, bit by bit. -/

namespace Sys2Proof.Machine

/-! ## What raising an interrupt writes -/

/-- At most the host interface, the registers and the outputs of a state have changed: the fetched commands stand, and no output is
taken back. -/
structure Signalled (s u : State) : Prop where
  frame : u = { s with host := u.host, regs := u.regs, outs := u.outs }
  slots : u.host.slots = s.host.slots
  outs : s.outs ⊆ u.outs

theorem Signalled.refl (s : State) : Signalled s s := ⟨rfl, rfl, List.Subset.refl _⟩

theorem Signalled.trans {s u w : State} (hu : Signalled s u) (hw : Signalled u w) : Signalled s w where
  frame := by rw [hw.frame, hu.frame]
  slots := hw.slots.trans hu.slots
  outs := fun _ ho => hw.outs (hu.outs ho)

theorem State.setBit_signalled (s : State) (off i : Nat) (b : Bool) : Signalled s (s.setBit off i b) :=
  ⟨rfl, rfl, List.Subset.refl _⟩

theorem State.setIntGroup_signalled (s : State) (g : Nat) (v : IntGroup) : Signalled s (s.setIntGroup g v) :=
  ⟨rfl, rfl, List.Subset.refl _⟩

theorem State.emit_signalled (s : State) (o : Out) : Signalled s (s.emit o) := ⟨rfl, rfl, List.subset_append_left _ _⟩

/-- A group's message is not delivered, is owed, or is sent; the registers stay in each case. -/
theorem State.groupMessage_signalled (s : State) (g : Nat) :
    Signalled s (s.groupMessage g) ∧ (s.groupMessage g).regs = s.regs := by
  unfold State.groupMessage
  split
  · exact ⟨.refl s, rfl⟩
  · exact iteInduction (motive := fun u : State => Signalled s u ∧ u.regs = s.regs)
      (fun _ => ⟨s.setIntGroup_signalled g _, rfl⟩)
      (fun _ => ⟨(s.setIntGroup_signalled g _).trans (State.emit_signalled _ _), rfl⟩)

theorem State.raise_signalled (s : State) (g i : Nat) : Signalled s (s.raise g i) := by
  have hbit : Signalled s (s.setBit (Reg.hifInt g) i true) := s.setBit_signalled _ _ _
  unfold State.raise
  split
  · exact .refl s
  · dsimp only
    split
    · exact hbit
    · exact hbit.trans (State.groupMessage_signalled _ g).1

theorem State.flg_of_regs {s u : State} (h : u.regs = s.regs) (off i : Nat) : u.flg off i = s.flg off i := by
  simp [State.flg, State.reg, h]

theorem State.flg_setBit_self (s : State) (off : Nat) {i : Nat} (hi : i < 32) : (s.setBit off i true).flg off i = true := by
  have hreg : (s.setBit off i true).reg off = BitVec.ofNat 32 (Nat.lor (s.reg off).toNat (2 ^ i)) := Tab.get_set_self _ _ _ _
  have hlor : (Nat.lor (s.reg off).toNat (2 ^ i)).testBit i = true :=
    (Nat.testBit_or _ _ i).trans (by simp [Nat.testBit_two_pow_self])
  rw [State.flg, hreg, flag, BitVec.getLsbD_ofNat, hlor, decide_eq_true hi, Bool.true_and]

/-- An interrupt source that occurs out of reset is pending. -/
theorem State.raise_pends {s : State} (h : s.host.inReset = false) (g : Nat) {i : Nat} (hi : i < 32) :
    (s.raise g i).flg (Reg.hifInt g) i = true := by
  have hbit := s.flg_setBit_self (Reg.hifInt g) hi
  simp only [State.raise, h, Bool.false_eq_true, if_false]
  split
  · exact hbit
  · exact (State.flg_of_regs (State.groupMessage_signalled _ g).2 _ _).trans hbit

/-! ## Replies of the mailbox (R463) -/

theorem State.replyTo_slots (v : State) (seq status : Nat) (body : List Byte) :
    (v.replyTo seq status body).host.slots = v.host.slots := (State.raise_signalled _ 2 0).slots

/-- A mailbox that holds a reply, its output and its interrupt answer the request, whatever the reply buffer holds. -/
theorem replied_of_mailbox {v : State} {m : Mailbox} (hpend : m.pending = none) (hreply : m.reply = true)
    (hreq : m.request = v.mgt.mbx.request) (seq status : Nat) (body : List Byte) :
    Replied v ((({ v with mgt := { v.mgt with mbx := m } }).emit (.reply seq status body)).raise 2 0) seq status body := by
  generalize hu : ({ v with mgt := { v.mgt with mbx := m } } : State).emit (.reply seq status body) = u
  have hs := u.raise_signalled 2 0
  have hmbx : (u.raise 2 0).mgt.mbx = m := by rw [hs.frame, ← hu]; rfl
  refine ⟨hmbx ▸ hpend, hmbx ▸ hreply, hmbx ▸ hreq, hs.outs (by simp [← hu]), fun hr => ?_, ?_⟩
  · exact State.raise_pends (by rw [← hu]; exact hr) 2 (by decide)
  · rw [hmbx, hs.frame, ← hu]; rfl

theorem State.replyTo_replied (v : State) (seq status : Nat) (body : List Byte) :
    Replied v (v.replyTo seq status body) seq status body :=
  replied_of_mailbox (by rfl) (by rfl) (by rfl) seq status body

theorem Replied.life {v w : State} {seq status : Nat} {body : List Byte} (h : Replied v w seq status body) : w.life = v.life := by
  obtain ⟨_, _, _, _, _, hw⟩ := h
  rw [hw]

/-- A row of the always-on domain that does no more than reply, from a state with no fetched command in progress. -/
theorem gives_replied {i : Instr} {s v : State} {t seq status : Nat} {k : State → State} {body : List Byte}
    (ha : Awake s) (hi : exec i s = s.runAlways t k) (hk : k (s.begin t) = v.replyTo seq status body) (hv : v.host = s.host) :
    Gives i s (fun w => Replied v w seq status body) := by
  obtain ⟨hpor, hwarm, hslots⟩ := ha
  have hcalm : (k (s.begin t)).host.slots = [] := by rw [hk, State.replyTo_slots, hv, hslots]
  exact ⟨_, hi.trans (State.runAlways_calm hpor hwarm hcalm), hk ▸ v.replyTo_replied seq status body⟩

theorem Gives.mono {i : Instr} {s : State} {P Q : State → Prop} (h : Gives i s P) (hpq : ∀ w, P w → Q w) : Gives i s Q := by
  obtain ⟨w, hw, hp⟩ := h
  exact ⟨w, hw, hpq w hp⟩

/-- A request that the Tandem serves: BAD_LEN where the length does not match, else the operation. -/
theorem State.serve_served {s : State} {op seq : Nat} (h : ServesOp s op seq) (good : Nat → Bool) (k : Nat → State → State) :
    s.serve op good k = if good s.reqLen then k seq s else s.replyTo seq mbxBadLen [] := by
  obtain ⟨_, hpend, hserves, hop, hrec⟩ := h
  have haccepts : (!s.mgt.recovery || recoveryOps.contains op) = true := by
    cases hr : s.mgt.recovery
    · rfl
    · simpa using hrec hr
  rw [State.serve, hpend]
  simp only [hserves, hop, haccepts, beq_self_eq_true, Bool.and_self, Bool.not_true, Bool.false_eq_true, if_false]
  cases good s.reqLen <;> rfl

/-! ## The outcomes of SECVER_COMMIT (R462) -/

theorem exec_secverCommit (s : State) (t : Nat) : exec (.secverCommit t) s = s.runAlways t State.secverCommitDo := rfl

/-- R462: the other slot holds a valid image of lower SEC_VER, and byte 0 of the request does not insist. -/
def State.commitDenied (s : State) : Prop :=
  s.slotValid (1 - s.mgt.slot) = true ∧ s.slotSec (1 - s.mgt.slot) < s.mgt.secVer ∧ s.reqAt 16 1 ≠ 1

/-- The fuses after a commit of version n over fuses f: the n lowest are blown as well. -/
def fusedTo (f n : Nat) : Nat := Nat.lor f (2 ^ n - 1) % 2 ^ 64

/-- The state with its security-version fuses blown up to the running image's SEC_VER. -/
def State.blowSecv (s : State) : State := { s with life := { s.life with fuseSecv := fusedTo s.life.fuseSecv s.mgt.secVer } }

/-- A commit clears no fuse and blows those below the version. -/
theorem testBit_fusedTo (f n : Nat) {i : Nat} (hi : i < 64) : (fusedTo f n).testBit i = (f.testBit i || decide (i < n)) := by
  have hlor : (Nat.lor f (2 ^ n - 1)).testBit i = (f.testBit i || (2 ^ n - 1).testBit i) := Nat.testBit_or f _ i
  rw [fusedTo, Nat.testBit_mod_two_pow, hlor, Nat.testBit_two_pow_sub_one, decide_eq_true hi, Bool.true_and]

theorem State.commitDenied_iff (s : State) :
    (s.slotValid (1 - s.mgt.slot) && decide (s.slotSec (1 - s.mgt.slot) < s.mgt.secVer) && s.reqAt 16 1 != 1) = true
      ↔ s.commitDenied := by
  simp [State.commitDenied, and_assoc]

theorem State.secverCommitDo_badLen {s : State} {seq : Nat} (h : ServesOp s 0x0013 seq) (hl : s.reqLen ≠ 1) :
    s.secverCommitDo = s.replyTo seq mbxBadLen [] := by
  rw [State.secverCommitDo, State.serve_served h, if_neg (by simpa using hl)]

theorem State.secverCommitDo_denied {s : State} {seq : Nat} (h : ServesOp s 0x0013 seq) (hl : s.reqLen = 1)
    (hd : s.commitDenied) : s.secverCommitDo = s.replyTo seq mbxDenied [] := by
  rw [State.secverCommitDo, State.serve_served h, if_pos (by simpa using hl)]
  exact if_pos (s.commitDenied_iff.mpr hd)

theorem State.secverCommitDo_commits {s : State} {seq : Nat} (h : ServesOp s 0x0013 seq) (hl : s.reqLen = 1)
    (hd : ¬s.commitDenied) : s.secverCommitDo = s.blowSecv.replyTo seq mbxOk (Config.minimumBody s.blowSecv.minSec) := by
  rw [State.secverCommitDo, State.serve_served h, if_pos (by simpa using hl)]
  exact if_neg (hd ∘ s.commitDenied_iff.mp)

/-- Settles O53, by the three outcomes of the request; the fuses it blows are read off bit by bit. -/
theorem secverCommit : Obligations.SecverCommit := by
  unfold Obligations.SecverCommit
  intro s t seq h
  have hawake : Awake s := h.1
  have hrow := exec_secverCommit s t
  have hbegin : ServesOp (s.begin t) 0x0013 seq := h
  refine ⟨fun hl => ?_, fun hl => ?_⟩
  · exact gives_replied hawake hrow (State.secverCommitDo_badLen hbegin hl) rfl
  · by_cases hd : s.commitDenied
    · refine (gives_replied hawake hrow (State.secverCommitDo_denied hbegin hl hd) rfl).mono fun w hw => ?_
      exact ⟨fun _ => hw, fun hn => absurd hd hn⟩
    · refine (gives_replied hawake hrow (State.secverCommitDo_commits hbegin hl hd) rfl).mono fun w hw => ?_
      refine ⟨fun hn => absurd hn hd, fun _ => ⟨hw, fun i hi => ?_⟩⟩
      rw [hw.life]
      exact testBit_fusedTo _ _ hi

end Sys2Proof.Machine
end

section
/-! Writes of registers that act (20 R519; 16, 17, 18, 19 and 21). A word written to a register that stands alone, with neither a
buffer, a lane, a copy per path nor an RWL field, comes down to the register's effect behind the checks of its path; the rows named after
these registers are the same effects behind the same checks. -/

namespace Sys2Proof.Machine

/-! ## Where a write reaches a register's effect -/

/-- The aligned offset of a register of the map that is no delay register, no select register, no mailbox buffer, no register of a
lane, and has no RWL field: a write to it that its path and window let through has the register's effect, and no other. -/
abbrev ActsAlone (off : Nat) : Prop :=
  off % 4 = 0 ∧ isHbmDly off = false ∧ isSelect off = false ∧ ¬(0x11000 ≤ off ∧ off < 0x12000)
    ∧ ¬(Reg.sdsLcfg 0 ≤ off ∧ off < Reg.sdsLcfg 8) ∧ ∃ r ∈ regAt off, r.rwl = 0

theorem State.laneReserved_outside (s : State) {off : Nat} (h : ¬(Reg.sdsLcfg 0 ≤ off ∧ off < Reg.sdsLcfg 8)) :
    s.laneReserved off = false := by
  rw [State.laneReserved, ← Bool.decide_and, decide_eq_false h, Bool.false_and]

theorem RegRow.violates_of_rwl {r : RegRow} (h : r.rwl = 0) (locked : Bool) (old v : Nat) : r.violates locked old v = false := by
  simp [RegRow.violates, h]

/-- No write to such a register is a locked-field write (R538): its effect is all there is. -/
theorem State.regPut_acts (s : State) (path : Path) {off : Nat} (h : ActsAlone off) (n v : Nat) :
    ∃ new, s.regPut path off n v = s.regEffect path off n new v := by
  obtain ⟨_, _, _, hbuf, hlane, r, hr, hrwl⟩ := h
  have hviol := RegRow.violates_of_rwl hrwl s.life.locked (s.reg off n).toNat v
  refine ⟨r.store s.life.locked (s.reg off n).toNat v, ?_⟩
  simp [State.regPut, hbuf, Option.mem_def.mp hr, State.regApply, s.laneReserved_outside hlane, hviol]

/-- What a path lets through is its effect on this state. -/
theorem State.pathWrite_congr {s : State} {k k' : State → State} (path : Path) (r : Region) (h : k s = k' s) :
    s.pathWrite path r k = s.pathWrite path r k' := by
  cases path with
  | host => simp only [State.pathWrite, State.hostWrite, h]
  | mgmt => simp only [State.pathWrite, State.mgmtWrite, h]

/-- A word written through a select value in range reaches the register that the value selects; a register outside the windows counts
as number 0 of one. -/
theorem State.writeWord_regPut {s : State} {path : Path} {off : Nat} (v : Nat) (hdly : isHbmDly off = false)
    (hcopy : isSelect off = false) (hsel : s.selected path (winOf off) < winLimit (winOf off)) :
    s.writeWord path off v
      = s.pathWrite path (regionOf off) (fun u => u.regPut path off (u.selected path (winOf off)) v) := by
  rw [State.writeWord, if_neg (by simp [hdly])]
  refine State.pathWrite_congr path _ ?_
  cases hw : winOf off with
  | none => simp [hcopy, State.selected]
  | channel | slice | port | cluster =>
    rw [hw] at hsel
    exact if_neg (Nat.not_le.mpr hsel)

theorem State.writeWord_acts {s : State} {path : Path} {off v : Nat} {k : State → State} (h : ActsAlone off)
    (hsel : s.selected path (winOf off) < winLimit (winOf off))
    (hk : ∀ new, s.regEffect path off (s.selected path (winOf off)) new v = k s) :
    s.writeWord path off v = s.pathWrite path (regionOf off) k := by
  have ⟨_, hdly, hcopy, _⟩ := h
  rw [State.writeWord_regPut v hdly hcopy hsel]
  obtain ⟨new, hput⟩ := s.regPut_acts path h (s.selected path (winOf off)) v
  exact State.pathWrite_congr path _ (hput.trans (hk new))

/-- REGISTER_WRITE of an aligned word of BAR0. -/
theorem exec_registerWrite_word {off v : Nat} (s : State) (t : Nat) (path : Path) (hoff : off % 4 = 0) (hv : v < 2 ^ 32) :
    exec (.registerWrite t path .pf0 off 4 v) s = s.run t (fun u => u.writeWord path off v) := by
  have hword : ∀ u : State, u.registerWriteDo path .pf0 off 4 v = u.writeWord path off v := fun u => by
    rw [State.registerWriteDo, if_pos ⟨rfl, hoff⟩, Nat.mod_eq_of_lt hv]
    rfl
  exact congrArg (s.run t) (funext hword)

/-- A write that its select value lets through does what a row does, where the row runs the register's effect behind the checks of the
write's path. -/
theorem registerWrite_eq_row {s : State} {t off v : Nat} {path : Path} {i : Instr} {k : State → State} (hv : v < 2 ^ 32)
    (h : ActsAlone off) (hi : exec i s = s.run t (fun u => u.pathWrite path (regionOf off) k))
    (hsel : s.selected path (winOf off) < winLimit (winOf off))
    (hk : ∀ new, (s.begin t).regEffect path off (s.selected path (winOf off)) new v = k (s.begin t)) :
    exec (.registerWrite t path .pf0 off 4 v) s = exec i s := by
  have hregs : ∀ w, (s.begin t).selected path w = s.selected path w := fun w => by cases w <;> rfl
  have hword : (s.begin t).writeWord path off v = (s.begin t).pathWrite path (regionOf off) k :=
    State.writeWord_acts h (by rwa [hregs]) (by rwa [hregs])
  rw [exec_registerWrite_word s t path h.1 hv, hi, State.run, State.run, hword]

/-! ## What each of these registers does -/

theorem State.regEffect_glbCtrl_lock (s : State) (path : Path) (n new : Nat) {v : Nat} (hb : bit v 0 = true) :
    s.regEffect path Reg.glbCtrl n new v = s.lockDo :=
  if_pos hb

theorem State.regEffect_glbPwr_entry (s : State) (path : Path) (n new : Nat) {v : Nat} (hb : bit v 0 = true) :
    s.regEffect path Reg.glbPwr n new v = s.standbyEnterDo :=
  if_pos hb

theorem State.regEffect_glbPwr_exit (s : State) (path : Path) (n new : Nat) {v : Nat} (hb : bit v 0 = false) :
    s.regEffect path Reg.glbPwr n new v = s.standbyExitDo :=
  if_neg (ne_true_of_eq_false hb)

theorem State.regEffect_mgtMbxDb (s : State) (path : Path) (n new v : Nat) :
    s.regEffect path Reg.mgtMbxDb n new v = s.mailboxDoorbellDo (v % 65536) := rfl

theorem State.regEffect_fltInj (s : State) (path : Path) (n new v : Nat) :
    s.regEffect path Reg.fltInj n new v = s.injectDo v := rfl

theorem State.regEffect_cntSamp (s : State) (path : Path) (n new v : Nat) :
    s.regEffect path Reg.cntSamp n new v = s.sampSet v := rfl

theorem State.regEffect_pchCtrl_enable (s : State) (path : Path) (c new : Nat) {v : Nat} (hb : bit v 0 = true) :
    s.regEffect path Reg.pchCtrl c new v = s.channelEnableDo c :=
  if_pos hb

/-- R99: a write of 0 while EN reads 1 is a disable. -/
theorem State.regEffect_pchCtrl_disable {s : State} {c : Nat} (path : Path) (new : Nat) {v : Nat} (hb : bit v 0 = false)
    (hen : s.flg Reg.pchCtrl 0 c = true) : s.regEffect path Reg.pchCtrl c new v = s.channelDisableDo c :=
  (if_neg (ne_true_of_eq_false hb)).trans (if_pos hen)

/-- R519: a write of 0 while EN already reads 0 begins a reset. -/
theorem State.regEffect_pchCtrl_reset {s : State} {c : Nat} (path : Path) (new : Nat) {v : Nat} (hb : bit v 0 = false)
    (hen : s.flg Reg.pchCtrl 0 c = false) : s.regEffect path Reg.pchCtrl c new v = s.channelResetDo c :=
  (if_neg (ne_true_of_eq_false hb)).trans (if_neg (ne_true_of_eq_false hen))

/-- The delay registers have checks of their own. -/
theorem State.writeWord_hbmDly (s : State) (path : Path) (n : Fin 64) (v : Nat) :
    s.writeWord path (Reg.hbmDly n.val) v = s.hbmDlyDo path n.val v := by
  have hn := n.isLt
  have hdly : isHbmDly (Reg.hbmDly n.val) = true := by
    rw [isHbmDly, Bool.and_eq_true, decide_eq_true_iff, decide_eq_true_iff]
    simp only [Reg.hbmDly]
    omega
  have hnum : (Reg.hbmDly n.val - Reg.hbmDly 0) / 4 = n.val := by
    simp only [Reg.hbmDly]
    omega
  rw [State.writeWord, if_pos hdly, hnum]

/-! ## The registers of the host interface -/

theorem RegRow.holds_iff (r : RegRow) (off : Nat) :
    r.holds off = true ↔ r.base ≤ off ∧ (off - r.base) % r.stride = 0 ∧ (off - r.base) / r.stride < r.count := by
  simp [RegRow.holds, and_assoc]

/-- Where a family of n registers begins at b, its k-th stands in the map. -/
theorem regAt_isSome_of_family {b n d k : Nat} (h : ∃ r ∈ regMap, r.base = b ∧ r.count = n ∧ r.stride = d) (hd : 0 < d) (hk : k < n) :
    (regAt (b + d * k)).isSome = true := by
  obtain ⟨r, hr, rfl, rfl, rfl⟩ := h
  refine List.find?_isSome.mpr ⟨r, hr, (r.holds_iff _).mpr ⟨Nat.le_add_right _ _, ?_, ?_⟩⟩
  · rw [Nat.add_sub_cancel_left, Nat.mul_mod_right]
  · rwa [Nat.add_sub_cancel_left, Nat.mul_div_cancel_left _ hd]

/-- A register stands below the end of its row. -/
theorem RegRow.lt_of_holds {r : RegRow} {off : Nat} (hd : 0 < r.stride) (h : r.holds off = true) : off < r.base + r.count * r.stride := by
  obtain ⟨_, _, hcount⟩ := (r.holds_iff off).mp h
  have hspan := (Nat.div_lt_iff_lt_mul hd).mp hcount
  omega

/-- The host interface has no RWL field: each row with one ends before its block or begins behind it. -/
theorem regMap_rwl_outside_hif :
    ∀ r ∈ regMap, 0 < r.stride ∧ (r.rwl = 0 ∨ r.base + r.count * r.stride ≤ 0x100000 ∨ 0x140000 ≤ r.base) := by
  simp only [regMap, List.forall_mem_append, and_assoc]
  decide

theorem rwl_of_regAt_hif {r : RegRow} {off : Nat} (hr : regAt off = some r) (hlo : 0x100000 ≤ off) (hhi : off < 0x140000) :
    r.rwl = 0 := by
  obtain ⟨hstride, hrwl⟩ := regMap_rwl_outside_hif r (List.mem_of_find?_eq_some hr)
  have hholds : r.holds off = true := List.find?_some (p := fun x : RegRow => x.holds off) hr
  have hbase := ((r.holds_iff off).mp hholds).1
  have hend := RegRow.lt_of_holds hstride hholds
  omega

/-- A register of the host interface acts alone: the select registers, buffers, lanes and delays lie elsewhere. -/
theorem actsAlone_of_hif {off : Nat} (halign : off % 4 = 0) (hlo : 0x100000 ≤ off) (hhi : off < 0x140000)
    (hrow : (regAt off).isSome = true) : ActsAlone off := by
  obtain ⟨r, hr⟩ := Option.isSome_iff_exists.mp hrow
  refine ⟨halign, ?_, ?_, by omega, ?_, r, hr, rwl_of_regAt_hif hr hlo hhi⟩
  · rw [isHbmDly, ← Bool.decide_and, decide_eq_false_iff_not]
    simp only [Reg.hbmDly]
    omega
  · simp [isSelect, Reg.pchSel, Reg.slcSel, Reg.uplSel, Reg.cclSel]
    omega
  · simp only [Reg.sdsLcfg]
    omega

theorem regionOf_hif {off : Nat} (hlo : 0x100000 ≤ off) (hhi : off < 0x140000) : regionOf off = .hif := by
  rw [regionOf, if_neg (by omega), if_neg (by omega), if_neg (by omega), if_pos ⟨hlo, hhi⟩]

theorem winOf_hif {off : Nat} (hhi : off < 0x140000) : winOf off = .none := by
  rw [winOf, if_neg (by omega), if_neg (by omega), if_neg (by omega), if_neg (by omega)]

/-- The effects in the block of the host interface (16 Tables 13 and 14): no single register of another block is meant. -/
theorem State.regEffect_hif (s : State) (path : Path) {off : Nat} (n new v : Nat) (hlo : 0x100000 ≤ off) (hhi : off < 0x140000) :
    s.regEffect path off n new v =
      if 0x110000 ≤ off ∧ off < 0x118000 then s.pfRingWrite ((off - 0x110000) / 0x20) (off % 0x20) v
      else if 0x120000 ≤ off ∧ off < 0x121000 then s.deliverIdx ((off - 0x120000) / 4) v
      else if 0x100100 ≤ off ∧ off < 0x100180 ∧ off % 8 = 0 then s.intWrite ((off - 0x100100) / 8) v
      else if 0x100810 ≤ off ∧ off < 0x100C00 then s.vfWindowWrite off new
      else s.setReg off (BitVec.ofNat 32 new) n := by
  have hne : ∀ a, a < 0x100000 ∨ 0x140000 ≤ a → off ≠ a := fun a ha => by omega
  have hprofile : ¬(0x201040 ≤ off ∧ off < 0x2010C0 ∧ new ≠ (s.reg off n).toNat) := fun ⟨h, _⟩ => by omega
  rw [State.regEffect, if_neg hprofile]
  simp (disch := decide) only [hne, if_false]

theorem State.regEffect_hifInt (s : State) (path : Path) (g : Fin 16) (n new v : Nat) :
    s.regEffect path (Reg.hifInt g.val) n new v = s.intWrite g.val v := by
  have hg := g.isLt
  have hnum : (0x100100 + 8 * g.val - 0x100100) / 8 = g.val := by omega
  rw [Reg.hifInt, s.regEffect_hif path n new v (by omega) (by omega), if_neg (by omega), if_neg (by omega), if_pos (by omega), hnum]

theorem State.regEffect_hifDoorbell (s : State) (path : Path) (r : RingIx) (n new v : Nat) :
    s.regEffect path (Reg.hifDoorbell r.val) n new v = s.deliverIdx r.val v := by
  have hr := r.isLt
  have hnum : (0x120000 + 4 * r.val - 0x120000) / 4 = r.val := by omega
  rw [Reg.hifDoorbell, s.regEffect_hif path n new v (by omega) (by omega), if_neg (by omega), if_pos (by omega), hnum]

/-- A host write to a register of the host interface does what a row does, where the row runs the register's effect behind the checks
of that block. -/
theorem registerWrite_hif_eq_row {s : State} {t off v : Nat} {i : Instr} {k : State → State} (hv : v < 2 ^ 32) (halign : off % 4 = 0)
    (hlo : 0x100000 ≤ off) (hhi : off < 0x140000) (hrow : (regAt off).isSome = true)
    (hi : exec i s = s.run t (fun u => u.hostWrite .hif k)) (hk : ∀ n new, (s.begin t).regEffect .host off n new v = k (s.begin t)) :
    exec (.registerWrite t .host .pf0 off 4 v) s = exec i s := by
  refine registerWrite_eq_row hv (actsAlone_of_hif halign hlo hhi hrow) (k := k) ?_ ?_ (hk _)
  · rw [regionOf_hif hlo hhi]
    exact hi
  · rw [winOf_hif hhi]
    exact Nat.one_pos

/-! ## The statement -/

/-- A write to PCH_CTRL through a path's select value does what a row of the channel selected does. -/
theorem registerWrite_pchCtrl_eq_row {s : State} {t v : Nat} {path : Path} {c : Chan} {i : Instr} {k : State → State}
    (hv : v < 2 ^ 32) (hc : s.selected path .channel = c.val) (hi : exec i s = s.run t (fun u => u.pathWrite path .other k))
    (hk : ∀ new, (s.begin t).regEffect path Reg.pchCtrl c.val new v = k (s.begin t)) :
    exec (.registerWrite t path .pf0 Reg.pchCtrl 4 v) s = exec i s := by
  have hsel : s.selected path (winOf Reg.pchCtrl) = c.val := hc
  exact registerWrite_eq_row hv (by decide) hi (hsel ▸ c.isLt) (hsel ▸ hk)

/-- R44, R99, R519: the three meanings of a write to PCH_CTRL.EN. -/
theorem registerWrite_pchCtrl {s : State} {t v : Nat} {path : Path} {c : Chan} (hv : v < 2 ^ 32)
    (hc : s.selected path .channel = c.val) :
    exec (.registerWrite t path .pf0 Reg.pchCtrl 4 v) s
      = if bit v 0 then exec (.channelEnable t path c) s
        else if s.flg Reg.pchCtrl 0 c.val then exec (.channelDisable t path c) s else exec (.channelReset t path c) s := by
  cases hb : bit v 0 with
  | true =>
    rw [if_pos rfl]
    exact registerWrite_pchCtrl_eq_row hv hc rfl fun new => State.regEffect_pchCtrl_enable _ _ _ new hb
  | false =>
    rw [if_neg Bool.false_ne_true]
    cases hen : s.flg Reg.pchCtrl 0 c.val with
    | true =>
      rw [if_pos rfl]
      exact registerWrite_pchCtrl_eq_row hv hc (k := fun u => u.channelDisableDo c.val) rfl fun new =>
        State.regEffect_pchCtrl_disable _ new hb hen
    | false =>
      rw [if_neg Bool.false_ne_true]
      exact registerWrite_pchCtrl_eq_row hv hc (k := fun u => u.channelResetDo c.val) rfl fun new =>
        State.regEffect_pchCtrl_reset _ new hb hen

/-- Settles O48: the registers named act alone, so that a word written to one comes down to its effect behind the checks of the path,
which is what the row named after it runs. -/
theorem namedWrites : Obligations.NamedWrites := by
  unfold Obligations.NamedWrites
  intro s t v path hv
  refine ⟨fun hb => ⟨?_, ?_⟩, fun hb => ?_, fun c hc => registerWrite_pchCtrl hv hc, ?_, ?_, ?_, fun n => ?_, fun g => ?_, fun r => ?_⟩
  · exact registerWrite_eq_row hv (by decide) (k := State.lockDo) rfl Nat.one_pos fun new => State.regEffect_glbCtrl_lock _ _ _ new hb
  · exact registerWrite_eq_row hv (by decide) (k := State.standbyEnterDo) rfl Nat.one_pos
      fun new => State.regEffect_glbPwr_entry _ _ _ new hb
  · exact registerWrite_eq_row hv (by decide) (k := State.standbyExitDo) rfl Nat.one_pos
      fun new => State.regEffect_glbPwr_exit _ _ _ new hb
  · exact registerWrite_eq_row hv (by decide) (k := fun u => u.mailboxDoorbellDo (v % 65536)) rfl Nat.one_pos
      fun new => State.regEffect_mgtMbxDb _ _ _ new v
  · exact registerWrite_eq_row hv (by decide) (k := fun u => u.injectDo v) rfl Nat.one_pos
      fun new => State.regEffect_fltInj _ _ _ new v
  · exact registerWrite_eq_row hv (by decide) (k := fun u => u.sampSet v) rfl Nat.one_pos
      fun new => State.regEffect_cntSamp _ _ _ new v
  · have halign : Reg.hbmDly n.val % 4 = 0 := by
      simp only [Reg.hbmDly]
      omega
    have hword : (fun u : State => u.writeWord path (Reg.hbmDly n.val) v) = fun u => u.hbmDlyDo path n.val v :=
      funext fun u => u.writeWord_hbmDly path n v
    exact (exec_registerWrite_word s t path halign hv).trans (congrArg (s.run t) hword)
  · have hg := g.isLt
    exact registerWrite_hif_eq_row hv (by simp only [Reg.hifInt]; omega) (by simp only [Reg.hifInt]; omega)
      (by simp only [Reg.hifInt]; omega) (regAt_isSome_of_family (n := 16) (by decide) (by decide) hg)
      (k := fun u => u.intWrite g.val v) rfl fun n new => State.regEffect_hifInt _ _ g n new v
  · have hr := r.isLt
    have hidx : v % 2 ^ 32 = v := Nat.mod_eq_of_lt hv
    exact registerWrite_hif_eq_row hv (by simp only [Reg.hifDoorbell]; omega) (by simp only [Reg.hifDoorbell]; omega)
      (by simp only [Reg.hifDoorbell]; omega) (regAt_isSome_of_family (n := 1024) (by decide) (by decide) hr)
      (k := fun u => u.deliverIdx r.val (v % 2 ^ 32)) rfl fun n new => by rw [hidx, State.regEffect_hifDoorbell]

end Sys2Proof.Machine
end
